-- ==== Sys2Proof/Word.lean ====
section
/-! DEFINITION. The word types of the line: a byte, a 16-bit field and a 32-bit field (R29). -/

namespace Sys2Proof

/-- One byte of a telegram (R29). -/
abbrev Byte := BitVec 8

/-- A 16-bit field of a telegram body. -/
abbrev Half := BitVec 16

/-- A 32-bit field: a roll id, a hall clock value, a subject map. -/
abbrev Word := BitVec 32

end Sys2Proof
end

