-- ==== Sys2Proof/Syntax.lean ====
section
/-! DEFINITION. The commands of the part: one constructor of Instr for each row of spec/opcode_table.json,
with the telegrams and received bytes they carry. -/

namespace Sys2Proof

/-- The two line ports (R28). -/
inductive Port where
  | upper
  | floor
  deriving DecidableEq, Repr

/-- A good telegram (R29): LEN and CHECK follow from the rest and are not held. -/
structure Telegram where
  dst  : Byte
  src  : Byte
  cls  : Byte
  body : List Byte
  deriving DecidableEq, Repr

/-- A completed receive (R28): whole bytes, and the bits left over behind the last whole byte. -/
structure Receive where
  bytes : List Byte
  stray : Fin 8
  deriving DecidableEq, Repr

/-- Vehicle n of the manual is index n - 1. -/
abbrev VehicleIx := Fin 16

/-- Stand n of the manual is index n - 1. -/
abbrev StandIx := Fin 24

/-- Press n of the manual is index n - 1. -/
abbrev PressIx := Fin 4

/-- Zone n of the manual is index n - 1. -/
abbrev ZoneIx := Fin 8

/-- The steps of the part. A telegram row carries DST, SRC and the body fields of R32's layouts; a timer row carries the
vehicle or press whose count ran out; a management row carries nothing, since it executes the oldest queued request (R187). -/
inductive Instr where
  | reset
  | clearingPassComplete
  | hallTick
  | badReceive (port : Port) (rx : Receive)
  | upperForward (t : Telegram)
  | mgmtRequestReceived (t : Telegram)
  | moveNew (dst src : Byte) (rest : List Byte)
  | moveCancel (dst src : Byte) (rest : List Byte)
  | runStart (dst src press : Byte) (run : Half) (edition : Byte)
  | runGood (dst src press : Byte) (run : Half) (edition : Byte)
  | runEdition (dst src press : Byte) (run : Half) (edition : Byte)
  | runEnd (dst src press : Byte) (run : Half) (edition : Byte)
  | floorUnacted (t : Telegram)
  | vpos (dst src segment motion : Byte) (load : Word) (request : Byte)
  | vloadPick (dst src kind : Byte) (number : Half) (roll : Word)
  | vloadDrop (dst src kind : Byte) (number : Half) (roll : Word)
  | vdone (dst src tag outcome : Byte)
  | standReport (dst src : Byte) (diameter : Half) (active other : Word)
  | spliceMade (dst src : Byte) (old new : Word)
  | spliceMissed (dst src : Byte) (old new : Word)
  | webBreak (dst src : Byte) (roll : Word)
  | drive (dst src press : Byte) (speed : Half)
  | count (dst src press : Byte) (good waste : Half) (reason : Byte)
  | transmitStart (port : Port)
  | restartHoldPlaced
  | alarmPulseEnd
  | vehicleLost (v : VehicleIx)
  | lostRetryHold (v : VehicleIx)
  | driveSilent (p : PressIx)
  | countSilent (p : PressIx)
  | holdoverLimit (p : PressIx)
  | predictionTick
  | searchStep
  | searchComplete
  | linkFallenSilent
  | mread
  | mwriteNodes
  | mwriteVehicles
  | mwriteSegments
  | mwriteRoutes
  | mwritePlaces
  | rollAnnounce
  | mwriteStands
  | mwritePlanNext
  | mwriteHall
  | mwriteOther
  | start
  | config
  | restart
  | partition
  | resume
  | planReady
  | planSwap
  | clearFlags
  | setMasks
  | setTime
  | blockPlace
  | unblockPlace
  | blockSegment
  | unblockSegment
  | vehicleOff
  | vehicleOn
  | writeOff
  | clearZone
  | speedForce
  | speedFree
  | takeRun
  | clearStarved
  | mrollNone
  | mrollReserve
  | mrollRelease
  | mrollHold
  | mrollUnhold
  | mrollRemove
  | rstPinLow
  | badActionRequest
  deriving DecidableEq, Repr

end Sys2Proof
end

