-- ==== Sys2Proof/Decode.lean ====
section
/-! DEFINITION. The command a table word spells. No row of spec/opcode_table.json gives bits, so no word spells one. -/

namespace Sys2Proof

/-- No row of the table gives bits: every word is refused (log 1). -/
def decodeTableWord (_nbits _w : Nat) : Option Instr := none

end Sys2Proof
end

