-- ==== Sys2Proof/Config.lean ====
section
/-! DEFINITION. What the VH412 fixes for good: the sizes of its queues and tables.
The spec leaves no result of a step open, so there is no free value here (log 8). -/

namespace Sys2Proof.Config

/-- Slots of the Floor urgent queue (R45). -/
def urgentSlots : Nat := 8

/-- Slots of the Floor normal queue (R45). -/
def normalSlots : Nat := 24

/-- Slots of the Upper queue (R45). -/
def upperSlots : Nat := 32

/-- Requests the MGA queue holds (R37). -/
def mgaSlots : Nat := 4

/-- Orders a hold queue holds (R72). -/
def holdSlots : Nat := 4

/-- Records the closed-run queue holds (R152). -/
def closedSlots : Nat := 8

/-- The greatest body length of a telegram (R29). -/
def maxBody : Nat := 60

/-- Data bytes of an MREPLY (R187). -/
def replyData : Nat := 54

/-- Segments a wait-cycle test visits at most (R64). -/
def cycleVisits : Nat := 16

/-- Time to splice that means unbounded (R131). -/
def unbounded : Nat := 65535

/-- The greatest web speed (R116). -/
def maxSpeed : Nat := 1500

end Sys2Proof.Config
end

