-- ==== Sys2Proof/Machine/State.lean ====
section
/-! DEFINITION. The state of the VH412: every table, record, queue, counter, mark and pin the spec names, block by block
(00 "Block overview"), and the part's state after power-on reset. Plain data throughout. -/

namespace Sys2Proof.Machine

/-- The ways a step can stop with a fault. There is none: every condition of the manual ends in a result, a REFUSE, a
GRANT or a flag, and the part goes on. -/
inductive Fault where
  deriving DecidableEq, Repr

/-- The ways a step can be refused. -/
inductive Refusal where
  /-- Raised by exec for a command that has no meaning yet. Safe: the run stops. -/
  | notModelled (mnemonic : String)
  deriving DecidableEq, Repr

/-- A roll id (00 "Roll ids"): 0 is none, all ones is unknown roll. -/
abbrev RollId := Word

/-- The four modes of the SFU (11 "Modes"). -/
inductive Mode where
  | startUp
  | config
  | normal
  | autonomous
  deriving DecidableEq, Repr

/-- Location kinds (00 "Locations"), in the order of their codes (02 "Body layouts"). -/
inductive LocKind where
  | none
  | place
  | stand
  | dock
  | waste
  | home
  | segment
  deriving DecidableEq, Repr

/-- A location: a kind and a number. With kind NONE the number is what the telegram carried. -/
structure Loc where
  kind : LocKind
  num  : Nat
  deriving DecidableEq, Repr

/-- One order, named by its vehicle and tag: a drop claim (R9) or a call's order link (R135). -/
structure OrderRef where
  vehicle : VehicleIx
  tag     : Byte
  deriving DecidableEq, Repr

/-! ### Rolls, places and routes: the table memory (R1, R6, R55, R193, R194) -/

/-- The owner of a RESERVED roll (R2, R10). -/
inductive Owner where
  | call (s : StandIx)
  | management
  deriving DecidableEq, Repr

/-- State, location and reservation owner of a roll in one: R3 pairs each state with its kind of location, and an
owner is present exactly in RESERVED (R2, R10). -/
inductive RollStatus where
  | announced (dock : Nat)
  | stored (place : Nat)
  | reserved (place : Nat) (owner : Owner)
  | carried (carrier : Option VehicleIx)
  | standby (s : StandIx)
  | running (s : StandIx)
  | butt (s : StandIx)
  deriving DecidableEq, Repr

/-- A roll's hold set (R12). -/
structure Holds where
  parity     : Bool := false
  breaks     : Bool := false
  diameter   : Bool := false
  lostTrack  : Bool := false
  management : Bool := false
  deriving DecidableEq, Repr

/-- One reason to hold a roll (R12). -/
inductive HoldKind where
  | parity
  | breaks
  | diameter
  | lostTrack
  | management
  deriving DecidableEq, Repr

/-- A roll record (R2). -/
structure Roll where
  id        : RollId
  grade     : Nat
  width     : Nat
  dann      : Nat
  core      : Nat
  caliper   : Nat
  dcur      : Nat
  lr        : Nat
  status    : RollStatus
  holds     : Holds := {}
  hasRun    : Bool := false
  lastPress : Option PressIx := none
  breaks    : Nat := 0
  waste     : Nat := 0
  announced : Word
  deriving DecidableEq, Repr

/-- A place record (R6). -/
structure Place where
  access   : Nat := 0
  zone     : Nat := 0
  blocked  : Bool := false
  occupant : Option RollId := none
  claim    : Option OrderRef := none
  deriving DecidableEq, Repr

/-- A held route slot (R55). -/
structure Route where
  start : Loc
  goal  : Loc
  leg   : List Nat
  deriving DecidableEq, Repr

/-- The partition (R193). -/
structure Sizes where
  rolls  : Nat := 1024
  places : Nat := 512
  routes : Nat := 256
  deriving DecidableEq, Repr

/-- The Table Memory Controller: the partition, the three tables, and the records whose parity bits do not match (R194).
Each table lists its records by rising number and lists no record that reads as free or all 0 (Table.wf). -/
structure Tmc where
  sizes     : Sizes := {}
  rolls     : List (Nat × Roll) := []
  places    : List (Nat × Place) := []
  routes    : List (Nat × Route) := []
  badRolls  : List Nat := []
  badPlaces : List Nat := []
  badRoutes : List Nat := []
  deriving DecidableEq, Repr

/-! ### The Line Transit Unit and the Node Directory -/

/-- Queues, counters and transmitters of the LTU (R31, R45, R50). -/
structure Ltu where
  urgent       : List Telegram := []
  normal       : List Telegram := []
  upper        : List Telegram := []
  upperErrors  : Nat := 0
  floorErrors  : Nat := 0
  restartHolds : List Telegram := []
  upperSending : Option Telegram := none
  floorSending : Option Telegram := none
  deriving DecidableEq, Repr

/-- Node kinds (R33). -/
inductive NodeKind where
  | vehicle
  | stand
  | folder
  | drive
  | upper
  deriving DecidableEq, Repr

/-- A held node table entry (R33). The subject is the manual's number, 0 for UPPER; the period is 0 but for a VEHICLE. -/
structure NodeEntry where
  addr    : Byte
  kind    : NodeKind
  subject : Nat
  period  : Nat
  deriving DecidableEq, Repr

/-! ### The Track Claim Unit -/

/-- A segment record (R52). -/
structure Segment where
  capacity : Nat := 0
  zone     : Nat := 0
  blocked  : Bool := false
  holders  : List VehicleIx := []
  waiters  : List VehicleIx := []
  deriving DecidableEq, Repr

/-- A zone record (R68); bit n - 1 of a set stands for vehicle n. -/
structure Zone where
  haltOne   : Bool := false
  lost      : BitVec 16 := 0
  intruders : BitVec 16 := 0
  deriving DecidableEq, Repr

/-- The TCU's own tables and setting (R52, R58, R68). -/
structure Tcu where
  segments   : List (Nat × Segment) := []
  claimDepth : Nat := 3
  zones      : Vector Zone 8 := Vector.replicate 8 {}
  deriving DecidableEq, Repr

/-! ### The Vehicle Order Unit -/

/-- Vehicle states (R73). -/
inductive VStatus where
  | off
  | idle
  | busy
  | lost
  deriving DecidableEq, Repr

/-- The state a LOST vehicle had before (R72). -/
inductive BeforeLoss where
  | idle
  | busy
  deriving DecidableEq, Repr

/-- A vehicle's halt cause set (R72, R91). -/
structure Causes where
  zone       : Bool := false
  deadlock   : Bool := false
  management : Bool := false
  intrusion  : Bool := false
  deriving DecidableEq, Repr

/-- A vehicle's load (R3). -/
inductive Load where
  | empty
  | roll (id : RollId)
  | unknown
  deriving DecidableEq, Repr

/-- Who an order comes from (R75). -/
inductive Source where
  | upper
  | part
  deriving DecidableEq, Repr

/-- An order's hold on its drop location (R75). -/
inductive DropHold where
  | none
  | held
  | pending
  | consumed
  deriving DecidableEq, Repr

/-- An order's progress (R75). -/
inductive Progress where
  | toPickup
  | toDrop
  deriving DecidableEq, Repr

/-- An order record (R75). -/
structure Order where
  tag      : Byte
  source   : Source
  reply    : Byte
  pickup   : Loc
  drop     : Loc
  roll     : RollId
  claim    : DropHold := .none
  link     : Option StandIx := none
  leg1     : List Nat := []
  leg2     : List Nat := []
  progress : Progress
  deriving DecidableEq, Repr

/-- A claim of a vehicle with its position in the path (R58). -/
structure TrackClaim where
  seg : Nat
  pos : Option Nat
  deriving DecidableEq, Repr

/-- One entry of a path, with the order it belongs to (R59). -/
structure PathEntry where
  seg : Nat
  tag : Byte
  deriving DecidableEq, Repr

/-- A vehicle record (R72). The node address stands in the node table, the waiting place in the segment table. -/
structure Vehicle where
  home           : Nat
  window         : Nat := 2
  status         : VStatus := .off
  beforeLoss     : BeforeLoss := .idle
  causes         : Causes := {}
  intrusionZones : BitVec 8 := 0
  outstanding    : List Order := []
  queue          : List Order := []
  endLoc         : Loc
  claims         : List TrackClaim := []
  path           : List PathEntry := []
  pointer        : Nat := 0
  currentSeg     : Nat := 0
  motion         : Byte := 0
  repLoad        : RollId := 0
  load           : Load := .empty
  lastReport     : Word := 0
  supCount       : Nat := 0
  retryCount     : Nat := 0
  retryLimit     : Nat := 10
  deriving DecidableEq, Repr

/-- Vehicle v after power-on: OFF, at HOME v, with window 2 (R97). -/
def Vehicle.powerOn (v : VehicleIx) : Vehicle := { home := v.val + 1, endLoc := ⟨.home, v.val + 1⟩ }

/-- The vehicle table, the part tag counter and the retry interval (R72, R75, R87). -/
structure Vou where
  vehicles      : Vector Vehicle 16 := ⟨⟨(List.finRange 16).map Vehicle.powerOn⟩, by simp⟩
  nextTag       : Nat := 200
  retryInterval : Nat := 10
  deriving DecidableEq, Repr

/-! ### The Feed Unit -/

/-- Stand states (R100). -/
inductive StandState where
  | out
  | idle
  | feeding
  | armed
  | starved
  deriving DecidableEq, Repr

/-- What the other arm holds (R98). -/
inductive Arm where
  | none
  | standby (id : RollId)
  | butt (id : RollId)
  deriving DecidableEq, Repr

/-- A stand record (R98). -/
structure Stand where
  press       : Option PressIx := none
  state       : StandState := .out
  active      : Option RollId := none
  other       : Arm := .none
  claim       : Option OrderRef := none
  lr          : Nat := 0
  carry       : Nat := 0
  lres        : Nat := 0
  ts          : Nat := Config.unbounded
  implausible : Nat := 0
  deadReckon  : Bool := false
  late        : Bool := false
  lastTick    : Word := 0
  deriving DecidableEq, Repr

/-- Source states of a press speed record (R116), in the order R116 lists them. -/
inductive SpeedSource where
  | trackPrimary
  | trackSecondary
  | hold
  | nominal
  | forced
  deriving DecidableEq, Repr

/-- A press speed record (R116). An open count interval holds its elapsed ticks. -/
structure Speed where
  estimate     : Nat := 0
  source       : SpeedSource := .trackPrimary
  limiting     : Bool := false
  age          : Nat := 0
  lastDrive    : Word := 0
  lastCount    : Word := 0
  driveSilence : Nat := 0
  countSilence : Nat := 0
  interval     : Option Nat := none
  pendingInc   : Nat := 0
  holdover     : Nat := 0
  deriving DecidableEq, Repr

/-- The four hall settings of a press (R117). -/
structure SpeedSettings where
  slew    : Nat := 120
  silence : Nat := 20
  holdover : Nat := 120
  floor   : Nat := 30
  deriving DecidableEq, Repr

/-- The state of a call, with the roll and the order link its state gives it (R135). -/
inductive CallPhase where
  | opened
  | searching
  | selected (roll : RollId)
  | ordered (roll : RollId) (link : OrderRef)
  deriving DecidableEq, Repr

/-- A call record (R135). -/
structure Call where
  stand   : StandIx
  phase   : CallPhase
  noRoll  : Bool := false
  due     : Nat
  early   : Bool
  overdue : Bool := false
  deriving DecidableEq, Repr

/-- The best candidate of a scan, as its records were read (R137). -/
structure Candidate where
  slot      : Nat
  roll      : RollId
  hasRun    : Bool
  announced : Word
  place     : Nat
  deriving DecidableEq, Repr

/-- The roll search in flight (R137): the stand of its call, the next slot to read, the best candidate, and whether an
availability notice was taken during the scan (R138). -/
structure Search where
  stand   : StandIx
  next    : Nat := 1
  best    : Option Candidate := none
  noticed : Bool := false
  deriving DecidableEq, Repr

/-- The FDU's tables, settings and counters. -/
structure Fdu where
  stands           : Vector Stand 24 := Vector.replicate 24 {}
  speeds           : Vector Speed 4 := Vector.replicate 4 {}
  settings         : Vector SpeedSettings 4 := Vector.replicate 4 {}
  tolerance        : Nat := 5
  implausibleLimit : Nat := 3
  lateMargin       : Nat := 100
  starved          : BitVec 32 := 0
  lastStarved      : Nat := 0
  lastStarvedTick  : Word := 0
  calls            : List Call := []
  search           : Option Search := none
  predictionCount  : Nat := 0
  deriving DecidableEq, Repr

/-! ### The Spoilage Counting Unit -/

/-- Run phases (R147). -/
inductive Phase where
  | startUp
  | good
  | plateChange
  deriving DecidableEq, Repr

/-- Waste classes (R155). -/
inductive WasteClass where
  | startUp
  | splice
  | brk
  | plateChange
  | other
  deriving DecidableEq, Repr

/-- An open run record (R147). -/
structure Run where
  number       : Nat
  edition      : Nat
  phase        : Phase := .startUp
  startTick    : Word
  good         : Nat := 0
  wasteStartUp : Nat := 0
  wasteSplice  : Nat := 0
  wasteBreak   : Nat := 0
  wastePlate   : Nat := 0
  wasteOther   : Nat := 0
  butt         : Nat := 0
  made         : Nat := 0
  missed       : Nat := 0
  breaks       : Nat := 0
  deriving DecidableEq, Repr

/-- Why a run was closed (R152). -/
inductive CloseCause where
  | ended
  | started
  deriving DecidableEq, Repr

/-- A closed-run record (R152); the run keeps the phase it was closed in. -/
structure ClosedRun where
  press   : PressIx
  run     : Run
  endTick : Word
  cause   : CloseCause
  deriving DecidableEq, Repr

/-- States of the waste-ratio monitor (R161). -/
inductive Monitor where
  | ok
  | warn
  | alarm
  deriving DecidableEq, Repr

/-- A splice or break window (R148). A break window has no stand. -/
structure Window where
  remaining : Nat := 0
  stand     : Option StandIx := none
  roll      : Option RollId := none
  deriving DecidableEq, Repr

/-- A press record (R148). -/
structure PressRec where
  idleGood    : Nat := 0
  idleWaste   : Nat := 0
  unassigned  : Nat := 0
  monitor     : Monitor := .ok
  blockCopies : Nat := 0
  blockWaste  : Nat := 0
  lastRatio   : Nat := 0
  splice      : Window := {}
  brk         : Window := {}
  deriving DecidableEq, Repr

/-- The SCU's records (R147, R148, R152). -/
structure Scu where
  runs     : Vector (Option Run) 4 := Vector.replicate 4 none
  presses  : Vector PressRec 4 := Vector.replicate 4 {}
  closed   : List ClosedRun := []
  scrapped : Nat := 0
  deriving DecidableEq, Repr

/-! ### The Plan Store -/

/-- The press part of a bank (R165). -/
structure PressPart where
  inUse      : Bool := false
  cutoff     : Nat := 0
  nominal    : Nat := 0
  block      : Nat := 0
  warn       : Nat := 0
  alarm      : Nat := 0
  hyst       : Nat := 0
  spliceLen  : Nat := 0
  breakLen   : Nat := 0
  breakLimit : Nat := 0
  deriving DecidableEq, Repr

/-- The stand part of a bank (R165). -/
structure StandPart where
  lead      : Bool := false
  grade     : Nat := 0
  width     : Nat := 0
  minLength : Nat := 0
  splice    : Nat := 0
  callLead  : Nat := 0
  deriving DecidableEq, Repr

/-- The banks and ready marks (R165). -/
structure Pls where
  activePress : Vector PressPart 4 := Vector.replicate 4 {}
  nextPress   : Vector PressPart 4 := Vector.replicate 4 {}
  activeStand : Vector StandPart 24 := Vector.replicate 24 {}
  nextStand   : Vector StandPart 24 := Vector.replicate 24 {}
  ready       : Vector Bool 4 := Vector.replicate 4 false
  deriving DecidableEq, Repr

/-! ### The Supervision and Flag Unit, the MGA and the pins -/

/-- The 30 flags, in the order of their numbers (R183). -/
inductive Flag where
  | lineCheck
  | nodeMismatch
  | floorMgmt
  | queueOverflow
  | upperOverflow
  | mgmtOverflow
  | vehicleLost
  | intrusion
  | deadlock
  | strayReport
  | unknownRoll
  | rollMisplaced
  | placeConflict
  | noRoll
  | callOverdue
  | standStarved
  | spliceLate
  | armMismatch
  | diameterImplausible
  | speedHoldover
  | speedNominal
  | planMismatch
  | planNotReady
  | wasteWarn
  | wasteAlarm
  | runLost
  | rollBreakHold
  | autonomous
  | memoryParity
  | noticeDropped
  deriving DecidableEq, Repr

/-- A flag's record (R183); bit n - 1 of the subject set stands for subject n. -/
structure FlagRec where
  latched  : Bool := false
  masked   : Bool := false
  subject  : Word := 0
  subjects : Word := 0
  tick     : Word := 0
  deriving DecidableEq, Repr

/-- The SFU: mode, collector address, link supervision, flags and the ALARM pulse (R177, R183, R185, R189). -/
structure Sfu where
  mode       : Mode := .startUp
  collector  : Byte := 0
  linkPeriod : Nat := 0
  linkCount  : Nat := 0
  flags      : Vector FlagRec 30 := Vector.replicate 30 {}
  pulse      : Nat := 0
  deriving DecidableEq, Repr

/-- The MGA: the request queue, and the PARTITION request whose reply waits for the clearing pass (R37, R193). -/
structure Mga where
  queue            : List Telegram := []
  partitionWaiting : Option Telegram := none
  deriving DecidableEq, Repr

/-- The pins (11 "Pins"): the straps, RST, and ALARM as driven. -/
structure Pins where
  addr      : BitVec 3 := 0
  msizeHigh : Bool := false
  rstLow    : Bool := false
  alarmLow  : Bool := false
  deriving DecidableEq, Repr

/-- An event that a hall tick has found due: a count has reached its limit, or the prediction counter has come round.
The model's own (log 7): the event's command takes it. -/
inductive Due where
  | vehicleLost (v : VehicleIx)
  | lostRetry (v : VehicleIx)
  | driveSilent (p : PressIx)
  | countSilent (p : PressIx)
  | holdover (p : PressIx)
  | prediction
  | linkSilent
  deriving DecidableEq, Repr

/-- The whole part. -/
structure State where
  pins    : Pins := {}
  clock   : Word := 0
  ltu     : Ltu := {}
  nd      : List (Nat × NodeEntry) := []
  tcu     : Tcu := {}
  vou     : Vou := {}
  tmc     : Tmc := {}
  fdu     : Fdu := {}
  scu     : Scu := {}
  pls     : Pls := {}
  sfu     : Sfu := {}
  mga     : Mga := {}
  due     : List Due := []
  pending : List Instr := []
  deriving DecidableEq, Repr

/-- The part after power-on reset (R197): every block at its power-on values (R27, R31, R33, R50, R71, R97, R115, R128,
R146, R164, R176, R177, R186, R189), mode START-UP, the hall clock 0, the default partition. The straps are those of
log 4. -/
def State.reset : State :=
  { pins := {}, clock := 0, ltu := {}, nd := [], tcu := {}, vou := {}, tmc := {}, fdu := {}, scu := {}, pls := {},
    sfu := {}, mga := {}, due := [], pending := [] }

end Sys2Proof.Machine
end

