-- ==== Sys2Proof/Machine/Ops.lean ====
section
/-! DEFINITION. The named operations over tables, records and sets: every read and write of State by the meanings goes
through them. -/

namespace Sys2Proof.Machine

/-! ### Tables in canonical form: keys rise strictly, and no entry equals what an unlisted record reads as -/

/-- The entry of record k, if one is listed. -/
def Table.find? {α : Type} (k : Nat) : List (Nat × α) → Option α
  | [] => none
  | (j, a) :: r => if j = k then some a else Table.find? k r

/-- Record k unlisted. -/
def Table.erase {α : Type} (k : Nat) : List (Nat × α) → List (Nat × α)
  | [] => []
  | (j, a) :: r => if j = k then r else (j, a) :: Table.erase k r

/-- Record k listed with the value a. -/
def Table.insert {α : Type} (k : Nat) (a : α) : List (Nat × α) → List (Nat × α)
  | [] => [(k, a)]
  | (j, b) :: r =>
    if k < j then (k, a) :: (j, b) :: r
    else if k = j then (k, a) :: r
    else (j, b) :: Table.insert k a r

/-- Record k read from a table whose unlisted records read as d. -/
def Table.get {α : Type} (d : α) (k : Nat) (l : List (Nat × α)) : α := (Table.find? k l).getD d

/-- Record k written in a table whose unlisted records read as d. -/
def Table.put {α : Type} [DecidableEq α] (d : α) (k : Nat) (a : α) (l : List (Nat × α)) : List (Nat × α) :=
  if a = d then Table.erase k l else Table.insert k a l

/-- Keys rise strictly. -/
def Table.rising {α : Type} (l : List (Nat × α)) : Bool := decide ((l.map Prod.fst).Pairwise (· < ·))

/-- The canonical form of a table whose unlisted records read as d. -/
def Table.wf {α : Type} [DecidableEq α] (d : α) (l : List (Nat × α)) : Bool :=
  Table.rising l && l.all fun e => decide (e.2 ≠ d)

/-- The canonical form of the table memory (R194) and of the segment and node tables. -/
def State.tablesWf (s : State) : Bool :=
  Table.rising s.tmc.rolls && Table.wf {} s.tmc.places && Table.rising s.tmc.routes && Table.wf {} s.tcu.segments &&
    Table.rising s.nd

/-! ### Numbers and sets -/

/-- Index of the manual's number n, which counts from 1. -/
def toIx (k n : Nat) : Option (Fin k) := if h : 1 ≤ n ∧ n ≤ k then some ⟨n - 1, by omega⟩ else none

/-- The manual's number of an index. -/
def num {k : Nat} (i : Fin k) : Nat := i.val + 1

/-- Member i (from 0) of a set held as a bit map. -/
def setHas {w : Nat} (m : BitVec w) (i : Nat) : Bool := m.getLsbD i

/-- The set with member i. -/
def setWith {w : Nat} (m : BitVec w) (i : Nat) : BitVec w := m ||| BitVec.twoPow w i

/-- The set without member i. -/
def setWithout {w : Nat} (m : BitVec w) (i : Nat) : BitVec w := m &&& ~~~(BitVec.twoPow w i)

/-- A tuning number brought into its range (00 "Refusing, clamping and degrading"). -/
def clampTo (lo hi n : Nat) : Nat := max lo (min hi n)

/-- A counter raised by k, stopping at its maximum (00 "Counters and saturation"). -/
def addSat (maximum n k : Nat) : Nat := min maximum (n + k)

/-- A number in its place in a rising list, once. -/
def insertRising (n : Nat) : List Nat → List Nat
  | [] => [n]
  | m :: r => if n < m then n :: m :: r else if n = m then m :: r else m :: insertRising n r

/-- The numbers of a list in rising order, each once. -/
def inOrder (l : List Nat) : List Nat := l.foldr insertRising []

/-- The value of a 32-bit counter raised by k, stopping at its maximum. -/
def add32 (n k : Nat) : Nat := addSat 4294967295 n k

/-- The value of a 16-bit counter raised by k, stopping at its maximum. -/
def add16 (n k : Nat) : Nat := addSat 65535 n k

/-- Every record of a fixed table changed by a function of it. -/
def mapVec {α β : Type} {n : Nat} (f : α → β) (v : Vector α n) : Vector β n := ⟨⟨v.toList.map f⟩, by simp⟩

/-! ### Records -/

namespace State

/-- NORMAL or AUTONOMOUS: the modes in which the floor is worked. -/
def running (s : State) : Bool := s.sfu.mode = .normal ∨ s.sfu.mode = .autonomous

/-- The current hall second: the clock divided by 10 and floored (00 "Hall time"). -/
def second (s : State) : Nat := s.clock.toNat / 10

/-- The part's own management address: 241 plus the ADDR straps (00 "Node addresses"). -/
def ownAddr (s : State) : Byte := 241 + s.pins.addr.setWidth 8

def vehicle (s : State) (v : VehicleIx) : Vehicle := s.vou.vehicles[v]

def setVehicle (v : VehicleIx) (x : Vehicle) (s : State) : State :=
  { s with vou := { s.vou with vehicles := s.vou.vehicles.set v x } }

def updVehicle (v : VehicleIx) (f : Vehicle → Vehicle) (s : State) : State := s.setVehicle v (f (s.vehicle v))

def stand (s : State) (st : StandIx) : Stand := s.fdu.stands[st]

def setStand (st : StandIx) (x : Stand) (s : State) : State :=
  { s with fdu := { s.fdu with stands := s.fdu.stands.set st x } }

def updStand (st : StandIx) (f : Stand → Stand) (s : State) : State := s.setStand st (f (s.stand st))

def speed (s : State) (p : PressIx) : Speed := s.fdu.speeds[p]

def setSpeed (p : PressIx) (x : Speed) (s : State) : State :=
  { s with fdu := { s.fdu with speeds := s.fdu.speeds.set p x } }

def updSpeed (p : PressIx) (f : Speed → Speed) (s : State) : State := s.setSpeed p (f (s.speed p))

def speedSettings (s : State) (p : PressIx) : SpeedSettings := s.fdu.settings[p]

def updSettings (p : PressIx) (f : SpeedSettings → SpeedSettings) (s : State) : State :=
  { s with fdu := { s.fdu with settings := s.fdu.settings.set p (f (s.speedSettings p)) } }

def zone (s : State) (z : ZoneIx) : Zone := s.tcu.zones[z]

def updZone (z : ZoneIx) (f : Zone → Zone) (s : State) : State :=
  { s with tcu := { s.tcu with zones := s.tcu.zones.set z (f (s.zone z)) } }

def seg (s : State) (n : Nat) : Segment := Table.get {} n s.tcu.segments

def setSeg (n : Nat) (x : Segment) (s : State) : State :=
  { s with tcu := { s.tcu with segments := Table.put {} n x s.tcu.segments } }

def updSeg (n : Nat) (f : Segment → Segment) (s : State) : State := s.setSeg n (f (s.seg n))

def place (s : State) (p : Nat) : Place := Table.get {} p s.tmc.places

/-- A place record written, with good parity (R194). -/
def setPlace (p : Nat) (x : Place) (s : State) : State :=
  { s with tmc := { s.tmc with
      places := Table.put {} p x s.tmc.places
      badPlaces := s.tmc.badPlaces.filter (· ≠ p) } }

/-- The slot and record of a roll id (R1); none when the roll is unknown to the part. -/
def findRoll (s : State) (id : RollId) : Option (Nat × Roll) := s.tmc.rolls.find? fun e => e.2.id = id

/-- The record of a roll id. -/
def roll? (s : State) (id : RollId) : Option Roll := (s.findRoll id).map Prod.snd

/-- The record in a slot. -/
def slot? (s : State) (k : Nat) : Option Roll := Table.find? k s.tmc.rolls

/-- A roll slot written, with good parity (R194). -/
def setSlot (k : Nat) (r : Roll) (s : State) : State :=
  { s with tmc := { s.tmc with
      rolls := Table.insert k r s.tmc.rolls
      badRolls := s.tmc.badRolls.filter (· ≠ k) } }

/-- A roll slot freed: written as free, with good parity (R194). -/
def freeSlot (k : Nat) (s : State) : State :=
  { s with tmc := { s.tmc with
      rolls := Table.erase k s.tmc.rolls
      badRolls := s.tmc.badRolls.filter (· ≠ k) } }

def route? (s : State) (k : Nat) : Option Route := Table.find? k s.tmc.routes

/-- A route slot freed: written as free, with good parity (R57, R194). -/
def freeRoute (k : Nat) (s : State) : State :=
  { s with tmc := { s.tmc with
      routes := Table.erase k s.tmc.routes
      badRoutes := s.tmc.badRoutes.filter (· ≠ k) } }

/-- A roll record written back as it was read has good parity (R14, R194). -/
def goodRoll (k : Nat) (s : State) : State := { s with tmc := { s.tmc with badRolls := s.tmc.badRolls.filter (· ≠ k) } }

def setCalls (l : List Call) (s : State) : State := { s with fdu := { s.fdu with calls := l } }

def setSearch (x : Option Search) (s : State) : State := { s with fdu := { s.fdu with search := x } }

def setPrediction (n : Nat) (s : State) : State := { s with fdu := { s.fdu with predictionCount := n } }

def setStarved (m : BitVec 32) (s : State) : State := { s with fdu := { s.fdu with starved := m } }

def setReady (p : PressIx) (b : Bool) (s : State) : State := { s with pls := { s.pls with ready := s.pls.ready.set p b } }

def setNextTag (n : Nat) (s : State) : State := { s with vou := { s.vou with nextTag := n } }

def setClock (c : Word) (s : State) : State := { s with clock := c }

def setDue (l : List Due) (s : State) : State := { s with due := l }

def setMode (m : Mode) (s : State) : State := { s with sfu := { s.sfu with mode := m } }

def setLinkCount (n : Nat) (s : State) : State := { s with sfu := { s.sfu with linkCount := n } }

def run? (s : State) (p : PressIx) : Option Run := s.scu.runs[p]

def setRun (p : PressIx) (r : Option Run) (s : State) : State :=
  { s with scu := { s.scu with runs := s.scu.runs.set p r } }

def updRun (p : PressIx) (f : Run → Run) (s : State) : State := s.setRun p ((s.run? p).map f)

def press (s : State) (p : PressIx) : PressRec := s.scu.presses[p]

def updPress (p : PressIx) (f : PressRec → PressRec) (s : State) : State :=
  { s with scu := { s.scu with presses := s.scu.presses.set p (f (s.press p)) } }

/-- The ACTIVE press part (R165). -/
def activePress (s : State) (p : PressIx) : PressPart := s.pls.activePress[p]

/-- The ACTIVE stand part (R165). -/
def activeStand (s : State) (st : StandIx) : StandPart := s.pls.activeStand[st]

/-- A press is in use when its ACTIVE press part says so (R165). -/
def inUse (s : State) (p : PressIx) : Bool := (s.activePress p).inUse

/-- A stand is in the lead when its press is in use and its ACTIVE stand part says so (R165). -/
def inLead (s : State) (st : StandIx) : Bool :=
  match (s.stand st).press with
  | some p => s.inUse p && (s.activeStand st).lead
  | none => false

/-- The stands whose configured press is p, in stand number order. -/
def standsOf (s : State) (p : PressIx) : List StandIx :=
  (List.finRange 24).filter fun st => (s.stand st).press = some p

/-- The node table entry carrying an address (R35). -/
def node? (s : State) (a : Byte) : Option NodeEntry := (s.nd.find? fun e => e.2.addr = a).map Prod.snd

/-- The VEHICLE entry of a vehicle (R33). -/
def vehicleEntry? (s : State) (v : VehicleIx) : Option NodeEntry :=
  (s.nd.find? fun e => e.2.kind = .vehicle ∧ e.2.subject = num v).map Prod.snd

/-- The vehicle of a node address (R35). -/
def vehicleAt? (s : State) (a : Byte) : Option VehicleIx :=
  match s.node? a with
  | some e => if e.kind = .vehicle then toIx 16 e.subject else none
  | none => none

/-- The table memory's size in words, set by the MSIZE pin (R193). -/
def memoryWords (s : State) : Nat := if s.pins.msizeHigh then 131072 else 65536

end State

/-- The meaning of a command that needs the part awake: with RST low the part neither receives nor sends nor counts
(R197), so the state stays. -/
def awake (f : State → State) (s : State) : Host.Outcome State Fault Refusal :=
  .next (if s.pins.rstLow then s else f s)

end Sys2Proof.Machine
end

