-- ==== Sys2Proof/Machine/Operands.lean ====
section
/-! DEFINITION. The operand forms: the bytes of a telegram, its CHECK, the body layouts and the locations
(02 "The telegram", "Body layouts"). Byte order on the line is decided here once: high byte first (R29). -/

namespace Sys2Proof.Machine

/-! ### Bytes -/

/-- Byte i of a body, 0 behind its end. -/
def u8 (l : List Byte) (i : Nat) : Byte := l.getD i 0

/-- Two bytes, high byte first. -/
def u16 (l : List Byte) (i : Nat) : Nat := (u8 l i).toNat * 256 + (u8 l (i + 1)).toNat

/-- Four bytes, high byte first. -/
def u32 (l : List Byte) (i : Nat) : Word := BitVec.ofNat 32 (u16 l i * 65536 + u16 l (i + 2))

/-- A number in one byte. -/
def be8 (n : Nat) : List Byte := [BitVec.ofNat 8 n]

/-- A number in two bytes, high byte first. -/
def be16 (n : Nat) : List Byte := [BitVec.ofNat 8 (n / 256), BitVec.ofNat 8 n]

/-- A number in four bytes, high byte first. -/
def be32 (n : Nat) : List Byte := be16 (n / 65536) ++ be16 n

/-- A mark in one byte: 00 clear, 01 set (R188). -/
def beMark (b : Bool) : List Byte := [if b then 1 else 0]

/-! ### The CHECK (R30) -/

/-- One bit shifted into the CRC register, polynomial 8005. -/
def crcBit (c : Half) (b : Bool) : Half :=
  if c.msb != b then (c <<< 1) ^^^ 0x8005#16 else c <<< 1

/-- One byte into the CRC register, most significant bit first. -/
def crcByte (c : Half) (b : Byte) : Half :=
  [7, 6, 5, 4, 3, 2, 1, 0].foldl (fun c i => crcBit c (b.getLsbD i)) c

/-- The CRC-16 of a byte list: preset FFFF, no final inversion. -/
def crc (l : List Byte) : Half := l.foldl crcByte 0xFFFF#16

/-- The CHECK bytes, high byte first. -/
def checkBytes (l : List Byte) : List Byte := be16 (crc l).toNat

end Sys2Proof.Machine

namespace Sys2Proof

/-- The bytes from DST to the last body byte. -/
def Telegram.head (t : Telegram) : List Byte := [t.dst, t.src, t.cls, BitVec.ofNat 8 t.body.length] ++ t.body

/-- A telegram as the line carries it (R29). -/
def Telegram.bytes (t : Telegram) : List Byte := t.head ++ Machine.checkBytes t.head

/-- The judgement of a completed receive (R31): the good telegram it holds, or none when it is bad. -/
def Receive.judge (r : Receive) : Option Telegram :=
  if r.stray ≠ 0 ∨ r.bytes.length < 6 ∨ 66 < r.bytes.length then none
  else match r.bytes with
    | dst :: src :: cls :: len :: rest =>
      if Config.maxBody < len.toNat ∨ len.toNat + 2 ≠ rest.length then none
      else
        let t : Telegram := ⟨dst, src, cls, rest.take len.toNat⟩
        if rest.drop len.toNat = Machine.checkBytes t.head then some t else none
    | _ => none

end Sys2Proof

namespace Sys2Proof.Machine

/-! ### Locations -/

/-- The kind of a location's kind byte; none for a code the layout does not list. -/
def LocKind.ofByte (b : Byte) : Option LocKind :=
  match b.toNat with
  | 0 => some .none
  | 1 => some .place
  | 2 => some .stand
  | 3 => some .dock
  | 4 => some .waste
  | 5 => some .home
  | 6 => some .segment
  | _ => Option.none

/-- The kind byte. -/
def LocKind.byte : LocKind → Byte
  | .none => 0
  | .place => 1
  | .stand => 2
  | .dock => 3
  | .waste => 4
  | .home => 5
  | .segment => 6

/-- The greatest number of a kind under the current partition (00 "Locations"); NONE has no numbers. -/
def kindMax (s : State) : LocKind → Nat
  | .none => 0
  | .place => s.tmc.sizes.places
  | .stand => 24
  | .dock => 8
  | .waste => 4
  | .home => 16
  | .segment => 255

/-- The number lies in its kind's range. -/
def Loc.inRange (s : State) (l : Loc) : Bool := 1 ≤ l.num ∧ l.num ≤ kindMax s l.kind

/-- The three bytes of a location. -/
def Loc.bytes (l : Loc) : List Byte := l.kind.byte :: be16 l.num

/-- The location at offset i of a body; none when its kind byte is not listed. -/
def locAt (l : List Byte) (i : Nat) : Option Loc := (LocKind.ofByte (u8 l i)).map fun k => ⟨k, u16 l (i + 1)⟩

/-! ### Class codes and forms (R32) -/

def clsMove : Byte := 0x11
def clsRun : Byte := 0x12
def clsVpos : Byte := 0x21
def clsVload : Byte := 0x22
def clsVdone : Byte := 0x23
def clsStand : Byte := 0x31
def clsSplice : Byte := 0x32
def clsBreak : Byte := 0x33
def clsDrive : Byte := 0x41
def clsCount : Byte := 0x42
def clsGrant : Byte := 0x51
def clsHold : Byte := 0x52
def clsRelease : Byte := 0x53
def clsCall : Byte := 0x61
def clsRefuse : Byte := 0x62
def clsNotice : Byte := 0x63
def clsMread : Byte := 0x71
def clsMwrite : Byte := 0x72
def clsMact : Byte := 0x73
def clsMroll : Byte := 0x74
def clsMreply : Byte := 0x7F

/-- The body length of the classes the floor sends and an owning block acts on (R32). -/
def floorLength (cls : Byte) : Option Nat :=
  match cls.toNat with
  | 0x21 => some 7
  | 0x22 => some 8
  | 0x23 => some 2
  | 0x31 => some 10
  | 0x32 => some 9
  | 0x33 => some 4
  | 0x41 => some 3
  | 0x42 => some 6
  | _ => none

/-- The body length of an upper MOVE (R32). -/
def moveLength : Nat := 13

/-- The body length of a RUN (R32). -/
def runLength : Nat := 5

/-- The classes a node kind may send from the Floor port (R35). -/
def NodeKind.allows (k : NodeKind) (cls : Byte) : Bool :=
  match k with
  | .vehicle => cls = clsVpos ∨ cls = clsVload ∨ cls = clsVdone
  | .stand => cls = clsStand ∨ cls = clsSplice ∨ cls = clsBreak
  | .drive => cls = clsDrive
  | .folder => cls = clsCount
  | .upper => false

/-! ### Bodies of the reports and orders (02 "Body layouts") -/

/-- A 32-bit field in four bytes. -/
def beWord (w : Word) : List Byte := be32 w.toNat

def vposBody (segment motion : Byte) (load : Word) (request : Byte) : List Byte :=
  [segment, motion] ++ beWord load ++ [request]

def vloadBody (action kind : Byte) (number : Half) (roll : Word) : List Byte :=
  [action, kind] ++ be16 number.toNat ++ beWord roll

def standBody (diameter : Half) (active other : Word) : List Byte := be16 diameter.toNat ++ beWord active ++ beWord other

def spliceBody (outcome : Byte) (old new : Word) : List Byte := outcome :: (beWord old ++ beWord new)

def driveBody (press : Byte) (speed : Half) : List Byte := press :: be16 speed.toNat

def countBody (press : Byte) (good waste : Half) (reason : Byte) : List Byte :=
  press :: (be16 good.toNat ++ be16 waste.toNat ++ [reason])

def runBody (press action : Byte) (run : Half) (edition : Byte) : List Byte :=
  [press, action] ++ be16 run.toNat ++ [edition]

/-- The body of a forwarded MOVE (R41): the 13 bytes as admitted with kind NEW, then the two legs. -/
def forwardedMoveBody (o : Order) (vehicleAddr : Byte) : List Byte :=
  [1, o.tag, vehicleAddr] ++ o.pickup.bytes ++ o.drop.bytes ++ beWord o.roll ++
    be8 o.leg1.length ++ o.leg1.map (BitVec.ofNat 8) ++ be8 o.leg2.length ++ o.leg2.map (BitVec.ofNat 8)

end Sys2Proof.Machine
end

