-- ==== Sys2Proof/Machine/Flags.lean ====
section
/-! DEFINITION. The flag table: latching, NOTICEs and the ALARM pin (R183 to R186). -/

namespace Sys2Proof.Machine

/-- The flags in the order of their numbers (R183). -/
def Flag.all : List Flag :=
  [.lineCheck, .nodeMismatch, .floorMgmt, .queueOverflow, .upperOverflow, .mgmtOverflow, .vehicleLost, .intrusion,
    .deadlock, .strayReport] ++
  [.unknownRoll, .rollMisplaced, .placeConflict, .noRoll, .callOverdue, .standStarved, .spliceLate, .armMismatch,
    .diameterImplausible, .speedHoldover] ++
  [.speedNominal, .planMismatch, .planNotReady, .wasteWarn, .wasteAlarm, .runLost, .rollBreakHold, .autonomous,
    .memoryParity, .noticeDropped]

/-- A flag's place in the table, from 0. -/
def Flag.ix : Flag → Fin 30
  | .lineCheck => 0
  | .nodeMismatch => 1
  | .floorMgmt => 2
  | .queueOverflow => 3
  | .upperOverflow => 4
  | .mgmtOverflow => 5
  | .vehicleLost => 6
  | .intrusion => 7
  | .deadlock => 8
  | .strayReport => 9
  | .unknownRoll => 10
  | .rollMisplaced => 11
  | .placeConflict => 12
  | .noRoll => 13
  | .callOverdue => 14
  | .standStarved => 15
  | .spliceLate => 16
  | .armMismatch => 17
  | .diameterImplausible => 18
  | .speedHoldover => 19
  | .speedNominal => 20
  | .planMismatch => 21
  | .planNotReady => 22
  | .wasteWarn => 23
  | .wasteAlarm => 24
  | .runLost => 25
  | .rollBreakHold => 26
  | .autonomous => 27
  | .memoryParity => 28
  | .noticeDropped => 29

/-- The flag number a NOTICE carries (R183). -/
def Flag.number (f : Flag) : Nat := f.ix.val + 1

/-- The flag of a number. -/
def Flag.ofNumber (n : Nat) : Option Flag := Flag.all.find? fun f => f.number = n

/-- The fixed severity: true for SEVERE (R183). -/
def Flag.severe : Flag → Bool
  | .vehicleLost | .intrusion | .standStarved | .wasteAlarm | .autonomous | .memoryParity => true
  | _ => false

/-- How many subjects the flag's subject set has; 0 for a flag without one (R183). -/
def Flag.subjectCount : Flag → Nat
  | .lineCheck => 2
  | .queueOverflow => 3
  | .vehicleLost | .intrusion | .deadlock | .strayReport | .unknownRoll | .placeConflict => 16
  | .noRoll | .callOverdue | .standStarved | .spliceLate | .armMismatch | .diameterImplausible | .planMismatch => 24
  | .speedHoldover | .speedNominal | .planNotReady | .wasteWarn | .wasteAlarm | .runLost => 4
  | _ => 0

namespace State

/-- A flag's record. -/
def flag (s : State) (f : Flag) : FlagRec := s.sfu.flags[f.ix]

def updFlag (f : Flag) (g : FlagRec → FlagRec) (s : State) : State :=
  { s with sfu := { s.sfu with flags := s.sfu.flags.set f.ix (g (s.flag f)) } }

/-- The level that asserts ALARM: an unmasked latched SEVERE flag, or a running pulse (R185). -/
def alarmLevel (s : State) : Bool :=
  decide (0 < s.sfu.pulse) || Flag.all.any fun f => f.severe && (s.flag f).latched && !(s.flag f).masked

/-- The ALARM pin driven by its level; released while RST is low (R185). -/
def driveAlarm (s : State) : State :=
  { s with pins := { s.pins with alarmLow := !s.pins.rstLow && s.alarmLevel } }

/-- A setting event latches the flag, with its subject and the hall tick (R184). -/
def latch (f : Flag) (subject : Word) (s : State) : State :=
  s.updFlag f fun r =>
    { r with
      latched := true
      subject := subject
      tick := s.clock
      subjects := if f.subjectCount = 0 then r.subjects else setWith r.subjects (subject.toNat - 1) }

/-- Whether a setting event of the flag is reported: latched bit clear and mask clear (R184). -/
def reports (s : State) (f : Flag) : Bool := !(s.flag f).latched && !(s.flag f).masked

/-- A reported flag's effect on ALARM: a WARNING starts a pulse of 2 ticks, a SEVERE flag holds by its level (R185). -/
def alarmFor (f : Flag) (s : State) : State :=
  driveAlarm (if f.severe then s else { s with sfu := { s.sfu with pulse := 2 } })

/-- A slot is free in the Upper queue. -/
def upperRoom (s : State) : Bool := s.ltu.upper.length < Config.upperSlots

/-- A telegram joins the tail of the Upper queue. -/
def pushUpper (t : Telegram) (s : State) : State := { s with ltu := { s.ltu with upper := s.ltu.upper ++ [t] } }

/-- The NOTICE of a flag: number, subject field and hall tick, to the collector (R184, R44). -/
def notice (s : State) (f : Flag) (field : Word) : Telegram :=
  ⟨s.sfu.collector, s.ownAddr, clsNotice, be8 f.number ++ beWord field ++ beWord s.clock⟩

/-- NOTICE-DROPPED set with the dropped notice's flag number: its own NOTICE is queued if a slot is free, and a drop of
that one is a further setting event (R48, R184). -/
def raiseNoticeDropped (number : Nat) (s : State) : State :=
  let fresh := s.reports .noticeDropped
  let s := s.latch .noticeDropped (BitVec.ofNat 32 number)
  if fresh then
    alarmFor .noticeDropped
      (if s.sfu.collector = 0 then s
       else if s.upperRoom then s.pushUpper (s.notice .noticeDropped (BitVec.ofNat 32 number))
       else s.latch .noticeDropped (BitVec.ofNat 32 Flag.noticeDropped.number))
  else s

/-- A setting event whose NOTICE carries the subject field given (R184). -/
def raiseField (f : Flag) (subject field : Word) (s : State) : State :=
  let fresh := s.reports f
  let s := s.latch f subject
  if fresh then
    alarmFor f
      (if s.sfu.collector = 0 then s
       else if s.upperRoom then s.pushUpper (s.notice f field)
       else s.raiseNoticeDropped f.number)
  else s

/-- A setting event of a flag with its subject (R184). -/
def raise (f : Flag) (subject : Nat) (s : State) : State :=
  s.raiseField f (BitVec.ofNat 32 subject) (BitVec.ofNat 32 subject)

/-- MEMORY-PARITY of record k of the table with the code given: the NOTICE's field carries the code in the byte above the
index (R184). -/
def raiseParity (tableCode k : Nat) (s : State) : State :=
  s.raiseField .memoryParity (BitVec.ofNat 32 k) (BitVec.ofNat 32 (tableCode * 65536 + k % 65536))

end State

end Sys2Proof.Machine
end

