-- ==== Sys2Proof/Machine/Queues.lean ====
section
/-! DEFINITION. The transmit queues and the telegrams the part originates (R43 to R50, R92). -/

namespace Sys2Proof.Machine

/-- Refusal reasons of a REFUSE with their codes (02 "Body layouts"). -/
inductive Reason where
  | notRunning
  | autonomous
  | unknownVehicle
  | vehicleOff
  | vehicleLost
  | badTag
  | tagInUse
  | queueFull
  | badLocation
  | rollState
  | reservedRoll
  | locationOccupied
  | locationClaimed
  | routeMissing
  | routeBlocked
  | notFound
  | badFormat
  deriving DecidableEq, Repr

/-- The reason's code. -/
def Reason.code : Reason → Byte
  | .notRunning => 0x01
  | .autonomous => 0x02
  | .unknownVehicle => 0x03
  | .vehicleOff => 0x04
  | .vehicleLost => 0x05
  | .badTag => 0x06
  | .tagInUse => 0x07
  | .queueFull => 0x08
  | .badLocation => 0x09
  | .rollState => 0x0A
  | .reservedRoll => 0x0B
  | .locationOccupied => 0x0C
  | .locationClaimed => 0x0D
  | .routeMissing => 0x0E
  | .routeBlocked => 0x0F
  | .notFound => 0x10
  | .badFormat => 0x11

/-- Results of a GRANT (02 "Body layouts"). -/
inductive GrantResult where
  | granted
  | wait
  | offRoute
  | deadlock
  | halted
  | idle
  deriving DecidableEq, Repr

/-- The result's code. -/
def GrantResult.code : GrantResult → Byte
  | .granted => 1
  | .wait => 2
  | .offRoute => 3
  | .deadlock => 4
  | .halted => 5
  | .idle => 6

/-- How a move order ends (R83). -/
inductive OrderEnd where
  | done
  | failed
  | cancelled
  | writtenOff
  deriving DecidableEq, Repr

namespace State

/-- RESTART HOLDs that wait take the slots of Floor urgent that have freed, in order (R50). -/
def flushRestartHolds (s : State) : State :=
  let n := Config.urgentSlots - s.ltu.urgent.length
  { s with ltu := { s.ltu with
      urgent := s.ltu.urgent ++ s.ltu.restartHolds.take n
      restartHolds := s.ltu.restartHolds.drop n } }

/-- A GRANT, HOLD or RELEASE joins Floor urgent, or is dropped with QUEUE-OVERFLOW 1 (R47, R48). A waiting RESTART HOLD
takes a free slot first (log 31). -/
def placeUrgent (t : Telegram) (s : State) : State :=
  let s := s.flushRestartHolds
  if s.ltu.urgent.length < Config.urgentSlots then { s with ltu := { s.ltu with urgent := s.ltu.urgent ++ [t] } }
  else s.raise .queueOverflow 1

/-- A slot is free in Floor normal. -/
def normalRoom (s : State) : Bool := s.ltu.normal.length < Config.normalSlots

/-- A telegram joins Floor normal, or is dropped with QUEUE-OVERFLOW 2 (R48). -/
def placeNormal (t : Telegram) (s : State) : State :=
  if s.normalRoom then { s with ltu := { s.ltu with normal := s.ltu.normal ++ [t] } }
  else s.raise .queueOverflow 2

/-- A forwarded report, CALL or VDONE on behalf joins Upper, or is dropped with QUEUE-OVERFLOW 3 (R48). -/
def placeUpper (t : Telegram) (s : State) : State :=
  if s.upperRoom then s.pushUpper t else s.raise .queueOverflow 3

/-- A REFUSE or MREPLY joins Upper, or is dropped with UPPER-OVERFLOW naming its DST (R48). -/
def placeAnswer (t : Telegram) (s : State) : State :=
  if s.upperRoom then s.pushUpper t else s.raise .upperOverflow t.dst.toNat

/-! ### Telegrams to vehicles -/

/-- A telegram of a class to a vehicle on Floor urgent; not made for a vehicle with no VEHICLE entry (R44). -/
def sendVehicle (v : VehicleIx) (cls : Byte) (body : List Byte) (s : State) : State :=
  match s.vehicleEntry? v with
  | some e => s.placeUrgent ⟨e.addr, s.ownAddr, cls, body⟩
  | none => s

/-- A GRANT (R60). -/
def sendGrant (v : VehicleIx) (segment : Nat) (r : GrantResult) (s : State) : State :=
  s.sendVehicle v clsGrant [BitVec.ofNat 8 segment, r.code]

/-- A RELEASE. -/
def sendRelease (v : VehicleIx) (s : State) : State := s.sendVehicle v clsRelease []

end State

/-- A halt cause set as the cause bits of a HOLD (02 "Body layouts"). -/
def Causes.byte (c : Causes) : Byte :=
  (if c.zone then 1 else 0) ||| (if c.deadlock then 2 else 0) ||| (if c.management then 4 else 0) |||
    (if c.intrusion then 8 else 0)

/-- No cause: the vehicle is not HALTED. -/
def Causes.none (c : Causes) : Bool := !(c.zone || c.deadlock || c.management || c.intrusion)

/-- The HOLD bit LOST. -/
def holdLost : Byte := 0x10

/-- The HOLD bit RESTART. -/
def holdRestart : Byte := 0x20

/-- The HOLD bit MANAGEMENT. -/
def holdManagement : Byte := 4

namespace State

/-- A HOLD naming the vehicle's halt cause set (R92). -/
def sendHold (v : VehicleIx) (s : State) : State := s.sendVehicle v clsHold [(s.vehicle v).causes.byte]

/-- A HOLD naming LOST and the vehicle's halt cause set (R92). -/
def sendHoldLost (v : VehicleIx) (s : State) : State :=
  s.sendVehicle v clsHold [holdLost ||| (s.vehicle v).causes.byte]

/-! ### Telegrams to the upper side -/

/-- A REFUSE of a MOVE: class 11, tag, vehicle address, reason; none is made to address 0 (R44). -/
def refuseTo (dst tag vehicleAddr : Byte) (r : Reason) (s : State) : State :=
  if dst = 0 then s else s.placeAnswer ⟨dst, s.ownAddr, clsRefuse, [clsMove, tag, vehicleAddr, r.code]⟩

/-- The node address of a vehicle, 0 when it has none. -/
def vehicleAddr (s : State) (v : VehicleIx) : Byte :=
  match s.vehicleEntry? v with
  | some e => e.addr
  | none => 0

/-- A VDONE on behalf with outcome CANCELLED to the order's reply address (R44, R85). -/
def vdoneOnBehalf (v : VehicleIx) (o : Order) (s : State) : State :=
  if o.reply = 0 then s
  else s.placeUpper ⟨o.reply, s.ownAddr, clsVdone, [o.tag, 4, s.vehicleAddr v]⟩

end State

end Sys2Proof.Machine
end

