-- ==== Sys2Proof/Machine/Calls.lean ====
section
/-! DEFINITION. The Feed Unit's shared operations: paper length, time to splice, starvation and late splices, the call list
and its rules, roll holds and the checked reads of the table memory (R10 to R14, R102, R103, R129 to R144, R194).

Every read of a roll or place record is checked (R194). An operation named Read works on a roll record that has been read
already; its namesake reads the record first. -/

namespace Sys2Proof.Machine

/-! ### Paper on a roll -/

/-- L(D) in dm for core diameter d and caliper t (R129). -/
def paperLength (d t D : Nat) : Nat := if D ≤ d then 0 else (D * D - d * d) * 32170 / (4096 * t)

/-- The length of a roll at diameter D. -/
def Roll.length (r : Roll) (D : Nat) : Nat := paperLength r.core r.caliper D

/-! ### Hold sets (R12) -/

/-- The hold set is empty. -/
def Holds.none (h : Holds) : Bool := !(h.parity || h.breaks || h.diameter || h.lostTrack || h.management)

def Holds.has (h : Holds) : HoldKind → Bool
  | .parity => h.parity
  | .breaks => h.breaks
  | .diameter => h.diameter
  | .lostTrack => h.lostTrack
  | .management => h.management

def Holds.add (h : Holds) : HoldKind → Holds
  | .parity => { h with parity := true }
  | .breaks => { h with breaks := true }
  | .diameter => { h with diameter := true }
  | .lostTrack => { h with lostTrack := true }
  | .management => { h with management := true }

/-! ### The call list (R135) -/

/-- The roll field of a call. -/
def CallPhase.roll? : CallPhase → Option RollId
  | .opened => Option.none
  | .searching => Option.none
  | .selected r => some r
  | .ordered r _ => some r

/-- The order link of a call. -/
def CallPhase.link? : CallPhase → Option OrderRef
  | .ordered _ l => some l
  | _ => Option.none

/-- The list order: due second, then stand number (R135). -/
def Call.before (a b : Call) : Bool := a.due < b.due ∨ (a.due = b.due ∧ a.stand.val < b.stand.val)

/-- A call in its place in the list. -/
def insertCall (c : Call) : List Call → List Call
  | [] => [c]
  | x :: r => if c.before x then c :: x :: r else x :: insertCall c r

namespace State

/-- The call of a stand. -/
def call? (s : State) (st : StandIx) : Option Call := s.fdu.calls.find? fun c => c.stand = st

/-- The call naming a roll; no two calls name the same roll (R10). -/
def callNaming? (s : State) (id : RollId) : Option Call := s.fdu.calls.find? fun c => c.phase.roll? = some id

def dropCall (st : StandIx) (s : State) : State := s.setCalls (s.fdu.calls.filter fun c => c.stand ≠ st)

/-- The call of its stand written, in its place in the list. -/
def putCall (c : Call) (s : State) : State :=
  s.setCalls (insertCall c (s.fdu.calls.filter fun x => x.stand ≠ c.stand))

/-- A search starts when none is in flight and an OPEN call without the no-roll mark waits: the first in list order
(R137). -/
def startSearch (s : State) : State :=
  if s.running ∧ s.fdu.search = none then
    match s.fdu.calls.find? fun c => c.phase = .opened ∧ c.noRoll = false with
    | some c => (s.putCall { c with phase := .searching }).setSearch (some { stand := c.stand })
    | none => s
  else s

/-- Every call's no-roll mark is cleared (R138). -/
def clearNoRoll (s : State) : State := s.setCalls (s.fdu.calls.map fun c => { c with noRoll := false })

/-- The availability notice of R11, taken once by the FDU: marks cleared, a scan in flight notes it, the next search
starts. -/
def availability (s : State) : State :=
  startSearch ((s.clearNoRoll).setSearch (s.fdu.search.map fun x => { x with noticed := true }))

/-! ### Reads of the place table (R14, R194) -/

/-- Table codes of the tables in memory (R188). -/
def codeRoutes : Nat := 4
def codePlaces : Nat := 5
def codeRolls : Nat := 6

/-- A read of a place record: on a parity error the place is blocked, written back and flagged (R14). -/
def readPlace (p : Nat) (s : State) : State :=
  if s.tmc.badPlaces.contains p then
    (s.setPlace p { s.place p with blocked := true }).raiseParity codePlaces p
  else s

/-- A place record read, changed and written back. -/
def updPlace (p : Nat) (f : Place → Place) (s : State) : State :=
  let s := s.readPlace p
  s.setPlace p (f (s.place p))

/-! ### Availability and reservations (R11, R138) -/

/-- The roll is STORED with an empty hold set at a place that is not blocked (R11). -/
def isAvailable (s : State) (r : Roll) : Bool :=
  match r.status with
  | .stored p => r.holds.none && !(s.place p).blocked
  | _ => false

/-- The place of a STORED roll read. -/
def readStored (r : Roll) (s : State) : State :=
  match r.status with
  | .stored p => s.readPlace p
  | _ => s

/-- The notice for a roll that has become available; nothing when it has not (R11). The roll's record has been read. -/
def announceAvailable (id : RollId) (s : State) : State :=
  match s.roll? id with
  | some r =>
    let s := s.readStored r
    if s.isAvailable r then s.availability else s
  | none => s

/-- A roll RESERVED for the call of a stand returns to STORED at its place (R11). -/
def freeReservedRead (st : StandIx) (id : RollId) (s : State) : State :=
  match s.findRoll id with
  | some (k, r) =>
    match r.status with
    | .reserved p (.call o) =>
      if o = st then (s.setSlot k { r with status := .stored p }).announceAvailable id else s
    | _ => s
  | none => s

/-- The named order loses its call link (R143). -/
def clearOrderLink (l : OrderRef) (s : State) : State :=
  let drop (o : Order) : Order := if o.tag = l.tag then { o with link := none } else o
  s.updVehicle l.vehicle fun x => { x with outstanding := x.outstanding.map drop, queue := x.queue.map drop }

/-- What a call leaves behind when its state is left: its order loses the link, and a roll RESERVED for it is released. -/
def leavePhaseRead (c : Call) (s : State) : State :=
  let s := match c.phase.link? with
    | some l => s.clearOrderLink l
    | none => s
  match c.phase.roll? with
  | some r => s.freeReservedRead c.stand r
  | none => s

/-- A call enters OPEN with its roll field and link cleared; the test for a search start follows (R143). -/
def reopenCallRead (c : Call) (s : State) : State :=
  ((s.putCall { c with phase := .opened }).leavePhaseRead c).startSearch

/-- A search in flight for the stand's call is discarded (R139). -/
def discardSearch (st : StandIx) (s : State) : State :=
  match s.fdu.search with
  | some x => if x.stand = st then s.setSearch none else s
  | none => s

/-! ### Time to splice and the call test -/

/-- The speed estimate of the stand's press; 0 for a stand without one. -/
def standSpeed (s : State) (st : StandIx) : Nat :=
  match (s.stand st).press with
  | some p => (s.speed p).estimate
  | none => 0

/-- The prediction floor of the stand's press. -/
def standFloor (s : State) (st : StandIx) : Nat :=
  match (s.stand st).press with
  | some p => (s.speedSettings p).floor
  | none => 0

/-- Ts of a stand (R131). -/
def tsValue (s : State) (st : StandIx) : Nat :=
  let x := s.stand st
  if s.inLead st ∧ (x.state = .feeding ∨ x.state = .armed) ∧ s.standFloor st ≤ s.standSpeed st then
    min Config.unbounded ((x.lr - x.lres) * 6 / s.standSpeed st)
  else Config.unbounded

/-- The active roll's hold set is not empty. -/
def activeHeld (s : State) (st : StandIx) : Bool :=
  match (s.stand st).active with
  | some id =>
    match s.roll? id with
    | some r => !r.holds.none
    | none => false
  | none => false

/-- A new call: OPEN, no roll, no link, marks clear; then the test for a search start (R135). -/
def openCall (st : StandIx) (due : Nat) (early : Bool) (s : State) : State :=
  (s.putCall { stand := st, phase := .opened, due := due, early := early }).startSearch

/-- The call test (R135), with the due second of R136. A held active roll makes the call early (log 16). -/
def callTestRead (st : StandIx) (s : State) : State :=
  let x := s.stand st
  let standby : Bool := match x.other with
    | .standby _ => true
    | _ => false
  if s.running && s.inLead st && (s.call? st).isNone && !standby then
    match x.state with
    | .feeding =>
      if s.activeHeld st then s.openCall st s.second true
      else if x.ts ≤ (s.activeStand st).callLead then s.openCall st (s.second + x.ts) false
      else s
    | .idle => s.openCall st s.second true
    | .starved => s.openCall st s.second true
    | _ => s
  else s

/-- A call becomes due now and stays so (R136). -/
def makeEarly (st : StandIx) (s : State) : State :=
  match s.call? st with
  | some c => s.putCall { c with due := s.second, early := true }
  | none => s

/-! ### Holds (R12, R13) -/

/-- A hold on a RUNNING roll: its stand's call becomes early, or the call test opens one (R13, R136). -/
def heldRunning (st : StandIx) (s : State) : State := if s.running then (s.makeEarly st).callTestRead st else s

/-- A hold joins a roll's hold set; a first hold has the effects of R13. -/
def addHoldRead (id : RollId) (k : HoldKind) (s : State) : State :=
  match s.findRoll id with
  | some (slot, r) =>
    if r.holds.has k then s
    else
      let s := s.setSlot slot { r with holds := r.holds.add k }
      if r.holds.none then
        match r.status with
        | .running st => s.heldRunning st
        | .reserved _ (.call _) | .carried _ =>
          match s.callNaming? id with
          | some c => if c.phase = .selected id then s.reopenCallRead c else s
          | none => s
        | _ => s
      else s
  | none => s

/-! ### Reads of the roll table (R14, R194) -/

/-- A read of a roll slot: on a parity error PARITY joins the record's hold set, the record is written back, and
MEMORY-PARITY names the slot (R14). -/
def readSlot (k : Nat) (s : State) : State :=
  if s.tmc.badRolls.contains k then
    let s := match s.slot? k with
      | some r => s.addHoldRead r.id .parity
      | none => s
    (s.goodRoll k).raiseParity codeRolls k
  else s

/-- A read of a roll's record by its id. -/
def readRoll (id : RollId) (s : State) : State :=
  match s.findRoll id with
  | some (k, _) => s.readSlot k
  | none => s

/-- A read of the record of a roll that a field may name. -/
def readNamed (id : Option RollId) (s : State) : State :=
  match id with
  | some id => s.readRoll id
  | none => s

/-- A read of the record of a stand's active roll. -/
def readActive (st : StandIx) (s : State) : State := s.readNamed (s.stand st).active

/-- The record of a roll id read, changed and written back; nothing for an unknown roll. -/
def updRoll (id : RollId) (f : Roll → Roll) (s : State) : State :=
  let s := s.readRoll id
  match s.findRoll id with
  | some (k, r) => s.setSlot k (f r)
  | none => s

/-- A hold added to the roll of an id (R12, R13). -/
def addHold (id : RollId) (k : HoldKind) (s : State) : State := (s.readRoll id).addHoldRead id k

/-! ### Calls reopened and removed (R143, R144) -/

/-- A roll RESERVED for the call of a stand returns to STORED at its place (R11). -/
def freeReserved (st : StandIx) (id : RollId) (s : State) : State := (s.readRoll id).freeReservedRead st id

/-- What a call leaves behind when its state is left: its order loses the link, and a roll RESERVED for it is released. -/
def leavePhase (c : Call) (s : State) : State := (s.readNamed c.phase.roll?).leavePhaseRead c

/-- A call enters OPEN with its roll field and link cleared; the test for a search start follows (R143). -/
def reopenCall (c : Call) (s : State) : State := ((s.putCall { c with phase := .opened }).leavePhase c).startSearch

/-- A call removed from the list (R144). -/
def removeCall (st : StandIx) (s : State) : State :=
  match s.call? st with
  | some c => (((s.dropCall st).discardSearch st).leavePhase c).startSearch
  | none => s

/-! ### The call test and what brings it (R131, R135) -/

/-- The call test will look at the holds of the stand's active roll: a FEEDING stand in the lead without a call. -/
def asksHolds (s : State) (st : StandIx) : Bool :=
  s.running && s.inLead st && (s.call? st).isNone && decide ((s.stand st).state = .feeding)

/-- The call test (R135). A parity error in the active roll's record is a hold, which opens the call by itself (R13). -/
def callTest (st : StandIx) (s : State) : State := (if s.asksHolds st then s.readActive st else s).callTestRead st

/-- Ts is recomputed and handed to the call rules in NORMAL and AUTONOMOUS (R131, R136). -/
def computeTs (st : StandIx) (s : State) : State :=
  let s := s.updStand st fun x => { x with ts := s.tsValue st }
  if s.running then
    callTest st
      (match s.call? st with
       | some c => if c.early then s else s.putCall { c with due := s.second + (s.stand st).ts }
       | none => s)
  else s

/-- After a change of a stand's state: Ts unbounded where it has none, a held call made early, the call test (R132, R135,
R136). -/
def stateChanged (st : StandIx) (s : State) : State :=
  match (s.stand st).state with
  | .idle | .starved =>
    let s := s.updStand st fun x => { x with ts := Config.unbounded }
    if s.running then (s.makeEarly st).callTest st else s
  | .out => s.updStand st fun x => { x with ts := Config.unbounded }
  | .feeding | .armed => if s.running then s.callTest st else s

/-- The last-starved report and the starved set take the stand (R103). -/
def recordStarved (st : StandIx) (s : State) : State :=
  { s with fdu := { s.fdu with
    lastStarved := num st
    lastStarvedTick := s.clock
    starved := setWith s.fdu.starved st.val } }

/-- The effects of starvation (R103). -/
def starve (st : StandIx) (s : State) : State :=
  let s := (s.updStand st fun x => { x with state := .starved }).raise .standStarved (num st)
  (s.recordStarved st).stateChanged st

/-- The starvation test (R102). -/
def starveTest (st : StandIx) (s : State) : State :=
  if s.running ∧ (s.stand st).state = .feeding ∧ (s.stand st).lr = 0 ∧ 0 < s.standSpeed st then s.starve st else s

/-- The late-splice test (R134). -/
def lateTest (st : StandIx) (s : State) : State :=
  let x := s.stand st
  if s.running && s.inLead st && x.active.isSome && !x.late &&
      (decide (x.lr + 10 * s.fdu.lateMargin ≤ x.lres) || decide (x.lr = 0)) then
    (s.updStand st fun x => { x with late := true }).raise .spliceLate (num st)
  else s

/-- Lres of a stand: L(Ds) of its active roll while the stand is in the lead, else 0 (R130). -/
def lresValue (s : State) (st : StandIx) : Nat :=
  if s.inLead st then
    match (s.stand st).active with
    | some id =>
      match s.roll? id with
      | some r => r.length (s.activeStand st).splice
      | none => 0
    | none => 0
  else 0

/-! ### What the RTU tells the FDU of a roll (R143) -/

/-- A vehicle picked the roll: a call naming it reopens, unless the vehicle has the call's linked order outstanding. -/
def callPicked (id : RollId) (v : VehicleIx) (s : State) : State :=
  match s.callNaming? id with
  | some c =>
    match c.phase with
    | .ordered _ l =>
      if l.vehicle = v ∧ (s.vehicle v).outstanding.any (fun o => o.tag = l.tag) then s else s.reopenCall c
    | _ => s.reopenCall c
  | none => s

/-- The roll was set down and recorded away from its call's stand: a call in SELECTED reopens. -/
def callDropped (id : RollId) (s : State) : State :=
  match s.callNaming? id with
  | some c => if c.phase = .selected id then s.reopenCall c else s
  | none => s

/-- The roll's record was removed: a call naming it reopens. -/
def callRollRemoved (id : RollId) (s : State) : State :=
  match s.callNaming? id with
  | some c => s.reopenCall c
  | none => s

end State

end Sys2Proof.Machine
end

