-- ==== Sys2Proof/Machine/Tracks.lean ====
section
/-! DEFINITION. The Track Claim Unit: claims, waiting lists, wait cycles, paths and zones (R52 to R70). -/

namespace Sys2Proof.Machine

/-- What the TCU finds for the current segment of a VPOS (R61). -/
inductive Finding where
  | noPosition
  | held
  | noneHeld
  | notHeld
  deriving DecidableEq, Repr

/-- The first entry of a path at or after the pointer that is the segment (R62). -/
def firstAt (path : List PathEntry) (pointer n : Nat) : Option Nat :=
  ((path.drop pointer).findIdx? fun e => e.seg = n).map (· + pointer)

/-- Claim c was granted for an entry of the path before that of claim d. -/
def TrackClaim.behind (c d : TrackClaim) : Bool :=
  match c.pos, d.pos with
  | some i, some j => decide (i < j)
  | _, _ => false

/-- A claim in its place along the path: at the tail, but ahead of the claims granted for later entries (R58, R62; log 50). -/
def insertClaim (c : TrackClaim) : List TrackClaim → List TrackClaim
  | [] => [c]
  | d :: r => if c.behind d then c :: d :: r else d :: insertClaim c r

/-- The position of an occupied claim on segment n: the pointer, when its entry is that segment (R58, R59). -/
def Vehicle.occupiedPos (x : Vehicle) (n : Nat) : Option Nat :=
  match x.path[x.pointer]? with
  | some e => if e.seg = n then some x.pointer else none
  | none => none

/-- The occupied claim takes the position that its segment has at the pointer (R58). -/
def Vehicle.placeOccupied (x : Vehicle) : Vehicle :=
  { x with claims := match x.claims with
    | c :: r => { c with pos := x.occupiedPos c.seg } :: r
    | [] => [] }

namespace State

/-! ### Segments -/

/-- The segment is configured (R52). -/
def configured (s : State) (n : Nat) : Bool := (s.seg n).capacity ≠ 0

/-- The segment has room (R52). -/
def hasRoom (s : State) (n : Nat) : Bool := (s.seg n).holders.length < (s.seg n).capacity

/-- The zone is halted: its lost set or its intruder set is not empty (R68). -/
def zoneHalted (s : State) (z : ZoneIx) : Bool := (s.zone z).lost ≠ 0 ∨ (s.zone z).intruders ≠ 0

/-- The zone of a configured segment. -/
def zoneOf? (s : State) (n : Nat) : Option ZoneIx := if s.configured n then toIx 8 (s.seg n).zone else none

/-- The segment lies in a halted zone. -/
def segHalted (s : State) (n : Nat) : Bool :=
  match s.zoneOf? n with
  | some z => s.zoneHalted z
  | none => false

/-- The segment whose waiting list the vehicle is in. -/
def waitsFor? (s : State) (v : VehicleIx) : Option Nat :=
  (s.tcu.segments.find? fun e => e.2.waiters.contains v).map Prod.fst

/-- The vehicle leaves its waiting list. -/
def leaveWaiting (v : VehicleIx) (s : State) : State :=
  match s.waitsFor? v with
  | some n => s.updSeg n fun x => { x with waiters := x.waiters.filter (· ≠ v) }
  | none => s

/-- The vehicle holds a claim in the zone. -/
def holdsIn (s : State) (v : VehicleIx) (z : ZoneIx) : Bool :=
  (s.vehicle v).claims.any fun c => s.zoneOf? c.seg = some z

/-! ### Grants and service (R62, R65, R66) -/

/-- A claim is added to the holder list and to the claim list (R62 case 6). A vehicle that waited for the segment waits for it
no longer, be it granted or seated there (R52, R65; log 51). -/
def takeClaim (v : VehicleIx) (n : Nat) (pos : Option Nat) (s : State) : State :=
  (s.updSeg n fun x => { x with holders := x.holders ++ [v], waiters := x.waiters.filter (· ≠ v) }).updVehicle v
    fun x => { x with claims := insertClaim ⟨n, pos⟩ x.claims }

/-- A claim granted to a vehicle on its path. -/
def grantClaim (v : VehicleIx) (n : Nat) (s : State) : State :=
  let x := s.vehicle v
  (s.takeClaim v n (firstAt x.path x.pointer n)).sendGrant v n .granted

/-- A waiter may be granted: not HALTED, not LOST, claim list not full (R65). -/
def eligible (s : State) (v : VehicleIx) : Bool :=
  let x := s.vehicle v
  x.causes.none && decide (x.status ≠ .lost) && decide (x.claims.length < s.tcu.claimDepth)

/-- Service of a waiting list: eligible waiters are granted from the head while there is room; nothing while the segment
is blocked or its zone halted (R65, R70). -/
def serve (n : Nat) (s : State) : State :=
  if (s.seg n).blocked || s.segHalted n then s
  else
    (s.seg n).waiters.foldl
      (fun s w =>
        if s.hasRoom n && s.eligible w then s.grantClaim w n else s) s

/-- Service of the list in which a vehicle waits (R66). -/
def serveWaiting (v : VehicleIx) (s : State) : State :=
  match s.waitsFor? v with
  | some n => s.serve n
  | none => s

/-- The vehicle keeps the claims given and the others are released: each leaves the holder list with the claim list, then
each freed segment is served in claim list order (R65). -/
def dropClaims (v : VehicleIx) (gone keep : List TrackClaim) (s : State) : State :=
  let s := s.updVehicle v fun x => { x with claims := keep }
  let s := gone.foldl (fun s c => s.updSeg c.seg fun x => { x with holders := x.holders.filter (· ≠ v) }) s
  gone.foldl (fun s c => s.serve c.seg) s

/-- Claims released on a vehicle's way: a vehicle that has lost an entry has the list it waits in served once, after every
freed segment (R66, log 52). -/
def releaseClaims (v : VehicleIx) (gone keep : List TrackClaim) (s : State) : State :=
  let s := s.dropClaims v gone keep
  if gone = [] then s else s.serveWaiting v

/-- Seating: the vehicle takes its occupied claim on its current segment, if that is configured and has room; blocked or
not, halted or not (R59, R95). -/
def seat (v : VehicleIx) (s : State) : State :=
  let x := s.vehicle v
  if s.configured x.currentSeg && s.hasRoom x.currentSeg then
    s.takeClaim v x.currentSeg (x.occupiedPos x.currentSeg)
  else s

/-! ### Paths (R59) -/

/-- An order joins the path: its legs at the tail; a path that was empty has its pointer set, and the vehicle is seated, or
keeps the claim it holds from an order without segments (log 12). A pointer that stood behind the last entry (log 10) has an
entry again, which the occupied claim takes when it is its segment (R58). -/
def joinPath (v : VehicleIx) (o : Order) (s : State) : State :=
  let x := s.vehicle v
  let s := s.setVehicle v { x with
    path := x.path ++ (o.leg1 ++ o.leg2).map fun n => ⟨n, o.tag⟩
    pointer := if x.path.isEmpty then 0 else x.pointer }
  if x.path.isEmpty && x.claims.isEmpty then s.seat v
  else if x.path.isEmpty || decide (x.path.length ≤ x.pointer) then s.updVehicle v Vehicle.placeOccupied
  else s

/-- A vehicle that waits for a segment no longer on its path at or after the pointer leaves that waiting list (R59; log 53). -/
def leavePassed (v : VehicleIx) (s : State) : State :=
  match s.waitsFor? v with
  | some n => if firstAt (s.vehicle v).path (s.vehicle v).pointer n = none then s.leaveWaiting v else s
  | none => s

/-- The last order has left: every claim is released and the vehicle waits nowhere. -/
def emptyPath (v : VehicleIx) (s : State) : State :=
  let s := (s.leaveWaiting v).updVehicle v fun x => { x with path := [], pointer := 0 }
  s.releaseClaims v (s.vehicle v).claims []

/-- The path entry of a claim is kept when the order of a tag leaves. -/
def claimKept (path : List PathEntry) (tag : Byte) (c : TrackClaim) : Bool :=
  match c.pos with
  | some i => (path[i]?).any fun e => e.tag ≠ tag
  | none => true

/-- The entries of the order leave the path, the pointer moves to the next entry that remains, and the claim list is cut
back; the positions of the claims follow their entries. -/
def cutPath (v : VehicleIx) (tag : Byte) (s : State) : State :=
  let x := s.vehicle v
  let moved (i : Nat) : Nat := (x.path.take i).countP fun e => e.tag ≠ tag
  let path := x.path.filter fun e => e.tag ≠ tag
  let pointer := moved x.pointer
  let kept := (x.claims.drop 1).takeWhile (claimKept x.path tag)
  let gone := x.claims.drop (1 + kept.length)
  let first := (x.claims.take 1).map fun c : TrackClaim =>
    { c with pos :=
        if c.pos.isSome && claimKept x.path tag c then c.pos.map moved
        else if (path[pointer]?).any fun e => e.seg = c.seg then some pointer
        else none }
  let rest := kept.map fun c : TrackClaim => { c with pos := c.pos.map moved }
  ((s.updVehicle v fun x => { x with path := path, pointer := pointer }).leavePassed v).releaseClaims v gone (first ++ rest)

/-- The order of a tag has left the outstanding list: its entries leave the path (R59). -/
def leavePath (v : VehicleIx) (tag : Byte) (s : State) : State :=
  if (s.vehicle v).outstanding.isEmpty then s.emptyPath v else s.cutPath v tag

/-! ### Position reports (R61 to R64) -/

/-- The current segment of a VPOS is taken (R61). The pointer moves forward only; a vehicle that has passed the segment it
waits for waits no longer (log 53). -/
def takeCurrent (v : VehicleIx) (c : Nat) (s : State) : Finding × State :=
  let x := s.vehicle v
  if !s.configured c then (.noPosition, s)
  else
    match x.claims.findIdx? fun k => k.seg = c with
    | some i =>
      let p := ((x.claims[i]?).bind TrackClaim.pos).getD 0
      let s := (s.updVehicle v fun y => { y with pointer := max y.pointer p }).leavePassed v
      (.held, s.releaseClaims v (x.claims.take i) (x.claims.drop i))
    | none => (if x.claims.isEmpty then .noneHeld else .notHeld, s)

/-- The wait-cycle test: from the segments to visit to their holders and on to the segments those wait for (R64). -/
def cycleFrom (s : State) (v : VehicleIx) : Nat → List Nat → List Nat → Bool
  | 0, _, _ => false
  | _ + 1, _, [] => false
  | fuel + 1, visited, n :: toVisit =>
    let holders := (s.seg n).holders
    holders.contains v ||
      (let next := (holders.filterMap s.waitsFor?).filter fun m => !(n :: visited).contains m && !toVisit.contains m
       cycleFrom s v fuel (n :: visited) (toVisit ++ next.eraseDups))

/-- Waiting for segment n would close a cycle back to the vehicle (R64). -/
def closesCycle (s : State) (v : VehicleIx) (n : Nat) : Bool := s.cycleFrom v Config.cycleVisits [] [n]

/-- The wait check (R63). -/
def waitCheck (v : VehicleIx) (n : Nat) (s : State) : State :=
  if (s.seg n).waiters.contains v then s.sendGrant v n .wait
  else if s.closesCycle v n then
    ((s.sendGrant v n .deadlock).raise .deadlock (num v)).updVehicle v
      fun x => { x with causes := { x.causes with deadlock := true } }
  else
    ((s.leaveWaiting v).updSeg n fun x => { x with waiters := x.waiters ++ [v] }).sendGrant v n .wait

/-- A request for a segment is decided (R62). -/
def request (v : VehicleIx) (n : Nat) (s : State) : State :=
  let x := s.vehicle v
  if !x.causes.none then s.sendGrant v n .halted
  else if x.outstanding.isEmpty then s.sendGrant v n (if n = x.currentSeg then .granted else .idle)
  else if firstAt x.path x.pointer n = none then s.sendGrant v n .offRoute
  else if x.claims.any (fun c => c.seg = n) then s.sendGrant v n .granted
  else if s.tcu.claimDepth ≤ x.claims.length then s
  else if s.hasRoom n && !(s.seg n).blocked && !s.segHalted n then s.grantClaim v n
  else s.waitCheck v n

/-! ### Zones (R68, R69) -/

/-- A zone has become halted: every vehicle holding a claim in it gains ZONE, and each that had not is sent a HOLD. -/
def haltZone (z : ZoneIx) (s : State) : State :=
  (List.finRange 16).foldl
    (fun s v =>
      if s.holdsIn v z && !(s.vehicle v).causes.zone then
        let s := s.updVehicle v fun x => { x with causes := { x.causes with zone := true } }
        if (s.vehicle v).status = .lost then s.sendHoldLost v else s.sendHold v
      else s) s

/-- A change of a zone's sets that may halt it. -/
def changeZone (z : ZoneIx) (f : Zone → Zone) (s : State) : State :=
  let was := s.zoneHalted z
  let s := s.updZone z f
  if !was && s.zoneHalted z then s.haltZone z else s

/-- A vehicle has become LOST: under HALT-ZONE it joins the lost set of its current segment's zone (R68). -/
def zoneLost (v : VehicleIx) (s : State) : State :=
  match s.zoneOf? (s.vehicle v).currentSeg with
  | some z =>
    if (s.zone z).haltOne then s else s.changeZone z fun x => { x with lost := setWith x.lost v.val }
  | none => s

/-- A zone's halt is lifted: ZONE leaves the vehicles no other halted zone keeps, those whose set has emptied are sent a
RELEASE, and the zone's waiting lists are served (R69). The vehicles whose set has emptied are answered. -/
def liftZone (z : ZoneIx) (s : State) : State × List VehicleIx :=
  let freed := (List.finRange 16).filter fun v =>
    (s.vehicle v).causes.zone && !((List.finRange 8).any fun y => decide (y ≠ z) && s.zoneHalted y && s.holdsIn v y)
  let s := freed.foldl (fun s v => s.updVehicle v fun x => { x with causes := { x.causes with zone := false } }) s
  let emptied := freed.filter fun v => (s.vehicle v).causes.none
  let s := emptied.foldl
    (fun s v =>
      if s.running ∧ (s.vehicle v).status ≠ .off ∧ (s.vehicle v).status ≠ .lost then s.sendRelease v else s) s
  let lists := (s.tcu.segments.map Prod.fst).filter fun n => s.zoneOf? n = some z
  (lists.foldl (fun s n => s.serve n) s, emptied)

/-- The zone is lifted if it was halted and its sets are now both empty. -/
def liftIfClear (z : ZoneIx) (was : Bool) (s : State) : State × List VehicleIx :=
  if was && !s.zoneHalted z then s.liftZone z else (s, [])

/-- The vehicle leaves every lost set; zones left clear are lifted (R67, R69). -/
def leaveLostSets (v : VehicleIx) (s : State) : State × List VehicleIx :=
  (List.finRange 8).foldl
    (fun (a : State × List VehicleIx) z =>
      if setHas (a.1.zone z).lost v.val then
        let r := (a.1.updZone z fun x => { x with lost := setWithout x.lost v.val }).liftIfClear z true
        (r.1, a.2 ++ r.2)
      else a) (s, [])

/-- The vehicle is found intruding in a zone (R68): it joins the zone's intruder set under HALT-ZONE, and passes from a
lost set to that zone's intruder set. -/
def zoneIntruded (v : VehicleIx) (z : ZoneIx) (s : State) : State × List VehicleIx :=
  let s := if (s.zone z).haltOne then s else s.changeZone z fun x => { x with intruders := setWith x.intruders v.val }
  (List.finRange 8).foldl
    (fun (a : State × List VehicleIx) y =>
      if setHas (a.1.zone y).lost v.val then
        let r := (a.1.updZone y fun x =>
          { x with
            lost := setWithout x.lost v.val
            intruders := if x.haltOne then x.intruders else setWith x.intruders v.val }).liftIfClear y true
        (r.1, a.2 ++ r.2)
      else a) (s, [])

end State

end Sys2Proof.Machine
end

