-- ==== Sys2Proof/Machine/Orders.lean ====
section
/-! DEFINITION. Route lookup, drop claims, call links, admission, forwarding, the ending of orders, and the FDU's choice of a
vehicle in AUTONOMOUS (R9, R40, R41, R49, R57, R75 to R85, R140, R141, R180). -/

namespace Sys2Proof.Machine

/-- The answer of a route lookup (R57). -/
inductive Leg where
  | missing
  | blocked (segments : List Nat)
  | clear (segments : List Nat)
  deriving DecidableEq, Repr

/-- The segments of a clear leg. -/
def Leg.clear? : Leg → Option (List Nat)
  | .clear l => some l
  | _ => Option.none

/-- What an order asks: the fields of a MOVE NEW (02 "Body layouts"). A location is none when its kind byte is undefined. -/
structure MoveFields where
  vehicleAddr : Byte
  tag         : Byte
  pickup      : Option Loc
  drop        : Option Loc
  roll        : RollId
  deriving DecidableEq, Repr

/-- The stand of a STAND location. -/
def Loc.stand? (l : Loc) : Option StandIx := if l.kind = .stand then toIx 24 l.num else none

/-- STAND s as a location. -/
def standLoc (st : StandIx) : Loc := ⟨.stand, num st⟩

/-- Pickup kinds allowed for an order (R77 check 9). -/
def pickupAllowed (roll : RollId) (k : LocKind) : Bool :=
  match k with
  | .none => true
  | .place | .stand | .dock => roll ≠ 0
  | _ => false

/-- Drop kinds allowed for an order (R77 check 9). -/
def dropAllowed (roll : RollId) (k : LocKind) : Bool :=
  match k with
  | .place | .stand | .dock | .waste => true
  | .home => roll = 0
  | _ => false

/-- Why two legs and the drop's blocked mark refuse an order: missing before blocked (R78). -/
def legsReason (leg1 leg2 : Leg) (dropBlocked : Bool) : Option Reason :=
  if leg1 = .missing ∨ leg2 = .missing then some .routeMissing
  else if leg1.clear?.isNone || leg2.clear?.isNone || dropBlocked then some .routeBlocked
  else none

/-- A roll that keeps its call in SELECTED when the order of vehicle v ends: RESERVED for the call or CARRIED on v (R83). -/
def servesCall (v : VehicleIx) (st : StandIx) : RollStatus → Bool
  | .reserved _ o => o = .call st
  | .carried w => w = some v
  | _ => false

namespace State

/-! ### Routes (R57) -/

/-- A location read at one end of a route: a PLACE record is read from the table memory. -/
def readLoc (l : Loc) (s : State) : State := if l.kind = .place then s.readPlace l.num else s

/-- A PLACE whose access segment is not configured. -/
def unreachable (s : State) (l : Loc) : Bool := l.kind = .place ∧ (s.place l.num).access = 0

/-- A route slot read with a parity error is freed and flagged (R57). -/
def freeBadRoute (k : Nat) (s : State) : State :=
  (s.freeRoute k).raiseParity codeRoutes k

/-- A route lookup: the answer, and the state after the reads it made, in slot order up to the record found (R57). -/
def lookup (a b : Loc) (s : State) : Leg × State :=
  if a = b then (.clear [], s)
  else
    let s := (s.readLoc a).readLoc b
    if s.unreachable a || s.unreachable b then (.missing, s)
    else
      let found := s.tmc.routes.find? fun e => e.2.start = a ∧ e.2.goal = b ∧ !s.tmc.badRoutes.contains e.1
      let read := inOrder (s.tmc.badRoutes.filter fun k =>
        match found with
        | some e => k < e.1
        | none => true)
      let s' := read.foldl (fun s k => s.freeBadRoute k) s
      match found with
      | some e =>
        if e.2.leg.all fun n => s.configured n && !(s.seg n).blocked then (.clear e.2.leg, s') else (.blocked e.2.leg, s')
      | none => (.missing, s')

/-- The two legs of an order from a start (R78): to the pickup and on to the drop, or straight to the drop. -/
def lookupLegs (start pickup drop : Loc) (s : State) : Leg × Leg × State :=
  if pickup.kind = .none then
    let r := s.lookup start drop
    (.clear [], r.1, r.2)
  else
    let r1 := s.lookup start pickup
    let r2 := r1.2.lookup pickup drop
    (r1.1, r2.1, r2.2)

/-- The drop is a PLACE whose blocked mark is set. -/
def dropBlocked (s : State) (l : Loc) : Bool := decide (l.kind = .place) && (s.place l.num).blocked

/-! ### Orders and drop claims (R9, R81) -/

/-- Every admitted order with its vehicle. -/
def orders (s : State) : List (VehicleIx × Order) :=
  (List.finRange 16).flatMap fun v => ((s.vehicle v).outstanding ++ (s.vehicle v).queue).map fun o => (v, o)

/-- One admitted order changed. -/
def updOrder (r : OrderRef) (f : Order → Order) (s : State) : State :=
  let g (o : Order) : Order := if o.tag = r.tag then f o else o
  s.updVehicle r.vehicle fun x => { x with outstanding := x.outstanding.map g, queue := x.queue.map g }

/-- The drop claim of a location; only places and stand arms have one. -/
def dropClaim? (s : State) (l : Loc) : Option OrderRef :=
  match l.kind with
  | .place => (s.place l.num).claim
  | .stand =>
    match l.stand? with
    | some st => (s.stand st).claim
    | none => none
  | _ => none

/-- The drop claim of a location written. -/
def setDropClaim (l : Loc) (c : Option OrderRef) (s : State) : State :=
  match l.kind with
  | .place => s.updPlace l.num fun x => { x with claim := c }
  | .stand =>
    match l.stand? with
    | some st => s.updStand st fun x => { x with claim := c }
    | none => s
  | _ => s

/-- A claim is released when it still names the order (R9). -/
def releaseDropClaim (l : Loc) (r : OrderRef) (s : State) : State :=
  let s := s.readLoc l
  if s.dropClaim? l = some r then s.setDropClaim l none else s

/-- The arm of a stand has become NONE: a PENDING claim on it becomes the arm's drop claim (R81). -/
def armEmptied (st : StandIx) (s : State) : State :=
  match s.orders.find? fun e => e.2.claim = .pending ∧ e.2.drop = standLoc st with
  | some (v, o) =>
    (s.updStand st fun x => { x with claim := some ⟨v, o.tag⟩ }).updOrder ⟨v, o.tag⟩ fun o => { o with claim := .held }
  | none => s

/-! ### Calls and orders (R78, R83, R140, R143) -/

/-- The place where a roll stands reserved; 0 for a roll that is carried (R140). -/
def callPlace (s : State) (id : RollId) : Nat :=
  match s.roll? id with
  | some r =>
    match r.status with
    | .reserved p _ => p
    | .stored p => p
    | _ => 0
  | none => 0

/-- The CALL telegram of a call; none is made while there is no collector (R140, R44). -/
def sendCall (c : Call) (s : State) : State :=
  if s.sfu.collector = 0 then s
  else
    match c.phase.roll? with
    | some id =>
      s.placeUpper ⟨s.sfu.collector, s.ownAddr, clsCall,
        be8 (num c.stand) ++ beWord id ++ be16 (s.callPlace id) ++ be32 c.due⟩
    | none => s

/-- The roll of a stand's call in SELECTED. -/
def selectedRoll? (s : State) (st : StandIx) : Option RollId :=
  match (s.call? st).map Call.phase with
  | some (.selected id) => some id
  | _ => none

/-- A call enters SELECTED on a roll: in NORMAL its CALL is made (R140). -/
def selectCall (c : Call) (id : RollId) (s : State) : State :=
  let c := { c with phase := .selected id }
  let s := s.putCall c
  if s.sfu.mode = .normal then s.sendCall c else s

/-- The link of an admitted order to a stand's call, with the upper override and the relink (R78). -/
def linkCall (st : StandIx) (r : OrderRef) (roll : RollId) (s : State) : State :=
  match s.call? st with
  | some c =>
    let s := (s.putCall { c with phase := .ordered roll r }).discardSearch st
    let s := match c.phase.link? with
      | some l => s.clearOrderLink l
      | none => s
    let s := match c.phase.roll? with
      | some old => if old = roll then s else s.freeReserved st old
      | none => s
    (s.updOrder r fun o => { o with link := some st }).startSearch
  | none => s

/-- An ended order's call reverts (R83 step 4, R143). -/
def revertCall (v : VehicleIx) (o : Order) (s : State) : State :=
  match o.link.bind s.call? with
  | some c =>
    match c.phase with
    | .ordered id l =>
      if l = ⟨v, o.tag⟩ then
        let s := s.readRoll id
        let keep : Bool := match s.roll? id with
          | some r => r.holds.none && servesCall v c.stand r.status
          | none => false
        if keep then s.selectCall c id else s.reopenCall c
      else s
    | _ => s
  | none => s

/-- The order's call stands in SELECTED. -/
def linkSelected (s : State) (o : Order) : Bool := (o.link.bind s.selectedRoll?).isSome

/-! ### Ending an order (R83) -/

/-- Steps 1 to 4 of R83 for an order of the outstanding list. -/
def endOutstanding (v : VehicleIx) (o : Order) (e : OrderEnd) (s : State) : State :=
  let newest : Bool := (((s.vehicle v).outstanding.dropWhile fun x => x.tag ≠ o.tag).drop 1).isEmpty
  let s := s.updVehicle v fun x => { x with outstanding := x.outstanding.filter fun y => y.tag ≠ o.tag }
  let s := s.leavePath v o.tag
  let s := if o.claim = .held then s.releaseDropClaim o.drop ⟨v, o.tag⟩ else s
  let s :=
    if newest && (e = .failed ∨ e = .cancelled) then
      s.updVehicle v fun x => { x with
        endLoc := if x.currentSeg = 0 then ⟨.home, x.home⟩ else ⟨.segment, x.currentSeg⟩ }
    else s
  s.revertCall v o

/-- Steps 1 to 4 of R83 for an order of the hold queue: no path entries, and the end location stays. -/
def endQueued (v : VehicleIx) (o : Order) (s : State) : State :=
  let s := s.updVehicle v fun x => { x with queue := x.queue.filter fun y => y.tag ≠ o.tag }
  let s := if o.claim = .held then s.releaseDropClaim o.drop ⟨v, o.tag⟩ else s
  s.revertCall v o

/-- The state change of R83 step 5, without what becoming IDLE brings. -/
def settle (v : VehicleIx) (s : State) : State :=
  let x := s.vehicle v
  if x.outstanding.isEmpty then
    match x.status with
    | .busy => s.setVehicle v { x with status := .idle }
    | .lost => s.setVehicle v { x with beforeLoss := .idle }
    | _ => s
  else s

/-! ### Forwarding (R80, R41, R49) -/

/-- The head of the hold queue, when it may be forwarded now (R80). -/
def forwardable? (s : State) (v : VehicleIx) : Option Order :=
  let x := s.vehicle v
  if s.running && (x.status = .idle ∨ x.status = .busy) && x.causes.none && x.outstanding.length < x.window then
    x.queue.head?
  else none

/-- The vehicle becomes IDLE when R83 step 5 is taken now. -/
def fallsIdle (s : State) (v : VehicleIx) : Bool :=
  (s.vehicle v).outstanding.isEmpty && decide ((s.vehicle v).status = .busy)

/-- The forwarded MOVE placed on Floor normal; on a full queue the order is undone as failed in forwarding, with what tells
the FDU of a vehicle that becomes IDLE by it (R41, R49, R83). -/
def sendMove (tell : State → State) (v : VehicleIx) (o : Order) (s : State) : State :=
  match s.vehicleEntry? v with
  | some e =>
    if s.normalRoom then
      s.placeNormal ⟨e.addr, if o.source = .upper then o.reply else s.ownAddr, clsMove, forwardedMoveBody o e.addr⟩
    else
      let s := (s.raise .queueOverflow 2).endOutstanding v o .failed
      let idled := s.fallsIdle v
      let s := s.settle v
      (if idled then tell s else s).refuseTo o.reply o.tag e.addr .queueFull
  | none => s

/-- The head of the hold queue is looked up again and forwarded, or fails at forwarding (R80). -/
def forwardHead (tell : State → State) (v : VehicleIx) (o : Order) (s : State) : State :=
  let (leg1, leg2, s) := (s.readLoc o.drop).lookupLegs (s.vehicle v).endLoc o.pickup o.drop
  match legsReason leg1 leg2 (s.dropBlocked o.drop) with
  | some reason => (s.endQueued v o).refuseTo o.reply o.tag (s.vehicleAddr v) reason
  | none =>
    let o := { o with leg1 := leg1.clear?.getD [], leg2 := leg2.clear?.getD [] }
    let s := s.updVehicle v fun x => { x with
      queue := x.queue.drop 1
      outstanding := x.outstanding ++ [o] }
    let s := (s.joinPath v o).updVehicle v fun x => { x with endLoc := o.drop, status := .busy }
    s.sendMove tell v o

/-- Forwarding goes on until the window is full, the queue is empty or the head waits; each round takes one order out of
the queue. -/
def forwardLoop (tell : State → State) (v : VehicleIx) : Nat → State → State
  | 0, s => s
  | n + 1, s =>
    match s.forwardable? v with
    | some o => forwardLoop tell v n (s.forwardHead tell v o)
    | none => s

/-- The hold queue considered where no try may follow: in NORMAL, and within a try (log 13). -/
def forward (v : VehicleIx) (s : State) : State := s.forwardLoop id v (s.vehicle v).queue.length

/-! ### Admission (R76 to R78) -/

/-- Check 9. -/
def locationsOk (s : State) (roll : RollId) (pickup drop : Loc) : Bool :=
  pickupAllowed roll pickup.kind && (decide (pickup.kind = .none) || pickup.inRange s) &&
    dropAllowed roll drop.kind && drop.inRange s

/-- The roll stands where the order would lift it (R77 check 10). -/
def pickable (v : VehicleIx) (pickup : Loc) : RollStatus → Bool
  | .announced k => pickup.kind = .dock ∧ pickup.num = k
  | .stored p => pickup.kind = .place ∧ pickup.num = p
  | .reserved p _ => pickup.kind = .place ∧ pickup.num = p
  | .butt st => pickup = standLoc st
  | .carried w => pickup.kind = .none ∧ w = some v
  | _ => false

/-- Check 10. -/
def rollOk (s : State) (v : VehicleIx) (roll : RollId) (pickup : Loc) : Bool :=
  match s.roll? roll with
  | some r =>
    pickable v pickup r.status && !(s.orders.any fun e => e.2.roll = roll ∧ e.2.progress = .toPickup)
  | none => false

/-- Check 11 fails: another stand's call has the roll. -/
def reservedElsewhere (s : State) (roll : RollId) (drop : Loc) : Bool :=
  (match s.callNaming? roll with
   | some c => decide (drop ≠ standLoc c.stand)
   | none => false) ||
  (match (s.roll? roll).map Roll.status with
   | some (.reserved _ (.call st)) => decide (drop ≠ standLoc st)
   | _ => false)

/-- Check 12 fails: the drop holds a roll. -/
def dropOccupied (s : State) (drop : Loc) : Bool :=
  match drop.kind with
  | .place => (s.place drop.num).occupant.isSome
  | .stand =>
    match drop.stand? with
    | some st =>
      match (s.stand st).other with
      | .standby _ => true
      | .butt _ => !(s.orders.any fun e => e.2.pickup = drop ∧ e.2.progress = .toPickup)
      | .none => false
    | none => false
  | _ => false

/-- Check 13 fails: the drop is claimed. -/
def dropClaimed (s : State) (drop : Loc) : Bool :=
  (s.dropClaim? drop).isSome || s.orders.any fun e => e.2.claim = .pending ∧ e.2.drop = drop

/-- Where the legs of a new order start: the drop of the newest queued order, or the end location (R78). -/
def plannedStart (s : State) (v : VehicleIx) : Loc :=
  match (s.vehicle v).queue.getLast? with
  | some o => o.drop
  | none => (s.vehicle v).endLoc

/-- Checks 1 to 8: the mode, the vehicle and the tag. -/
def refusedEarly (s : State) (src : Source) (m : MoveFields) : Except Reason VehicleIx :=
  if !s.running then .error .notRunning
  else if src = .upper ∧ s.sfu.mode = .autonomous then .error .autonomous
  else
    match s.vehicleAt? m.vehicleAddr with
    | none => .error .unknownVehicle
    | some v =>
      let x := s.vehicle v
      if x.status = .off then .error .vehicleOff
      else if x.status = .lost then .error .vehicleLost
      else if m.tag = 0 ∨ (src = .upper ∧ 200 ≤ m.tag.toNat) then .error .badTag
      else if (x.outstanding ++ x.queue).any fun o => o.tag = m.tag then .error .tagInUse
      else if Config.holdSlots ≤ x.queue.length then .error .queueFull
      else .ok v

/-- Checks 10 to 13, which a travel order passes. -/
def refusedRoll (s : State) (v : VehicleIx) (roll : RollId) (pickup drop : Loc) : Option Reason :=
  if roll = 0 then none
  else if !s.rollOk v roll pickup then some .rollState
  else if s.reservedElsewhere roll drop then some .reservedRoll
  else if s.dropOccupied drop then some .locationOccupied
  else if s.dropClaimed drop then some .locationClaimed
  else none

/-- The drop claim a new order takes (R78 step 2). -/
def newDropHold (s : State) (roll : RollId) (drop : Loc) : DropHold :=
  if roll = 0 then .none
  else
    match drop.kind with
    | .place => .held
    | .stand =>
      match drop.stand?.map fun st => (s.stand st).other with
      | some (.butt _) => .pending
      | some _ => .held
      | none => .none
    | _ => .none

/-- An order that has passed its checks is queued, takes its drop claim, is linked to a call, and is considered for
forwarding (R78). -/
def accept (v : VehicleIx) (src : Source) (reply : Byte) (tag : Byte) (pickup drop : Loc) (roll : RollId) (s : State) :
    State :=
  let r : OrderRef := ⟨v, tag⟩
  let hold := s.newDropHold roll drop
  let o : Order :=
    { tag := tag, source := src, reply := reply, pickup := pickup, drop := drop, roll := roll, claim := hold,
      progress := if pickup.kind = .none then .toDrop else .toPickup }
  let s := s.updVehicle v fun x => { x with queue := x.queue ++ [o] }
  let s := if hold = .held then s.setDropClaim drop (some r) else s
  let s := match if roll = 0 then none else drop.stand? with
    | some st => s.linkCall st r roll
    | none => s
  s.forward v

/-- Admission (R76): the checks in order, then acceptance or the REFUSE to the address given. -/
def admitMove (src : Source) (reply : Byte) (m : MoveFields) (s : State) : State :=
  let refuse (r : Reason) (s : State) : State := s.refuseTo reply m.tag m.vehicleAddr r
  match s.refusedEarly src m with
  | .error r => refuse r s
  | .ok v =>
    match m.pickup, m.drop with
    | some pickup, some drop =>
      if !s.locationsOk m.roll pickup drop then refuse .badLocation s
      else
        let s := ((s.readRoll m.roll).readLoc pickup).readLoc drop
        match s.refusedRoll v m.roll pickup drop with
        | some r => refuse r s
        | none =>
          let (leg1, leg2, s) := s.lookupLegs (s.plannedStart v) pickup drop
          match legsReason leg1 leg2 (s.dropBlocked drop) with
          | some r => refuse r s
          | none => s.accept v src reply m.tag pickup drop m.roll
    | _, _ => refuse .badLocation s

/-! ### The choice of a vehicle in AUTONOMOUS (R141, R180) -/

/-- The next tag in turn, 200 to 255. -/
def tagAfter (n : Nat) : Nat := if 255 ≤ n then 200 else n + 1

/-- The next part tag for a vehicle, passing over the tags in use on it (R75). -/
def nextFreeTag (used : List Byte) : Nat → Nat → Nat
  | 0, n => n
  | fuel + 1, n => if used.contains (BitVec.ofNat 8 n) then nextFreeTag used fuel (tagAfter n) else n

/-- Segments of the legs by which a vehicle could serve a call's roll; none when it does not qualify (R141). -/
def servingLegs (v : VehicleIx) (pickup drop : Loc) (s : State) : Option Nat × State :=
  let x := s.vehicle v
  if (s.vehicleEntry? v).isSome && decide (x.status = .idle) && x.causes.none then
    let (leg1, leg2, s) := s.lookupLegs x.endLoc pickup drop
    match leg1.clear?, leg2.clear? with
    | some l1, some l2 => (some (l1.length + l2.length), s)
    | _, _ => (none, s)
  else (none, s)

/-- The qualifying vehicle with the fewest segments, the lowest number among equals (R141). -/
def chooseVehicle (vs : List VehicleIx) (pickup drop : Loc) (s : State) : Option VehicleIx × State :=
  let r := vs.foldl
    (fun (a : Option (Nat × VehicleIx) × State) v =>
      let (n, s) := a.2.servingLegs v pickup drop
      match n, a.1 with
      | some n, some (m, w) => (some (if n < m then (n, v) else (m, w)), s)
      | some n, none => (some (n, v), s)
      | none, b => (b, s)) (none, s)
  (r.1.map Prod.snd, r.2)

/-- A MOVE NEW of source PART for a chosen vehicle (R141, R180). -/
def originate (v : VehicleIx) (pickup drop : Loc) (id : RollId) (s : State) : State :=
  let x := s.vehicle v
  let tag := nextFreeTag ((x.outstanding ++ x.queue).map Order.tag) 56 s.vou.nextTag
  (s.setNextTag (tagAfter tag)).admitMove .part s.sfu.collector ⟨s.vehicleAddr v, BitVec.ofNat 8 tag, some pickup, some drop, id⟩

/-- A call in SELECTED on a roll whose record has been read is tried with a vehicle (R141). -/
def tryRoll (st : StandIx) (id : RollId) (s : State) : State :=
  match (s.roll? id).map Roll.status with
  | some (.reserved p _) =>
    match s.chooseVehicle (List.finRange 16) ⟨.place, p⟩ (standLoc st) with
    | (some v, s) => s.originate v ⟨.place, p⟩ (standLoc st) id
    | (none, s) => s
  | some (.carried (some v)) =>
    match s.chooseVehicle [v] ⟨.none, 0⟩ (standLoc st) with
    | (some v, s) => s.originate v ⟨.none, 0⟩ (standLoc st) id
    | (none, s) => s
  | _ => s

/-- One call in SELECTED is tried; a parity error in its roll's record reopens it (R141, R13). -/
def tryCall (st : StandIx) (s : State) : State :=
  match s.selectedRoll? st with
  | some id =>
    let s := s.readRoll id
    if s.selectedRoll? st = some id then s.tryRoll st id else s
  | none => s

/-- In AUTONOMOUS every call in SELECTED is tried, in list order (R141). A try made while this runs is not nested
(log 13). -/
def tryCalls (s : State) : State :=
  if s.sfu.mode = .autonomous then (s.fdu.calls.map Call.stand).foldl (fun s st => s.tryCall st) s else s

/-! ### Halt causes that empty, and the ending of an order as a whole -/

/-- The hold queue considered, with the FDU told of a vehicle that an undone order has made IDLE (R80, R83 step 5). -/
def forwardAndTell (v : VehicleIx) (s : State) : State := s.forwardLoop tryCalls v (s.vehicle v).queue.length

/-- What follows a return from LOST and the emptying of a halt cause set: the vehicle's waiting list is served, the FDU is
told of the vehicle when it is IDLE, and its hold queue is considered (R66, R89, R91, R141; log 54). -/
def takeUp (v : VehicleIx) (s : State) : State :=
  let s := s.serveWaiting v
  (if (s.vehicle v).status = .idle then s.tryCalls else s).forwardAndTell v

/-- A vehicle whose halt cause set has emptied, after its RELEASE (R91). -/
def resumeVehicle (v : VehicleIx) (s : State) : State :=
  let x := s.vehicle v
  if s.running ∧ x.status ≠ .off ∧ x.status ≠ .lost then s.takeUp v else s

/-- A vehicle's halt cause set has emptied (R91): one RELEASE, then resumption. -/
def causesEmptied (v : VehicleIx) (s : State) : State :=
  let x := s.vehicle v
  if s.running ∧ x.status ≠ .off ∧ x.status ≠ .lost then (s.sendRelease v).resumeVehicle v else s

/-- Step 5 of R83: on becoming IDLE the vehicle loses DEADLOCK and the FDU is told. A LOST vehicle whose last order ends
keeps DEADLOCK, and keeps it when it returns as IDLE (log 55). -/
def settleAndTell (v : VehicleIx) (s : State) : State :=
  let idled := s.fallsIdle v
  let s := s.settle v
  if idled then
    let had := (s.vehicle v).causes.deadlock
    let s := s.updVehicle v fun x => { x with causes := { x.causes with deadlock := false } }
    let s := if had && (s.vehicle v).causes.none then s.causesEmptied v else s
    s.tryCalls
  else s

/-- An outstanding order ends (R83). -/
def endOrder (v : VehicleIx) (o : Order) (e : OrderEnd) (s : State) : State :=
  let s := s.endOutstanding v o e
  let s := if s.linkSelected o then s.tryCalls else s
  (s.settleAndTell v).forwardAndTell v

/-- A queued order ends (R83). -/
def endQueuedOrder (v : VehicleIx) (o : Order) (s : State) : State :=
  let s := s.endQueued v o
  let s := if s.linkSelected o then s.tryCalls else s
  s.forwardAndTell v

end State

end Sys2Proof.Machine
end

