-- ==== Sys2Proof/Machine/Line.lean ====
section
/-! DEFINITION. The gates of the two ports: what every good telegram passes before its owning block acts (R31, R36 to R39,
R42, R51). -/

namespace Sys2Proof.Machine

namespace State

/-- A port's check-error counter rises (R31). -/
def countError (port : Port) (s : State) : State :=
  match port with
  | .upper => { s with ltu := { s.ltu with upperErrors := add16 s.ltu.upperErrors 1 } }
  | .floor => { s with ltu := { s.ltu with floorErrors := add16 s.ltu.floorErrors 1 } }

/-- The number by which LINE-CHECK names a port (R183). -/
def portNumber : Port → Nat
  | .upper => 1
  | .floor => 2

/-- A bad receive is dropped: its port's check-error counter rises and LINE-CHECK names the port (R31). -/
def badReceived (port : Port) (s : State) : State := (s.countError port).raise .lineCheck (portNumber port)

/-- A telegram addressed to the part joins the MGA queue, or is dropped with MGMT-OVERFLOW (R37). -/
def joinMga (t : Telegram) (s : State) : State :=
  if s.mga.queue.length < Config.mgaSlots then { s with mga := { s.mga with queue := s.mga.queue ++ [t] } }
  else s.raise .mgmtOverflow t.src.toNat

/-- The gate of the Upper port (R36, R51): link supervision restarts; a telegram to the part goes to the MGA; in START-UP
every other one is forwarded, a MOVE too (log 56); else the telegram is acted on as given. A body above 60 bytes makes
the receive bad (R31). -/
def upperGate (t : Telegram) (act : State → State) (s : State) : State :=
  if Config.maxBody < t.body.length then s.badReceived .upper
  else
    let s := s.setLinkCount 0
    if t.dst = s.ownAddr then s.joinMga t
    else if s.sfu.mode = .startUp then s.placeNormal t
    else act s

/-- A RUN that reaches the watchers is forwarded after they have acted; they act in NORMAL and AUTONOMOUS (R42). -/
def runGate (t : Telegram) (watch : State → State) (s : State) : State :=
  s.upperGate t fun s => (if s.running then watch s else s).placeNormal t

/-- NODE-MISMATCH names the sender (R38, R40, R42). -/
def mismatch (t : Telegram) (s : State) : State := s.raise .nodeMismatch t.src.toNat

/-- The gate of the Floor port (R38, R39): the owning blocks act in NORMAL and AUTONOMOUS on a well-formed telegram of a
class its sender may send, and the telegram is forwarded last. A body above 60 bytes makes the receive bad (R31). -/
def floorGate (t : Telegram) (act : NodeEntry → State → State) (s : State) : State :=
  if Config.maxBody < t.body.length then s.badReceived .floor
  else if t.dst = s.ownAddr then s.raise .floorMgmt t.src.toNat
  else if s.sfu.mode = .startUp then s.placeUpper t
  else
    match s.node? t.src with
    | none => (s.mismatch t).placeUpper t
    | some e =>
      if !e.kind.allows t.cls || decide (floorLength t.cls ≠ some t.body.length) then (s.mismatch t).placeUpper t
      else if s.sfu.mode = .config then s.placeUpper t
      else (act e s).placeUpper t

/-- A report taken for the vehicle its sender stands for. -/
def forVehicle (f : VehicleIx → State → State) (e : NodeEntry) (s : State) : State :=
  match toIx 16 e.subject with
  | some v => f v s
  | none => s

/-- A report taken for the stand its sender stands for. -/
def forStand (f : StandIx → State → State) (e : NodeEntry) (s : State) : State :=
  match toIx 24 e.subject with
  | some st => f st s
  | none => s

/-- A report taken for the press its sender stands for. -/
def forPress (f : PressIx → State → State) (e : NodeEntry) (s : State) : State :=
  match toIx 4 e.subject with
  | some p => f p s
  | none => s

end State

end Sys2Proof.Machine
end

