-- ==== Sys2Proof/Machine/Requests.lean ====
section
/-! DEFINITION. Management requests: their rows, the form check, and the execution of the oldest queued request with its
one MREPLY (R187 to R190). -/

namespace Sys2Proof.Machine

/-- Result codes of an MREPLY (R187). -/
inductive Result where
  | ok
  | clamped
  | badTable
  | badIndex
  | badValue
  | wrongMode
  | noFit
  | floorBusy
  | duplicate
  | notFound
  | wrongState
  | callOwned
  | notReady
  | badAction
  deriving DecidableEq, Repr

/-- The result's code. -/
def Result.code : Result → Byte
  | .ok => 0x00
  | .clamped => 0x01
  | .badTable => 0x02
  | .badIndex => 0x03
  | .badValue => 0x04
  | .wrongMode => 0x05
  | .noFit => 0x06
  | .floorBusy => 0x07
  | .duplicate => 0x08
  | .notFound => 0x09
  | .wrongState => 0x0A
  | .callOwned => 0x0B
  | .notReady => 0x0C
  | .badAction => 0x0D

/-- What a request is answered: the result, the data, and for MREAD the number of records carried. -/
structure Answer where
  result  : Result
  data    : List Byte := []
  carried : Nat := 0
  deriving DecidableEq, Repr

/-- The management rows of the opcode table. Every request belongs to exactly one. -/
inductive Row where
  | mread
  | mwriteNodes
  | mwriteVehicles
  | mwriteSegments
  | mwriteRoutes
  | mwritePlaces
  | rollAnnounce
  | mwriteStands
  | mwritePlanNext
  | mwriteHall
  | mwriteOther
  | start
  | config
  | restart
  | partition
  | resume
  | planReady
  | planSwap
  | clearFlags
  | setMasks
  | setTime
  | blockPlace
  | unblockPlace
  | blockSegment
  | unblockSegment
  | vehicleOff
  | vehicleOn
  | writeOff
  | clearZone
  | speedForce
  | speedFree
  | takeRun
  | clearStarved
  | mrollNone
  | mrollReserve
  | mrollRelease
  | mrollHold
  | mrollUnhold
  | mrollRemove
  | badAction
  deriving DecidableEq, Repr

/-! ### Request fields -/

/-- The table code of an MREAD or MWRITE, or the action code of an MACT. -/
def reqCode (t : Telegram) : Nat := (u8 t.body 0).toNat

/-- The index of an MREAD or MWRITE. -/
def reqIndex (t : Telegram) : Nat := u16 t.body 1

/-- The count of an MREAD or MWRITE. -/
def reqCount (t : Telegram) : Nat := (u8 t.body 3).toNat

/-- The roll id of an MROLL. -/
def reqRoll (t : Telegram) : RollId := u32 t.body 0

/-- The row of an MWRITE by its table code (R188); an undefined code belongs to MWRITE_OTHER (log 21). -/
def writeRow (code : Nat) : Row :=
  match code with
  | 1 => .mwriteNodes
  | 2 => .mwriteVehicles
  | 3 => .mwriteSegments
  | 4 => .mwriteRoutes
  | 5 => .mwritePlaces
  | 6 => .rollAnnounce
  | 7 => .mwriteStands
  | 10 => .mwritePlanNext
  | 11 => .mwriteHall
  | _ => .mwriteOther

/-- The row of an MACT by its action code and, for BLOCK and UNBLOCK, its kind byte (R190, log 21). -/
def actionRow (code : Nat) (kind : Byte) : Row :=
  match code with
  | 0x01 => .start
  | 0x02 => .config
  | 0x03 => .restart
  | 0x04 => .partition
  | 0x05 => .resume
  | 0x06 => .planReady
  | 0x07 => .planSwap
  | 0x08 => .clearFlags
  | 0x09 => .setMasks
  | 0x0A => .setTime
  | 0x0B => if kind = 2 then .blockSegment else .blockPlace
  | 0x0C => if kind = 2 then .unblockSegment else .unblockPlace
  | 0x0D => .vehicleOff
  | 0x0E => .vehicleOn
  | 0x0F => .writeOff
  | 0x10 => .clearZone
  | 0x11 => .speedForce
  | 0x12 => .speedFree
  | 0x13 => .takeRun
  | 0x14 => .clearStarved
  | _ => .badAction

/-- The row of an MROLL by its action; an undefined one belongs to MROLL_NONE (log 21). -/
def rollRow (action : Byte) : Row :=
  match action.toNat with
  | 1 => .mrollReserve
  | 2 => .mrollRelease
  | 3 => .mrollHold
  | 4 => .mrollUnhold
  | 5 => .mrollRemove
  | _ => .mrollNone

/-- The row a request belongs to. -/
def rowOf (t : Telegram) : Row :=
  if t.cls = clsMread then .mread
  else if t.cls = clsMwrite then writeRow (reqCode t)
  else if t.cls = clsMact then actionRow (reqCode t) (u8 t.body 1)
  else if t.cls = clsMroll then rollRow (u8 t.body 5)
  else .badAction

/-! ### The form check (R187) -/

/-- The bytes of one MWRITE record of a table at an index (R188, R168, R153); none for an undefined table code. An index
past the press parts or run entries counts as the second kind (log 23). -/
def recordSize (code index : Nat) : Option Nat :=
  match code with
  | 1 => some 4
  | 2 => some 5
  | 3 => some 23
  | 4 => some 40
  | 5 => some 9
  | 6 => some 34
  | 7 => some 31
  | 8 => some 24
  | 9 => some (if index ≤ 4 then 18 else 10)
  | 10 => some (if index ≤ 4 then 18 else 10)
  | 11 => some 4
  | 12 => some 13
  | 13 => some (if index ≤ 4 then 43 else 36)
  | 14 => some 15
  | _ => none

/-- The bytes of the records an MWRITE names. -/
def recordsSize (code index count : Nat) : Nat :=
  ((List.range count).map fun i => (recordSize code (index + i)).getD 0).sum

/-- The argument bytes of an action (R190); none for an undefined code. -/
def argumentSize (code : Nat) : Option Nat :=
  match code with
  | 0x01 | 0x02 | 0x03 | 0x05 | 0x13 => some 0
  | 0x04 => some 6
  | 0x06 | 0x07 | 0x0D | 0x0E | 0x0F | 0x10 | 0x12 => some 1
  | 0x08 => some 5
  | 0x09 | 0x0A | 0x14 => some 4
  | 0x0B | 0x0C | 0x11 => some 3
  | _ => none

/-- The form check: the first failure, or none when the request passes (R187). An empty body has code 00, which no table and no
action has (log 62). -/
def formCheck (t : Telegram) : Option Result :=
  let len := t.body.length
  if t.cls = clsMread then
    if (recordSize (reqCode t) 0).isNone then some .badTable
    else if len ≠ 4 then some .badValue
    else if reqCount t = 0 then some .badIndex
    else none
  else if t.cls = clsMwrite then
    if (recordSize (reqCode t) 0).isNone then some .badTable
    else if len ≠ 4 + recordsSize (reqCode t) (reqIndex t) (reqCount t) then some .badValue
    else if reqCount t = 0 then some .badIndex
    else none
  else if t.cls = clsMact then
    match argumentSize (reqCode t) with
    | some n => if len ≠ 1 + n then some .badValue else none
    | none => some .badAction
  else if t.cls = clsMroll then
    if len ≠ 6 then some .badValue else none
  else some .badAction

/-- An index and count that lie within 1 to the greatest index. -/
def rangeOk (index count greatest : Nat) : Bool := 1 ≤ index ∧ index + count ≤ greatest + 1

/-! ### The execution of a request -/

/-- The first four body bytes of the reply's echo; for MREAD the last is the number of records carried (R187). -/
def echo (t : Telegram) (carried : Nat) : List Byte :=
  [u8 t.body 0, u8 t.body 1, u8 t.body 2, if t.cls = clsMread then BitVec.ofNat 8 carried else u8 t.body 3]

namespace State

/-- The MREPLY of a request joins the Upper queue (R187, R48). None is made to address 0 (log 28). -/
def reply (t : Telegram) (a : Answer) (s : State) : State :=
  if t.src = 0 then s
  else s.placeAnswer ⟨t.src, s.ownAddr, clsMreply, [t.cls, a.result.code] ++ echo t a.carried ++ a.data⟩

/-- The requests that are left when the oldest has been taken. -/
def popped (rest : List Telegram) (s : State) : State := { s with mga := { s.mga with queue := rest } }

/-- The oldest request, when it is of the row, leaves the queue and is executed: NOT-READY in START-UP, the first failure
of the form check, or the owning rule's answer, whose reply the execution places. A row whose request is not the oldest
does not arise, and the state stays (log 2). -/
def takeRequest (row : Row) (run : Telegram → State → State) (s : State) : State :=
  match s.mga.queue with
  | [] => s
  | t :: rest =>
    if rowOf t = row then
      let s := s.popped rest
      if s.sfu.mode = .startUp then s.reply t { result := .notReady }
      else
        match formCheck t with
        | some r => s.reply t { result := r }
        | none => run t s
    else s

/-- A request whose execution ends with its reply. -/
def serveRequest (row : Row) (run : Telegram → State → Answer × State) (s : State) : State :=
  s.takeRequest row fun t s =>
    let r := run t s
    r.2.reply t r.1

/-- Executed with a result and no data. -/
def answered (r : Result) (s : State) : Answer × State := ({ result := r }, s)

end State

end Sys2Proof.Machine
end

