-- ==== Sys2Proof/Machine/Vehicles.lean ====
section
/-! DEFINITION. The Vehicle Order Unit's commands: MOVE, VPOS, VDONE, supervision, and the management of vehicles, segments'
marks and zones (R54, R69, R74, R84 to R95). -/

namespace Sys2Proof.Machine

namespace State

/-- A real roll in a vehicle's load loses its carrier and gains LOST-TRACK (R12, R16). -/
def loseCarrier (id : RollId) (s : State) : State :=
  (s.updRoll id fun r => { r with status := .carried none }).addHold id .lostTrack

/-- What becomes of a vehicle's load when it is replaced or emptied: a real roll other than the one given loses its
carrier. -/
def shedLoad (v : VehicleIx) (kept : Option RollId) (s : State) : State :=
  match (s.vehicle v).load with
  | .roll z => if kept = some z then s else s.loseCarrier z
  | _ => s

def setLoad (v : VehicleIx) (l : Load) (s : State) : State := s.updVehicle v fun x => { x with load := l }

/-! ### MOVE (R40, R76, R85) -/

/-- The fields of a well-formed MOVE NEW. -/
def moveFields (body : List Byte) : MoveFields :=
  ⟨u8 body 2, u8 body 1, locAt body 3, locAt body 6, u32 body 9⟩

/-- An ill-formed MOVE is answered with BAD-FORMAT (R40). -/
def moveIllFormed (t : Telegram) (s : State) : State :=
  (s.refuseTo t.src (u8 t.body 1) (u8 t.body 2) .badFormat).mismatch t

/-- A well-formed CANCEL (R85): the checks in order, then the queued order ends or the CANCEL is passed on. -/
def cancelOrder (t : Telegram) (s : State) : State :=
  let tag := u8 t.body 1
  let addr := u8 t.body 2
  let refuse (r : Reason) : State := s.refuseTo t.src tag addr r
  if !s.running then refuse .notRunning
  else if s.sfu.mode = .autonomous then refuse .autonomous
  else
    match s.vehicleAt? addr with
    | none => refuse .unknownVehicle
    | some v =>
      if tag = 0 then refuse .badTag
      else
        match (s.vehicle v).queue.find? fun o => o.tag = tag with
        | some o => (s.endQueuedOrder v o).vdoneOnBehalf v o
        | none =>
          if (s.vehicle v).outstanding.any fun o => o.tag = tag then
            if s.normalRoom then s.placeNormal t
            else (s.raise .queueOverflow 2).refuseTo t.src tag addr .queueFull
          else refuse .notFound

/-- A well-formed MOVE whose kind byte is neither NEW nor CANCEL: the mode refuses it as it refuses every MOVE (R96, R178,
R191), and in NORMAL it is refused with BAD-FORMAT (log 9). -/
def refuseKind (t : Telegram) (s : State) : State :=
  s.refuseTo t.src (u8 t.body 1) (u8 t.body 2)
    (if !s.running then .notRunning else if s.sfu.mode = .autonomous then .autonomous else .badFormat)

/-- An upper MOVE that reaches the VOU (R40): form, then NEW or CANCEL; another kind is refused. -/
def moveTaken (t : Telegram) (s : State) : State :=
  if t.body.length ≠ moveLength ∨ t.dst ≠ u8 t.body 2 then s.moveIllFormed t
  else
    match (u8 t.body 0).toNat with
    | 1 => s.admitMove .upper t.src (moveFields t.body)
    | 2 => s.cancelOrder t
    | _ => s.refuseKind t

/-! ### VPOS (R88 to R90) -/

/-- A LOST vehicle takes its state before loss; its retry count stops, reading 0 (log 38), and its supervision starts again
(R89, R90). -/
def regain (v : VehicleIx) (s : State) : State :=
  s.updVehicle v fun x =>
    { x with
      status := match x.beforeLoss with
        | .idle => .idle
        | .busy => .busy
      retryCount := 0
      supCount := 0 }

/-- Vehicles whose halt cause set has emptied are resumed, one after the other (log 43). -/
def resumeAll (vs : List VehicleIx) (s : State) : State := vs.foldl (fun s v => s.resumeVehicle v) s

/-- A LOST vehicle returns (R89). -/
def vehicleReturns (v : VehicleIx) (s : State) : State :=
  let (s, emptied) := (s.regain v).leaveLostSets v
  let s := s.resumeAll (emptied.filter (· ≠ v))
  (if (s.vehicle v).causes.none && !emptied.contains v then s.sendRelease v else s).takeUp v

/-- A vehicle is found intruding on segment c (R90). One that was LOST has returned: its waiting list and hold queue are
considered, and the FDU is told of it when it is IDLE (R66, R80, R141). -/
def vehicleIntrudes (v : VehicleIx) (c : Nat) (s : State) : State :=
  let wasLost : Bool := (s.vehicle v).status = .lost
  let s := if wasLost then s.regain v else s
  let s := s.raise .intrusion (num v)
  let (s, emptied) := match s.zoneOf? c with
    | some z => (s.updVehicle v fun x => { x with intrusionZones := setWith x.intrusionZones z.val }).zoneIntruded v z
    | none => (s, [])
  let s :=
    if (s.vehicle v).causes.intrusion then s
    else (s.updVehicle v fun x => { x with causes := { x.causes with intrusion := true } }).sendHold v
  let s := s.resumeAll (emptied.filter (· ≠ v))
  if wasLost then s.takeUp v else s

/-- The finding is an intrusion (R88 step 3). -/
def isIntrusion (f : Finding) (c recorded : Nat) : Bool :=
  match f with
  | .notHeld => true
  | .noneHeld => c ≠ recorded ∧ recorded ≠ 0
  | _ => false

/-- A VPOS taken from vehicle v (R88, R60). -/
def vposTaken (segment motion : Byte) (load : RollId) (req : Byte) (v : VehicleIx) (s : State) : State :=
  let c := segment.toNat
  let x := s.vehicle v
  let s := s.updVehicle v fun x => { x with motion := motion, repLoad := load, lastReport := s.clock }
  if x.status = .off then
    if s.configured c then s.updVehicle v fun x => { x with currentSeg := c } else s
  else
    let (f, s) := (s.updVehicle v fun x => { x with supCount := 0 }).takeCurrent v c
    if f = .noPosition then
      if req = 0 then s else s.request v req.toNat
    else
      let s :=
        if isIntrusion f c x.currentSeg then s.vehicleIntrudes v c
        else if x.status = .lost then s.vehicleReturns v
        else s
      let s := s.updVehicle v fun x => { x with currentSeg := c }
      if req = 0 then s else s.request v req.toNat

/-! ### VDONE (R84) -/

/-- The ending a VDONE's outcome code names. -/
def orderEnd? (code : Byte) : Option OrderEnd :=
  match code.toNat with
  | 1 => some .done
  | 2 => some .failed
  | 3 => some .failed
  | 4 => some .cancelled
  | _ => none

/-- A VDONE taken from vehicle v (R84). -/
def vdoneTaken (tag outcome : Byte) (v : VehicleIx) (s : State) : State :=
  match (s.vehicle v).outstanding.find? (fun o => o.tag = tag), orderEnd? outcome with
  | some o, some e => s.endOrder v o e
  | _, _ => s.raise .strayReport (num v)

/-! ### Supervision (R86, R87) -/

/-- A due event's command: the event is taken off the due list, and acts if its condition still holds (log 7). -/
def onDue (d : Due) (holds : State → Bool) (act : State → State) (s : State) : State :=
  if s.due.contains d then
    let s := s.setDue (s.due.filter (· ≠ d))
    if holds s then act s else s
  else s

/-- The supervision period of a vehicle has expired (R86). -/
def supervisionOver (v : VehicleIx) (s : State) : Bool :=
  let x := s.vehicle v
  s.running && (x.status = .idle ∨ x.status = .busy) &&
    match s.vehicleEntry? v with
    | some e => decide (e.period ≤ x.supCount)
    | none => false

/-- The vehicle becomes LOST (R87). -/
def loseVehicle (v : VehicleIx) (s : State) : State :=
  let s := s.updVehicle v fun x =>
    { x with
      beforeLoss := if x.status = .busy then .busy else .idle
      status := .lost
      retryCount := 0
      retryLimit := s.vou.retryInterval }
  ((s.raise .vehicleLost (num v)).sendHoldLost v).zoneLost v

/-- A LOST vehicle's retry count has reached its interval (R87). -/
def retryOver (v : VehicleIx) (s : State) : Bool :=
  let x := s.vehicle v
  s.running && (x.status = .lost) && decide (x.retryLimit ≤ x.retryCount)

/-- Another HOLD, and the count from 0 again; a new interval takes effect now (R87). -/
def retryHold (v : VehicleIx) (s : State) : State :=
  (s.sendHoldLost v).updVehicle v fun x => { x with retryCount := 0, retryLimit := s.vou.retryInterval }

/-! ### MWRITE of VEHICLES (R74) -/

/-- One record of an MWRITE of VEHICLES: home location, window, halt causes (R188). -/
structure VehicleWrite where
  vehicle    : VehicleIx
  home       : Option Nat
  window     : Nat
  management : Bool
  deadlock   : Bool
  deriving DecidableEq, Repr

/-- The home number of a location that is a HOME in range. -/
def homeOf? (l : Option Loc) : Option Nat :=
  match l with
  | some l => if l.kind = .home ∧ 1 ≤ l.num ∧ l.num ≤ 16 then some l.num else none
  | none => none

/-- The records of the request. -/
def vehicleWrites (t : Telegram) : List VehicleWrite :=
  (List.range (reqCount t)).filterMap fun i =>
    (toIx 16 (reqIndex t + i)).map fun v =>
      let o := 4 + 5 * i
      ⟨v, homeOf? (locAt t.body o), (u8 t.body (o + 3)).toNat, (u8 t.body (o + 4)).getLsbD 2,
        (u8 t.body (o + 4)).getLsbD 1⟩

/-- One record applied. -/
def applyVehicleWrite (w : VehicleWrite) (s : State) : State :=
  let v := w.vehicle
  let s :=
    if s.sfu.mode = .config then
      s.updVehicle v fun x => { x with home := w.home.getD x.home, window := clampTo 1 3 w.window }
    else s
  let old := (s.vehicle v).causes
  let new : Causes := { old with management := w.management, deadlock := old.deadlock && w.deadlock }
  let s := s.updVehicle v fun x => { x with causes := new }
  let s :=
    if w.management && !old.management && s.running && decide ((s.vehicle v).status ≠ .off) then s.sendHold v else s
  if !old.none && new.none then s.causesEmptied v else s

/-- MWRITE of VEHICLES: the index, then the home locations, then a change outside CONFIG (R74, log 48); the records are then
applied in turn, each with the telegrams and the service that follow its change (log 57). -/
def writeVehicles (t : Telegram) (s : State) : Answer × State :=
  let ws := vehicleWrites t
  if !rangeOk (reqIndex t) (reqCount t) 16 then s.answered .badIndex
  else if ws.any fun w => w.home.isNone then s.answered .badValue
  else if s.sfu.mode ≠ .config ∧
      (ws.any fun w => w.home ≠ some (s.vehicle w.vehicle).home ∨ clampTo 1 3 w.window ≠ (s.vehicle w.vehicle).window) then
    s.answered .wrongMode
  else
    (ws.foldl (fun s w => s.applyVehicleWrite w) s).answered
      (if ws.any fun w => clampTo 1 3 w.window ≠ w.window then .clamped else .ok)

/-! ### VEHICLE-OFF, VEHICLE-ON, WRITE-OFF (R93, R94) -/

/-- An action on the vehicle its argument byte names. -/
def onVehicle (f : VehicleIx → State → Answer × State) (t : Telegram) (s : State) : Answer × State :=
  match toIx 16 (u8 t.body 1).toNat with
  | some v => f v s
  | none => s.answered .badIndex

def turnOff (v : VehicleIx) (s : State) : Answer × State :=
  let x := s.vehicle v
  if x.status = .off then s.answered .ok
  else if x.status = .idle ∧ x.queue = [] then
    (s.updVehicle v fun x => { x with status := .off, supCount := 0 }).answered .ok
  else s.answered .wrongState

def turnOn (v : VehicleIx) (s : State) : Answer × State :=
  let x := s.vehicle v
  if x.status ≠ .off then s.answered .ok
  else if (s.vehicleEntry? v).isNone then s.answered .wrongState
  else
    let s := s.updVehicle v fun x =>
      { x with
        status := .idle
        supCount := 0
        endLoc := if x.currentSeg = 0 then ⟨.home, x.home⟩ else ⟨.segment, x.currentSeg⟩ }
    let s := if x.causes.none then s else s.sendHold v
    (s.tryCalls).answered .ok

/-- The six steps of WRITE-OFF (R94); the FDU's tries come when the vehicle is OFF (log 14). -/
def writeOffVehicle (v : VehicleIx) (s : State) : Answer × State :=
  let s := if (s.vehicle v).status = .off then s else s.sendVehicle v clsHold [holdManagement]
  let s := s.leaveWaiting v
  let s := s.releaseClaims v (s.vehicle v).claims []
  let (s, emptied) := s.leaveLostSets v
  let s := (s.shedLoad v none).setLoad v .empty
  let queued := (s.vehicle v).queue
  let outstanding := (s.vehicle v).outstanding
  let s := queued.foldl
    (fun s o => (s.endQueued v o).refuseTo o.reply o.tag (s.vehicleAddr v) .vehicleOff) s
  let s := outstanding.foldl (fun s o => s.endOutstanding v o .writtenOff) s
  let s := s.updVehicle v fun x =>
    { x with
      causes := {}
      intrusionZones := 0
      supCount := 0
      retryCount := 0
      status := .off }
  let s := s.resumeAll (emptied.filter (· ≠ v))
  let s := if (queued ++ outstanding).any fun o => s.linkSelected o then s.tryCalls else s
  s.answered .ok

/-! ### CLEAR-ZONE (R69, R95) -/

/-- A vehicle whose intrusion zones have emptied loses INTRUSION and, with an outstanding order in NORMAL or AUTONOMOUS, is
re-seated (R95 step 2). -/
def reseat (v : VehicleIx) (s : State) : State :=
  let s := s.updVehicle v fun x => { x with causes := { x.causes with intrusion := false } }
  if s.running && !(s.vehicle v).outstanding.isEmpty then (s.dropClaims v (s.vehicle v).claims []).seat v else s

/-- CLEAR-ZONE accepted (R95). The vehicles are re-seated in number order; those that the lift freed are resumed before the
others (log 43). -/
def clearZone (z : ZoneIx) (s : State) : State :=
  let inside := (List.finRange 16).filter fun v => setHas (s.vehicle v).intrusionZones z.val
  if (s.zone z).intruders = 0 ∧ inside = [] then s
  else
    let s := inside.foldl
      (fun s v => s.updVehicle v fun x => { x with intrusionZones := setWithout x.intrusionZones z.val }) s
    let cleared := inside.filter fun v => (s.vehicle v).intrusionZones = 0 ∧ (s.vehicle v).causes.intrusion
    let s := cleared.foldl (fun s v => s.reseat v) s
    let was := s.zoneHalted z
    let (s, lifted) := (s.updZone z fun x => { x with intruders := 0 }).liftIfClear z was
    let freed := cleared.filter fun v => (s.vehicle v).causes.none ∧ v ∉ lifted
    let s := freed.foldl
      (fun s v =>
        if s.running ∧ (s.vehicle v).status ≠ .off ∧ (s.vehicle v).status ≠ .lost then s.sendRelease v else s) s
    s.resumeAll (lifted ++ freed)

/-! ### BLOCK and UNBLOCK of a segment (R54) -/

def blockSegment (n : Nat) (s : State) : Answer × State :=
  if n = 0 ∨ 255 < n ∨ !s.configured n then s.answered .badIndex
  else (s.updSeg n fun x => { x with blocked := true }).answered .ok

def unblockSegment (n : Nat) (s : State) : Answer × State :=
  if n = 0 ∨ 255 < n ∨ !s.configured n then s.answered .badIndex
  else if !(s.seg n).blocked then s.answered .ok
  else ((s.updSeg n fun x => { x with blocked := false }).serve n).answered .ok

end State

/-! ### The commands -/

/-- MOVE NEW on the Upper port (R36, R40, R76): the body is the kind byte 01 and the bytes given. -/
def execMoveNew (dst src : Byte) (rest : List Byte) (s : State) : Host.Outcome State Fault Refusal :=
  let t : Telegram := ⟨dst, src, clsMove, 1 :: rest⟩
  awake (State.upperGate t (State.moveTaken t)) s

/-- MOVE CANCEL on the Upper port (R36, R40, R85): the body is the kind byte 02 and the bytes given. -/
def execMoveCancel (dst src : Byte) (rest : List Byte) (s : State) : Host.Outcome State Fault Refusal :=
  let t : Telegram := ⟨dst, src, clsMove, 2 :: rest⟩
  awake (State.upperGate t (State.moveTaken t)) s

/-- A VPOS on the Floor port (R38, R60, R88). -/
def execVpos (dst src segment motion : Byte) (load : Word) (request : Byte) (s : State) :
    Host.Outcome State Fault Refusal :=
  awake (State.floorGate ⟨dst, src, clsVpos, vposBody segment motion load request⟩
    (State.forVehicle (State.vposTaken segment motion load request))) s

/-- A VDONE on the Floor port (R38, R84). -/
def execVdone (dst src tag outcome : Byte) (s : State) : Host.Outcome State Fault Refusal :=
  awake (State.floorGate ⟨dst, src, clsVdone, [tag, outcome]⟩ (State.forVehicle (State.vdoneTaken tag outcome))) s

/-- A supervision period expires (R87). -/
def execVehicleLost (v : VehicleIx) (s : State) : Host.Outcome State Fault Refusal :=
  awake (State.onDue (.vehicleLost v) (State.supervisionOver v) (State.loseVehicle v)) s

/-- A LOST vehicle is sent a HOLD again (R87). -/
def execLostRetryHold (v : VehicleIx) (s : State) : Host.Outcome State Fault Refusal :=
  awake (State.onDue (.lostRetry v) (State.retryOver v) (State.retryHold v)) s

/-- MWRITE of VEHICLES (R74). -/
def execMwriteVehicles (s : State) : Host.Outcome State Fault Refusal :=
  awake (State.serveRequest .mwriteVehicles State.writeVehicles) s

/-- VEHICLE-OFF (R93). -/
def execVehicleOff (s : State) : Host.Outcome State Fault Refusal :=
  awake (State.serveRequest .vehicleOff (State.onVehicle State.turnOff)) s

/-- VEHICLE-ON (R93). -/
def execVehicleOn (s : State) : Host.Outcome State Fault Refusal :=
  awake (State.serveRequest .vehicleOn (State.onVehicle State.turnOn)) s

/-- WRITE-OFF (R94). -/
def execWriteOff (s : State) : Host.Outcome State Fault Refusal :=
  awake (State.serveRequest .writeOff (State.onVehicle State.writeOffVehicle)) s

/-- CLEAR-ZONE (R69, R95). -/
def execClearZone (s : State) : Host.Outcome State Fault Refusal :=
  awake (State.serveRequest .clearZone fun t s =>
    match toIx 8 (u8 t.body 1).toNat with
    | some z => (s.clearZone z).answered .ok
    | none => s.answered .badIndex) s

/-- BLOCK of a segment (R54). -/
def execBlockSegment (s : State) : Host.Outcome State Fault Refusal :=
  awake (State.serveRequest .blockSegment fun t s => s.blockSegment (u16 t.body 2)) s

/-- UNBLOCK of a segment (R54). -/
def execUnblockSegment (s : State) : Host.Outcome State Fault Refusal :=
  awake (State.serveRequest .unblockSegment fun t s => s.unblockSegment (u16 t.body 2)) s

end Sys2Proof.Machine
end

