-- ==== Sys2Proof/Machine/Rolls.lean ====
section
/-! DEFINITION. The Roll Table Unit's commands: picks and drops, announcement, roll queries and actions, and the management
of places (R4 to R9, R15 to R22, R25, R81, R105, R106, R160). -/

namespace Sys2Proof.Machine

/-- The roll id that means unknown roll (00 "Roll ids"). -/
def unknownRoll : RollId := 0xFFFFFFFF#32

/-- The lowest key from n up that a table with rising keys does not list. -/
def freeKey {α : Type} : Nat → List (Nat × α) → Nat
  | n, [] => n
  | n, (j, _) :: r => if j < n then freeKey n r else if j = n then freeKey (n + 1) r else n

/-- The two kinds of check a plan makes on a roll on an arm: grade or width differs (R105, R173). -/
def Roll.differs (r : Roll) (p : StandPart) : Bool := r.grade ≠ p.grade ∨ r.width ≠ p.width

/-- A pick of a roll with this status at location l is expected (R16). -/
def expectedAt (l : Loc) : RollStatus → Bool
  | .announced k => l = ⟨.dock, k⟩
  | .stored p => l = ⟨.place, p⟩
  | .reserved p _ => l = ⟨.place, p⟩
  | .butt st => l = standLoc st
  | _ => false

namespace State

/-- The location of a VLOAD, when the part keeps it (R15). A kind byte of no location kind, 07 to FF, names none that the part
keeps (log 9). -/
def keptLoc? (s : State) (kind : Byte) (number : Half) : Option Loc :=
  match LocKind.ofByte kind with
  | some k =>
    let l : Loc := ⟨k, number.toNat⟩
    if (k = .place ∨ k = .stand ∨ k = .dock ∨ k = .waste) ∧ l.inRange s then some l else none
  | none => none

/-! ### The stand arms as rolls come and go (R105, R106) -/

/-- The active roll leaves its arm: the stand's figures for it are cleared (R106). -/
def emptyActive (st : StandIx) (s : State) : State :=
  s.updStand st fun x =>
    { x with
      active := none
      lr := 0
      carry := 0
      lres := 0
      implausible := 0
      deadReckon := false
      late := false
      ts := Config.unbounded
      state := if x.state = .out then .out else .idle }

/-- The other arm becomes NONE; an ARMED stand becomes FEEDING (R106). -/
def emptyOther (st : StandIx) (s : State) : State :=
  s.updStand st fun x => { x with other := .none, state := if x.state = .armed then .feeding else x.state }

/-- A standby roll is recorded on the empty other arm: FEEDING and STARVED stands become ARMED (R105). -/
def armStandby (st : StandIx) (id : RollId) (s : State) : State :=
  s.updStand st fun x =>
    { x with
      other := .standby id
      state := if x.state = .feeding ∨ x.state = .starved then .armed else x.state }

/-- PLAN-MISMATCH for a stand in the lead whose standby differs from its plan (R105). -/
def standbyPlanCheck (st : StandIx) (id : RollId) (s : State) : State :=
  match s.roll? id with
  | some r =>
    if s.inLead st && r.differs (s.activeStand st) then s.raise .planMismatch (num st) else s
  | none => s

/-! ### Clearing a recorded location (R16, R17, R22) -/

/-- The location that names a roll ceases to name it. -/
def clearLocation (status : RollStatus) (s : State) : State :=
  match status with
  | .stored p => s.updPlace p fun x => { x with occupant := none }
  | .reserved p _ => s.updPlace p fun x => { x with occupant := none }
  | .carried (some w) => s.setLoad w .empty
  | .standby st => s.emptyOther st
  | .butt st => s.emptyOther st
  | .running st => s.emptyActive st
  | _ => s

/-- The FDU is told that an arm is empty, and the VOU with it for the other arm (R104, R106). -/
def tellArm (status : RollStatus) (s : State) : State :=
  match status with
  | .butt st => s.armEmptied st
  | .standby st =>
    let s := (s.armEmptied st).starveTest st
    if s.running then s.callTest st else s
  | .running st => s.stateChanged st
  | _ => s

/-- Roll X becomes CARRIED on v: the FDU is told of the pick when it is one, v's previous load is shed and its load becomes
X (R16 steps 2 to 5). -/
def carryOn (v : VehicleIx) (id : RollId) (told : Bool) (s : State) : State :=
  let s := s.updRoll id fun r => { r with status := .carried (some v) }
  let s := if told then s.callPicked id v else s
  (s.shedLoad v (some id)).setLoad v (.roll id)

/-! ### PICK (R16 to R18, R81) -/

/-- The oldest outstanding order that is on its way to pick up at l moves to TO-DROP (R81). -/
def progressPick (v : VehicleIx) (l : Loc) (s : State) : State :=
  match (s.vehicle v).outstanding.find? fun o => o.progress = .toPickup ∧ o.pickup = l with
  | some o => s.updOrder ⟨v, o.tag⟩ fun o => { o with progress := .toDrop }
  | none => s

/-- A PICK of a roll without a record (R18). -/
def pickUnknown (v : VehicleIx) (s : State) : State :=
  ((s.shedLoad v none).setLoad v .unknown).raise .unknownRoll (num v)

/-- A PICK of a known roll that is not CARRIED on v already (R16, R17). -/
def pickKnown (v : VehicleIx) (l : Loc) (id : RollId) (status : RollStatus) (s : State) : State :=
  let s := (s.clearLocation status).carryOn v id true
  let s := if expectedAt l status then s else s.raiseField .rollMisplaced id id
  s.tellArm status

/-- A PICK taken from vehicle v (R15). -/
def pickTaken (kind : Byte) (number : Half) (id : RollId) (v : VehicleIx) (s : State) : State :=
  match s.keptLoc? kind number with
  | none => s.raise .placeConflict (num v)
  | some l =>
    let s := s.readRoll id
    match s.roll? id with
    | none => (s.pickUnknown v).progressPick v l
    | some r =>
      if r.status = .carried (some v) then s else (s.pickKnown v l id r.status).progressPick v l

/-! ### DROP (R9, R19 to R22, R160) -/

/-- The claim on a location ends at a recorded drop by v: consumed, or cancelled with PLACE-CONFLICT (R9, R81). -/
def endDropClaim (v : VehicleIx) (l : Loc) (s : State) : State :=
  match s.dropClaim? l with
  | some r =>
    let s := s.setDropClaim l none
    if r.vehicle = v then s.updOrder r fun o => { o with claim := .consumed }
    else (s.updOrder r fun o => { o with claim := .none }).raise .placeConflict (num r.vehicle)
  | none => s

/-- A roll that v carries leaves its load for a location. -/
def setDown (v : VehicleIx) (id : RollId) (status : RollStatus) (s : State) : State :=
  (s.updRoll id fun r => { r with status := status }).setLoad v .empty

/-- A drop at a place (R19). A call in SELECTED that names the roll reopens before the availability notice (log 49). -/
def dropAtPlace (v : VehicleIx) (p : Nat) (id : RollId) (s : State) : State :=
  if (s.place p).occupant.isSome || (s.place p).blocked then s.raise .placeConflict (num v)
  else
    let s := (s.setDown v id (.stored p)).updPlace p fun x => { x with occupant := some id }
    (((s.endDropClaim v ⟨.place, p⟩).callDropped id).announceAvailable id)

/-- A drop on the other arm of a stand (R20, R105): the stand's call is removed with the search start that follows, and then
another stand's call naming the roll reopens (R143, R144; log 60). -/
def dropAtStand (v : VehicleIx) (st : StandIx) (id : RollId) (s : State) : State :=
  if (s.stand st).other ≠ .none then s.raise .placeConflict (num v)
  else
    let s := ((s.setDown v id (.standby st)).armStandby st id).endDropClaim v (standLoc st)
    ((s.standbyPlanCheck st id).removeCall st).callDropped id

/-- Paper of a roll that has never run is scrapped (R160). -/
def addScrapped (n : Nat) (s : State) : State := { s with scu := { s.scu with scrapped := add32 s.scu.scrapped n } }

/-- The paper of a roll written off at a waste bay is counted once (R160). The record has been read. -/
def countWriteOff (r : Roll) (s : State) : State :=
  if r.hasRun then
    match r.lastPress with
    | some p =>
      match s.run? p with
      | some _ => s.updRun p fun x => { x with butt := add32 x.butt r.lr }
      | none => s.updPress p fun x => { x with unassigned := add32 x.unassigned r.lr }
    | none => s
  else s.addScrapped r.lr

/-- A drop at a waste bay writes the roll off (R21). -/
def dropAtWaste (v : VehicleIx) (id : RollId) (s : State) : State :=
  match s.findRoll id with
  | some (k, r) => (((s.countWriteOff r).freeSlot k).setLoad v .empty).callRollRemoved id
  | none => s

/-- A drop of roll X that is recorded CARRIED on v (R19 to R21). -/
def dropCarried (v : VehicleIx) (l : Loc) (id : RollId) (s : State) : State :=
  match l.kind with
  | .place => s.dropAtPlace v l.num id
  | .stand =>
    match l.stand? with
    | some st => s.dropAtStand v st id
    | none => s
  | .dock => (s.setDown v id (.announced l.num)).callDropped id
  | .waste => s.dropAtWaste v id
  | _ => s

/-- The records are corrected before the drop of a known roll that v was not recorded to carry (R22). Only the end of a
call's reservation is told as a pick (log 29), and an arm that the correction empties is told before the drop is judged
(log 59). -/
def correctForDrop (v : VehicleIx) (id : RollId) (status : RollStatus) (s : State) : State :=
  let wasCalls : Bool := match status with
    | .reserved _ (.call _) => true
    | _ => false
  let s := (s.clearLocation status).carryOn v id wasCalls
  (s.raiseField .rollMisplaced id id).tellArm status

/-- A DROP of a roll without a record (R21). -/
def dropUnknown (v : VehicleIx) (id : RollId) (s : State) : State :=
  let silent : Bool := (id = 0 ∨ id = unknownRoll) ∧ (s.vehicle v).load = .unknown
  let s := (s.shedLoad v none).setLoad v .empty
  if silent then s else s.raise .unknownRoll (num v)

/-- A DROP taken from vehicle v (R15). -/
def dropTaken (kind : Byte) (number : Half) (id : RollId) (v : VehicleIx) (s : State) : State :=
  match s.keptLoc? kind number with
  | none => ((s.shedLoad v none).setLoad v .empty).raise .placeConflict (num v)
  | some l =>
    let s := (s.readRoll id).readLoc l
    match s.roll? id with
    | none => s.dropUnknown v id
    | some r =>
      let s := if r.status = .carried (some v) then s else s.correctForDrop v id r.status
      s.dropCarried v l id

end State

/-! ### The roll record on the line (R188) -/

/-- The state byte of a roll record. -/
def RollStatus.code : RollStatus → Byte
  | .announced _ => 0
  | .stored _ => 1
  | .reserved _ _ => 2
  | .carried _ => 3
  | .standby _ => 4
  | .running _ => 5
  | .butt _ => 6

/-- The location bytes of a roll record; a carrier is kind 07. -/
def RollStatus.locBytes : RollStatus → List Byte
  | .announced k => Loc.bytes ⟨.dock, k⟩
  | .stored p => Loc.bytes ⟨.place, p⟩
  | .reserved p _ => Loc.bytes ⟨.place, p⟩
  | .carried (some v) => 7 :: be16 (num v)
  | .carried none => [0, 0, 0]
  | .standby st => Loc.bytes (standLoc st)
  | .running st => Loc.bytes (standLoc st)
  | .butt st => Loc.bytes (standLoc st)

/-- The owner byte of a roll record. -/
def RollStatus.ownerByte : RollStatus → Byte
  | .reserved _ (.call st) => BitVec.ofNat 8 (num st)
  | .reserved _ .management => 0xFF
  | _ => 0

/-- The hold set byte. -/
def Holds.byte (h : Holds) : Byte :=
  (if h.parity then 1 else 0) ||| (if h.breaks then 2 else 0) ||| (if h.diameter then 4 else 0) |||
    (if h.lostTrack then 8 else 0) ||| (if h.management then 0x10 else 0)

/-- A press number, 0 when absent. -/
def pressNumber (p : Option PressIx) : Nat :=
  match p with
  | some p => num p
  | none => 0

/-- The 34 bytes of a roll record (R188). -/
def Roll.bytes (r : Roll) : List Byte :=
  beWord r.id ++ be8 r.grade ++ be16 r.width ++ be16 r.dann ++ be8 r.core ++ be8 r.caliper ++ be16 r.dcur ++
    be32 r.lr ++ [r.status.code] ++ r.status.locBytes ++ [r.status.ownerByte, r.holds.byte] ++ beMark r.hasRun ++
    be8 (pressNumber r.lastPress) ++ be8 r.breaks ++ be32 r.waste ++ beWord r.announced

/-! ### Announcement (R4) -/

/-- The fields of an announcement, read at its record's offsets 0 to 10 and 18 (R188). -/
structure RollNotice where
  id      : RollId
  grade   : Nat
  width   : Nat
  dann    : Nat
  core    : Nat
  caliper : Nat
  dock    : Option Loc
  deriving DecidableEq, Repr

/-- The record of an announcement request. -/
def rollNotice (body : List Byte) : RollNotice :=
  ⟨u32 body 4, (u8 body 8).toNat, u16 body 9, u16 body 11, (u8 body 13).toNat, (u8 body 14).toNat, locAt body 22⟩

/-- Check 3 of an announcement: the dock number when every field is in its range. -/
def RollNotice.dock? (n : RollNotice) : Option Nat :=
  match n.dock with
  | some l =>
    if 1 ≤ n.grade ∧ n.grade ≤ 63 ∧ 300 ≤ n.width ∧ n.width ≤ 2200 ∧ 400 ≤ n.dann ∧ n.dann ≤ 1500 ∧
        70 ≤ n.core ∧ n.core ≤ 160 ∧ n.core < n.dann ∧ 40 ≤ n.caliper ∧ n.caliper ≤ 150 ∧
        l.kind = .dock ∧ 1 ≤ l.num ∧ l.num ≤ 8 then some l.num else none
  | none => none

/-- The record an announcement writes (R4). -/
def RollNotice.roll (n : RollNotice) (dock : Nat) (clock : Word) : Roll :=
  { id := n.id, grade := n.grade, width := n.width, dann := n.dann, core := n.core, caliper := n.caliper,
    dcur := n.dann, lr := paperLength n.core n.caliper n.dann, status := .announced dock, announced := clock }

namespace State

/-- An announcement (R4). -/
def announceRoll (t : Telegram) (s : State) : Answer × State :=
  let n := rollNotice t.body
  if reqIndex t ≠ 0 ∨ reqCount t ≠ 1 then s.answered .badIndex
  else if n.id = 0 ∨ n.id = unknownRoll then s.answered .badValue
  else if (s.roll? n.id).isSome then s.answered .duplicate
  else
    match n.dock? with
    | none => s.answered .badValue
    | some k =>
      let slot := freeKey 1 s.tmc.rolls
      if s.tmc.sizes.rolls < slot then s.answered .noFit
      else
        (s.setSlot slot (n.roll k s.clock)).answered .ok

/-! ### MROLL (R25) -/

/-- The report of an MROLL: the presence byte and the record the selection asks for (R25, R187). -/
def rollReport (s : State) (selection : Byte) (id : RollId) : List Byte :=
  match s.roll? id with
  | some r =>
    let free : Bool := match r.status with
      | .stored _ => r.holds.none
      | _ => false
    if selection = 1 ∨ selection = 3 ∨ (selection = 2 ∧ free) then 1 :: r.bytes else [0]
  | none => if selection = 3 then [2] else [0]

/-- An MROLL: its checks, the roll id's ahead of the codes' (log 48), its report, and the action on the roll in its slot (R25).
The report shows the record as read; the action sees it as a parity error has left it (log 6). -/
def rollRequest (act : Nat → Roll → State → Result × State) (t : Telegram) (s : State) : Answer × State :=
  let id := reqRoll t
  if id = 0 ∨ id = unknownRoll then ({ result := .badValue, data := [0] }, s)
  else if 3 < (u8 t.body 4).toNat ∨ 5 < (u8 t.body 5).toNat then ({ result := .badAction, data := [0] }, s)
  else
    let data := s.rollReport (u8 t.body 4) id
    let s := s.readRoll id
    match s.findRoll id with
    | some (k, r) =>
      let a := act k r s
      ({ result := a.1, data := data }, a.2)
    | none => ({ result := if u8 t.body 5 = 0 then .ok else .notFound, data := data }, s)

/-- RESERVE (R25). -/
def reserveRoll (k : Nat) (r : Roll) (s : State) : Result × State :=
  match r.status with
  | .stored p =>
    let s := s.readPlace p
    if r.holds.none && !(s.place p).blocked then (.ok, s.setSlot k { r with status := .reserved p .management })
    else (.wrongState, s)
  | .reserved _ .management => (.ok, s)
  | .reserved _ (.call _) => (.callOwned, s)
  | _ => (.wrongState, s)

/-- RELEASE (R25, R11). -/
def releaseRoll (k : Nat) (r : Roll) (s : State) : Result × State :=
  match r.status with
  | .reserved p .management => (.ok, (s.setSlot k { r with status := .stored p }).announceAvailable r.id)
  | .reserved _ (.call _) => (.callOwned, s)
  | _ => (.wrongState, s)

/-- HOLD (R25, R13). -/
def holdRoll (_k : Nat) (r : Roll) (s : State) : Result × State := (.ok, s.addHold r.id .management)

/-- The hold set an UNHOLD leaves: empty, but a CARRIED roll with no carrier keeps LOST-TRACK (R25). -/
def unheld (r : Roll) : Holds := { lostTrack := r.holds.lostTrack && decide (r.status = .carried none) }

/-- UNHOLD (R25). A set that was empty has not become empty, and no notice is sent (log 37). -/
def unholdRoll (k : Nat) (r : Roll) (s : State) : Result × State :=
  let s := s.setSlot k { r with holds := unheld r }
  (.ok, if r.holds.none then s else s.announceAvailable r.id)

/-- REMOVE (R25). -/
def removeRoll (k : Nat) (r : Roll) (s : State) : Result × State :=
  match r.status with
  | .announced _ => (.ok, (s.freeSlot k).callRollRemoved r.id)
  | .stored p => (.ok, (((s.clearLocation (.stored p)).freeSlot k).callRollRemoved r.id))
  | _ => (.wrongState, s)

/-! ### Places (R7, R8) -/

/-- BLOCK of a place (R8). -/
def blockPlace (n : Nat) (s : State) : Answer × State :=
  if n = 0 ∨ s.tmc.sizes.places < n then s.answered .badIndex
  else (s.updPlace n fun x => { x with blocked := true }).answered .ok

/-- UNBLOCK of a place (R8): a STORED roll there with no hold has become available. -/
def unblockPlace (n : Nat) (s : State) : Answer × State :=
  if n = 0 ∨ s.tmc.sizes.places < n then s.answered .badIndex
  else
    let s := s.readPlace n
    if (s.place n).blocked then
      let s := s.updPlace n fun x => { x with blocked := false }
      (match (s.place n).occupant with
       | some id => (s.readRoll id).announceAvailable id
       | none => s).answered .ok
    else s.answered .ok

/-- BLOCK or UNBLOCK of the PLACE row: a kind byte that is neither PLACE nor SEGMENT is refused (R190). -/
def onPlace (f : Nat → State → Answer × State) (t : Telegram) (s : State) : Answer × State :=
  if u8 t.body 1 = 1 then f (u16 t.body 2) s else s.answered .badValue

/-- MWRITE of PLACES: access segment and zone; the mode is checked first, then the index, then the values (R7, log 48). -/
def writePlaces (t : Telegram) (s : State) : Answer × State :=
  let zoneOf (i : Nat) : Nat := (u8 t.body (4 + 9 * i + 1)).toNat
  if s.sfu.mode ≠ .config then s.answered .wrongMode
  else if !rangeOk (reqIndex t) (reqCount t) s.tmc.sizes.places then s.answered .badIndex
  else if (List.range (reqCount t)).any fun i => 8 < zoneOf i then s.answered .badValue
  else
    ((List.range (reqCount t)).foldl
      (fun s i =>
        let p := reqIndex t + i
        s.updPlace p fun x => { x with access := (u8 t.body (4 + 9 * i)).toNat, zone := zoneOf i })
      s).answered .ok

end State

/-! ### The commands -/

/-- A VLOAD PICK on the Floor port (R38, R15). -/
def execVloadPick (dst src kind : Byte) (number : Half) (roll : Word) (s : State) : Host.Outcome State Fault Refusal :=
  awake (State.floorGate ⟨dst, src, clsVload, vloadBody 1 kind number roll⟩
    (State.forVehicle (State.pickTaken kind number roll))) s

/-- A VLOAD DROP on the Floor port (R38, R15). -/
def execVloadDrop (dst src kind : Byte) (number : Half) (roll : Word) (s : State) : Host.Outcome State Fault Refusal :=
  awake (State.floorGate ⟨dst, src, clsVload, vloadBody 2 kind number roll⟩
    (State.forVehicle (State.dropTaken kind number roll))) s

/-- MWRITE of ROLLS (R4). -/
def execRollAnnounce (s : State) : Host.Outcome State Fault Refusal :=
  awake (State.serveRequest .rollAnnounce State.announceRoll) s

/-- MROLL with action NONE, or with an undefined one (R25, log 21). -/
def execMrollNone (s : State) : Host.Outcome State Fault Refusal :=
  awake (State.serveRequest .mrollNone (State.rollRequest fun _ _ s => (.ok, s))) s

/-- MROLL RESERVE (R25). -/
def execMrollReserve (s : State) : Host.Outcome State Fault Refusal :=
  awake (State.serveRequest .mrollReserve (State.rollRequest State.reserveRoll)) s

/-- MROLL RELEASE (R25). -/
def execMrollRelease (s : State) : Host.Outcome State Fault Refusal :=
  awake (State.serveRequest .mrollRelease (State.rollRequest State.releaseRoll)) s

/-- MROLL HOLD (R25). -/
def execMrollHold (s : State) : Host.Outcome State Fault Refusal :=
  awake (State.serveRequest .mrollHold (State.rollRequest State.holdRoll)) s

/-- MROLL UNHOLD (R25). -/
def execMrollUnhold (s : State) : Host.Outcome State Fault Refusal :=
  awake (State.serveRequest .mrollUnhold (State.rollRequest State.unholdRoll)) s

/-- MROLL REMOVE (R25). -/
def execMrollRemove (s : State) : Host.Outcome State Fault Refusal :=
  awake (State.serveRequest .mrollRemove (State.rollRequest State.removeRoll)) s

/-- BLOCK of a place (R8). -/
def execBlockPlace (s : State) : Host.Outcome State Fault Refusal :=
  awake (State.serveRequest .blockPlace (State.onPlace State.blockPlace)) s

/-- UNBLOCK of a place (R8). -/
def execUnblockPlace (s : State) : Host.Outcome State Fault Refusal :=
  awake (State.serveRequest .unblockPlace (State.onPlace State.unblockPlace)) s

/-- MWRITE of PLACES (R7). -/
def execMwritePlaces (s : State) : Host.Outcome State Fault Refusal :=
  awake (State.serveRequest .mwritePlaces State.writePlaces) s

end Sys2Proof.Machine
end

