-- ==== Sys2Proof/Machine/Spoilage.lean ====
section
/-! DEFINITION. The Spoilage Counting Unit: runs, waste classing and charging, windows, breaks and the waste-ratio monitor
(R147 to R162). -/

namespace Sys2Proof.Machine

/-- The class a reason code names; none for UNCLASSED and undefined codes (R154, R155). -/
def reasonClass? (reason : Byte) : Option WasteClass :=
  match reason.toNat with
  | 1 => some .startUp
  | 2 => some .splice
  | 3 => some .brk
  | 4 => some .plateChange
  | 5 => some .other
  | _ => none

/-- A run's waste counter of a class raised (R147, R155). -/
def Run.addWaste (r : Run) (c : WasteClass) (w : Nat) : Run :=
  match c with
  | .startUp => { r with wasteStartUp := add32 r.wasteStartUp w }
  | .splice => { r with wasteSplice := add32 r.wasteSplice w }
  | .brk => { r with wasteBreak := add32 r.wasteBreak w }
  | .plateChange => { r with wastePlate := add32 r.wastePlate w }
  | .other => { r with wasteOther := add32 r.wasteOther w }

/-- The monitor's move at a completed block (R162); the differences are signed, so they are compared as sums. -/
def Monitor.next (m : Monitor) (r warn alarm h : Nat) : Monitor :=
  match m with
  | .ok => if alarm ≤ r then .alarm else if warn ≤ r then .warn else .ok
  | .warn => if alarm ≤ r then .alarm else if r + h < warn then .ok else .warn
  | .alarm => if r + h < warn then .ok else if r + h < alarm then .warn else .alarm

/-- A window run down by a number of copies (R156). -/
def Window.fall (w : Window) (n : Nat) : Window := { w with remaining := w.remaining - n }

/-- A run phase's code (R188). -/
def Phase.code : Phase → Byte
  | .startUp => 0
  | .good => 1
  | .plateChange => 2

/-- A close cause's code (R188). -/
def CloseCause.code : CloseCause → Byte
  | .ended => 0
  | .started => 1

/-- The counters of a run on the line, from the good copies on (R188). -/
def Run.counterBytes (r : Run) : List Byte :=
  be32 r.good ++ be32 r.wasteStartUp ++ be32 r.wasteSplice ++ be32 r.wasteBreak ++ be32 r.wastePlate ++
    be32 r.wasteOther ++ be32 r.butt ++ be16 r.made ++ be16 r.missed ++ be16 r.breaks

/-- The 48 bytes of a closed-run record (R188). -/
def ClosedRun.bytes (c : ClosedRun) : List Byte :=
  be8 (num c.press) ++ be16 c.run.number ++ be8 c.run.edition ++ [c.run.phase.code] ++ beWord c.run.startTick ++
    beWord c.endTick ++ [c.cause.code] ++ c.run.counterBytes

namespace State

/-! ### Runs (R149 to R152) -/

def setClosed (l : List ClosedRun) (s : State) : State := { s with scu := { s.scu with closed := l } }

/-- The closed-run queue takes a record; when it is full the oldest is discarded with RUN-LOST (R152). -/
def pushClosed (c : ClosedRun) (s : State) : State :=
  match s.scu.closed with
  | [] => s.setClosed [c]
  | old :: rest =>
    if Config.closedSlots ≤ rest.length + 1 then
      ((s.setClosed rest).raise .runLost (num old.press)).setClosed (rest ++ [c])
    else s.setClosed (old :: rest ++ [c])

/-- An open run is closed into the queue (R152). -/
def closeRun (p : PressIx) (cause : CloseCause) (s : State) : State :=
  match s.run? p with
  | some r => (s.pushClosed ⟨p, r, s.clock, cause⟩).setRun p none
  | none => s

/-- RUN START (R150). -/
def runStart (p : PressIx) (number edition : Nat) (s : State) : State :=
  let s := s.closeRun p .started
  (s.setRun p (some { number := number, edition := edition, startTick := s.clock })).updPress p
    fun x => { x with blockCopies := 0, blockWaste := 0, monitor := .ok }

/-- RUN GOOD (R151). -/
def runGood (p : PressIx) (s : State) : State :=
  match s.run? p with
  | some r => (s.setRun p (some { r with phase := .good })).updPress p fun x => { x with blockCopies := 0, blockWaste := 0 }
  | none => s

/-- The SCU's part of RUN EDITION (R151). -/
def runEdition (p : PressIx) (edition : Nat) (s : State) : State :=
  s.updRun p fun r => { r with phase := .plateChange, edition := edition }

/-- A RUN is acted on for a press in use; a press byte outside 1 to 4 sets NODE-MISMATCH (R149). -/
def watchRun (src press : Byte) (act : PressIx → State → State) (s : State) : State :=
  match toIx 4 press.toNat with
  | some p => if s.inUse p then act p s else s
  | none => s.raise .nodeMismatch src.toNat

/-! ### Copies (R154 to R157, R161, R162) -/

/-- The class of a waste increment (R155). -/
def wasteClass (s : State) (p : PressIx) (reason : Byte) : WasteClass :=
  match reasonClass? reason with
  | some c => c
  | none =>
    if 0 < (s.press p).brk.remaining then .brk
    else if 0 < (s.press p).splice.remaining then .splice
    else
      match (s.run? p).map Run.phase with
      | some .startUp => .startUp
      | some .plateChange => .plateChange
      | _ => .other

/-- The rolls RUNNING on stands of the press that are in the lead, the stands in number order (log 61). -/
def runningRolls (s : State) (p : PressIx) : List RollId :=
  (s.standsOf p).filterMap fun st => if s.inLead st then (s.stand st).active else none

/-- The rolls a class charges (R157). -/
def chargedRolls (s : State) (p : PressIx) (c : WasteClass) : List RollId :=
  match c with
  | .splice => (s.press p).splice.roll.toList
  | .brk => (s.press p).brk.roll.toList
  | _ => s.runningRolls p

/-- Waste copies added to a roll, stopping at 16,777,215 (R157). -/
def chargeRoll (w : Nat) (id : RollId) (s : State) : State :=
  s.updRoll id fun r => { r with waste := addSat 16777215 r.waste w }

/-- The flag of a monitor state entered (R162). -/
def monitorFlag (p : PressIx) (old new : Monitor) (s : State) : State :=
  if old = new then s
  else
    match new with
    | .ok => s
    | .warn => s.raise .wasteWarn (num p)
    | .alarm => s.raise .wasteAlarm (num p)

/-- A completed block: its ratio, the reset of the block, and the monitor's move (R161, R162). -/
def completeBlock (p : PressIx) (s : State) : State :=
  let x := s.press p
  let plan := s.activePress p
  let r := x.blockWaste * 1000 / x.blockCopies
  let new := x.monitor.next r plan.warn plan.alarm plan.hyst
  (s.updPress p fun x => { x with lastRatio := r, blockCopies := 0, blockWaste := 0, monitor := new }).monitorFlag p
    x.monitor new

/-- A COUNT counted into the block while the run is in phase GOOD and the press in use (R161). -/
def countBlock (p : PressIx) (g w : Nat) (s : State) : State :=
  if (s.run? p).map Run.phase = some .good ∧ s.inUse p then
    let s := s.updPress p fun x => { x with blockCopies := add32 x.blockCopies (g + w), blockWaste := add32 x.blockWaste w }
    if (s.activePress p).block ≤ (s.press p).blockCopies then s.completeBlock p else s
  else s

/-- Waste copies charged to the rolls of their class (R157); none charge nothing, and read no roll (R154). -/
def chargeWaste (p : PressIx) (c : WasteClass) (w : Nat) (s : State) : State :=
  if w = 0 then s else (s.chargedRolls p c).foldl (fun s id => s.chargeRoll w id) s

/-- The SCU's part of a COUNT (R154). -/
def countCopies (p : PressIx) (g w : Nat) (reason : Byte) (s : State) : State :=
  let c := s.wasteClass p reason
  let s := match s.run? p with
    | some r => s.setRun p (some ({ r with good := add32 r.good g }.addWaste c w))
    | none => s.updPress p fun x => { x with idleGood := add32 x.idleGood g, idleWaste := add32 x.idleWaste w }
  let s := s.chargeWaste p c w
  let s := s.updPress p fun x => { x with splice := x.splice.fall (g + w), brk := x.brk.fall (g + w) }
  s.countBlock p g w

/-! ### Splices and breaks (R156, R158, R159) -/

/-- An accepted SPLICE MADE: counted in the open run, and the splice window opened (R156, R158). -/
def countSplice (p : PressIx) (st : StandIx) (new : RollId) (s : State) : State :=
  let n := if s.inUse p then (s.activePress p).spliceLen else 0
  (s.updRun p fun r => { r with made := add16 r.made 1 }).updPress p fun x => { x with splice := ⟨n, some st, some new⟩ }

/-- The break window opened on a roll (R156). -/
def openBreak (p : PressIx) (id : RollId) (s : State) : State :=
  let n := if s.inUse p then (s.activePress p).breakLen else 0
  s.updPress p fun x => { x with brk := ⟨n, none, some id⟩ }

/-- A break counted on a roll, with the BREAKS hold at the plan's limit (R159). -/
def countRollBreak (p : PressIx) (id : RollId) (s : State) : State :=
  let s := s.updRoll id fun r => { r with breaks := addSat 7 r.breaks 1 }
  match s.roll? id with
  | some r =>
    if s.inUse p && decide ((s.activePress p).breakLimit ≤ r.breaks) && !r.holds.breaks then
      (s.addHold id .breaks).raiseField .rollBreakHold id id
    else s
  | none => s

/-- An accepted BREAK (R158). -/
def countBreak (p : PressIx) (id : RollId) (s : State) : State :=
  ((s.updRun p fun r => { r with breaks := add16 r.breaks 1 }).countRollBreak p id).openBreak p id

/-- An accepted SPLICE MISSED (R158). -/
def countMissed (p : PressIx) (id : RollId) (s : State) : State :=
  (s.updRun p fun r => { r with missed := add16 r.missed 1 }).countBreak p id

/-! ### TAKE-RUN (R153) -/

def takeRun (_ : Telegram) (s : State) : Answer × State :=
  match s.scu.closed with
  | c :: rest => ({ result := .ok, data := c.bytes }, s.setClosed rest)
  | [] => s.answered .notFound

end State

/-- TAKE-RUN (R153). -/
def execTakeRun (s : State) : Host.Outcome State Fault Refusal := awake (State.serveRequest .takeRun State.takeRun) s

/-- RUN START on the Upper port (R42, R149, R150). -/
def execRunStart (dst src press : Byte) (run : Half) (edition : Byte) (s : State) : Host.Outcome State Fault Refusal :=
  awake (State.runGate ⟨dst, src, clsRun, runBody press 1 run edition⟩
    (State.watchRun src press fun p s => s.runStart p run.toNat edition.toNat)) s

/-- RUN GOOD on the Upper port (R42, R149, R151). -/
def execRunGood (dst src press : Byte) (run : Half) (edition : Byte) (s : State) : Host.Outcome State Fault Refusal :=
  awake (State.runGate ⟨dst, src, clsRun, runBody press 2 run edition⟩ (State.watchRun src press State.runGood)) s

/-- RUN END on the Upper port (R42, R149, R152). -/
def execRunEnd (dst src press : Byte) (run : Half) (edition : Byte) (s : State) : Host.Outcome State Fault Refusal :=
  awake (State.runGate ⟨dst, src, clsRun, runBody press 4 run edition⟩
    (State.watchRun src press fun p s => s.closeRun p .ended)) s

end Sys2Proof.Machine
end

