-- ==== Sys2Proof/Machine/Stands.lean ====
section
/-! DEFINITION. The Feed Unit's commands about reel stands: STAND, SPLICE and BREAK reports, the writing of the stand table,
and CLEAR-STARVED (R99, R100, R103, R107 to R113, R166). -/

namespace Sys2Proof.Machine

/-- A reported active roll id agrees with the record (R108). -/
def activeAgrees (active : Option RollId) (id : RollId) : Bool :=
  match active with
  | some a => id = a ∨ id = unknownRoll
  | none => id = 0

/-- A reported other-arm roll id agrees with the record (R108). -/
def otherAgrees (other : Arm) (id : RollId) : Bool :=
  match other with
  | .none => id = 0
  | .standby b => id = b ∨ id = unknownRoll
  | .butt b => id = b ∨ id = unknownRoll

/-- A reported diameter brought between the core and the announced diameter (R109). -/
def Roll.clampDiameter (r : Roll) (D : Nat) : Nat := if r.dann < D then r.dann else if D < r.core then r.core else D

namespace State

/-- The state R100 gives a stand from its lead and its arms; a stand that has starved and stays in the lead stays
STARVED. -/
def armsState (s : State) (st : StandIx) : StandState :=
  let x := s.stand st
  if s.inLead st then
    match x.active, x.other with
    | none, _ => .idle
    | some _, .standby _ => .armed
    | some _, _ => if x.state = .starved then .starved else .feeding
  else .out

/-- A report of a stand is acted on when the stand has a press (R107). -/
def actedOn (st : StandIx) (act : PressIx → State → State) (s : State) : State :=
  match (s.stand st).press with
  | some p => act p s
  | none => s.raise .armMismatch (num st)

/-! ### STAND (R108 to R111) -/

/-- An accepted diameter (R109): the roll and the mirror together, then Ts, starvation and the late test (log 18). -/
def acceptDiameter (st : StandIx) (id : RollId) (D lr : Nat) (s : State) : State :=
  let old := (s.stand st).lr
  let s := (s.updRoll id fun r => { r with dcur := D, lr := lr }).updStand st fun x =>
    { x with
      lr := lr
      implausible := 0
      state := if x.state = .starved ∧ 0 < lr then .feeding else x.state }
  let s := (s.computeTs st).starveTest st
  if lr = old then s else s.lateTest st

/-- An implausible diameter (R110). Step 3 sets its flag for a roll that carries DIAMETER already too (log 58). -/
def implausibleDiameter (st : StandIx) (id : RollId) (s : State) : State :=
  let n := addSat 15 (s.stand st).implausible 1
  let s := s.updStand st fun x => { x with implausible := n }
  if s.fdu.implausibleLimit ≤ n then
    ((s.updStand st fun x => { x with deadReckon := true }).addHold id .diameter).raise .diameterImplausible (num st)
  else s

/-- A diameter of the active roll judged (R109). -/
def judgeDiameter (st : StandIx) (id : RollId) (diameter : Nat) (s : State) : State :=
  let s := s.readRoll id
  match s.roll? id with
  | some r =>
    let D := r.clampDiameter diameter
    if r.dcur + s.fdu.tolerance < D then s.implausibleDiameter st id else s.acceptDiameter st id D (r.length D)
  | none => s

/-- A STAND report taken from stand st (R107, R108). -/
def standTaken (diameter : Half) (active other : RollId) (st : StandIx) (s : State) : State :=
  s.actedOn st fun _ s =>
    let s := s.updStand st fun x => { x with lastTick := s.clock }
    let x := s.stand st
    if activeAgrees x.active active && otherAgrees x.other other then
      match x.active with
      | some id => if x.deadReckon then s else s.judgeDiameter st id diameter.toNat
      | none => s
    else s.raise .armMismatch (num st)

/-! ### SPLICE and BREAK (R23, R112, R113) -/

/-- The old and new roll ids of a SPLICE MADE agree with the arms (R112). -/
def spliceAgrees (s : State) (st : StandIx) (old new : RollId) : Bool :=
  decide ((s.stand st).other = .standby new) &&
    match (s.stand st).active with
    | some o => decide (old = o)
    | none => decide (old = 0)

/-- The rolls and arms change together at an accepted SPLICE MADE (R23, R112 steps 1 to 3). -/
def turnArms (p : PressIx) (st : StandIx) (new : RollId) (s : State) : State :=
  let butt : Arm := match (s.stand st).active with
    | some o => .butt o
    | none => .none
  let s := match (s.stand st).active with
    | some o => s.updRoll o fun r => { r with status := .butt st }
    | none => s
  let s := s.updRoll new fun r => { r with status := .running st, hasRun := true, lastPress := some p }
  let lr := match s.roll? new with
    | some r => r.lr
    | none => 0
  let s := s.updStand st fun x =>
    { x with
      active := some new
      other := butt
      lr := lr
      carry := 0
      implausible := 0
      deadReckon := false
      late := false
      state := if x.state = .out then .out else .feeding }
  s.updStand st fun x => { x with lres := s.lresValue st }

/-- An accepted SPLICE MADE (R112); the records of both rolls are read first. -/
def spliceAccepted (p : PressIx) (st : StandIx) (new : RollId) (s : State) : State :=
  let s := (s.readActive st).readRoll new
  let oldRes := (s.stand st).lres
  let s := ((s.turnArms p st new).computeTs st).countSplice p st new
  let s := if (s.stand st).other = .none then s.armEmptied st else s
  let s := s.starveTest st
  let s := if (s.stand st).lres = oldRes then s else s.lateTest st
  if s.activeHeld st then s.heldRunning st else s

/-- A SPLICE MADE taken from stand st (R112). -/
def spliceMadeTaken (old new : RollId) (st : StandIx) (s : State) : State :=
  s.actedOn st fun p s =>
    if s.spliceAgrees st old new then s.spliceAccepted p st new else s.raise .armMismatch (num st)

/-- A SPLICE MISSED taken from stand st (R113). -/
def spliceMissedTaken (old new : RollId) (st : StandIx) (s : State) : State :=
  s.actedOn st fun p s =>
    if (s.stand st).active = some old ∧ (s.stand st).other = .standby new then s.countMissed p old
    else s.raise .armMismatch (num st)

/-- A SPLICE whose outcome byte the layout does not list, taken from stand st: a stand without a press sets ARM-MISMATCH as
with any report (R107); else nothing of it is acted on (log 9). -/
def spliceUnlistedTaken (st : StandIx) (s : State) : State := s.actedOn st fun _ s => s

/-- A BREAK taken from stand st (R113). -/
def breakTaken (roll : RollId) (st : StandIx) (s : State) : State :=
  s.actedOn st fun p s =>
    if (s.stand st).active = some roll then s.countBreak p roll else s.raise .armMismatch (num st)

/-! ### MWRITE of STANDS (R99, R166) and CLEAR-STARVED (R103) -/

/-- The ready mark of a press's NEXT bank cleared. -/
def clearReady (p : Option PressIx) (s : State) : State :=
  match p with
  | some p => s.setReady p false
  | none => s

/-- A stand's press changed in CONFIG: its stand parts go with it, and its state follows R100 (R166, log 27). -/
def moveStand (st : StandIx) (p : Option PressIx) (s : State) : State :=
  let old := (s.stand st).press
  if old = p then s
  else
    let s := ((s.updStand st fun x => { x with press := p }).clearReady old).clearReady p
    let new := s.armsState st
    s.updStand st fun x =>
      { x with
        state := new
        lres := if new = .out then 0 else x.lres
        ts := if new = .out ∨ new = .idle then Config.unbounded else x.ts }

/-- The stands and press numbers of an MWRITE of STANDS. -/
def standWrites (t : Telegram) : List (StandIx × Nat) :=
  (List.range (reqCount t)).filterMap fun i => (toIx 24 (reqIndex t + i)).map fun st => (st, (u8 t.body (4 + 31 * i)).toNat)

/-- MWRITE of STANDS; the values are checked before the mode (R99, log 48). -/
def writeStands (t : Telegram) (s : State) : Answer × State :=
  let ws := standWrites t
  if !rangeOk (reqIndex t) (reqCount t) 24 then s.answered .badIndex
  else if ws.any fun w => 4 < w.2 then s.answered .badValue
  else if s.sfu.mode = .config then (ws.foldl (fun s w => s.moveStand w.1 (toIx 4 w.2)) s).answered .ok
  else if ws.any fun w => (s.stand w.1).press ≠ toIx 4 w.2 then s.answered .wrongMode
  else s.answered .ok

/-- CLEAR-STARVED (R103). -/
def clearStarved (t : Telegram) (s : State) : Answer × State :=
  let m := u32 t.body 1
  if m &&& 0xFF000000#32 ≠ 0 then s.answered .badValue
  else (s.setStarved (s.fdu.starved &&& ~~~m)).answered .ok

end State

/-! ### The commands -/

/-- A STAND report on the Floor port (R38, R107). -/
def execStandReport (dst src : Byte) (diameter : Half) (active other : Word) (s : State) :
    Host.Outcome State Fault Refusal :=
  awake (State.floorGate ⟨dst, src, clsStand, standBody diameter active other⟩
    (State.forStand (State.standTaken diameter active other))) s

/-- A SPLICE MADE on the Floor port (R38, R112). -/
def execSpliceMade (dst src : Byte) (old new : Word) (s : State) : Host.Outcome State Fault Refusal :=
  awake (State.floorGate ⟨dst, src, clsSplice, spliceBody 1 old new⟩ (State.forStand (State.spliceMadeTaken old new))) s

/-- A SPLICE MISSED on the Floor port (R38, R113). -/
def execSpliceMissed (dst src : Byte) (old new : Word) (s : State) : Host.Outcome State Fault Refusal :=
  awake (State.floorGate ⟨dst, src, clsSplice, spliceBody 2 old new⟩ (State.forStand (State.spliceMissedTaken old new))) s

/-- A BREAK on the Floor port (R38, R113). -/
def execWebBreak (dst src : Byte) (roll : Word) (s : State) : Host.Outcome State Fault Refusal :=
  awake (State.floorGate ⟨dst, src, clsBreak, beWord roll⟩ (State.forStand (State.breakTaken roll))) s

/-- MWRITE of STANDS (R99). -/
def execMwriteStands (s : State) : Host.Outcome State Fault Refusal :=
  awake (State.serveRequest .mwriteStands State.writeStands) s

/-- CLEAR-STARVED (R103). -/
def execClearStarved (s : State) : Host.Outcome State Fault Refusal :=
  awake (State.serveRequest .clearStarved State.clearStarved) s

end Sys2Proof.Machine
end

