-- ==== Sys2Proof/Machine/Speed.lean ====
section
/-! DEFINITION. The press speed records: samples, the slew limiter, the source states, forced speed, and the COUNT that the
SCU and the FDU share (R116 to R126). -/

namespace Sys2Proof.Machine

/-- The greatest change one sample makes (R120). -/
def slewStep (S age : Nat) : Nat := max 1 (S * age / 10)

/-- The estimate moved toward a sample by at most the step (R120). -/
def slewed (E sample step : Nat) : Nat :=
  if E ≤ sample then (if sample - E ≤ step then sample else E + step)
  else if E - sample ≤ step then sample
  else E - step

/-- The sample lies further off than the step (R120). -/
def clipped (E sample step : Nat) : Bool := decide (step < sample - E) || decide (step < E - sample)

/-- The secondary sample of an increment over a number of ticks (R119). -/
def secondarySample (inc cutoff ticks : Nat) : Nat := min Config.maxSpeed (inc * cutoff * 3 / (5 * ticks))

/-- The source state holds an estimate that no source moves and that a report ends (R123). -/
def SpeedSource.held : SpeedSource → Bool
  | .hold => true
  | .nominal => true
  | _ => false

namespace State

/-- A changed estimate is handed to the stands of the press: each in turn takes its time to splice and its starvation test
(R121, log 19). -/
def handOver (p : PressIx) (old : Nat) (s : State) : State :=
  if (s.speed p).estimate = old then s else (s.standsOf p).foldl (fun s st => (s.computeTs st).starveTest st) s

/-- A sample applied through the slew limiter (R120). -/
def applySample (p : PressIx) (sample : Nat) (s : State) : State :=
  let x := s.speed p
  let step := slewStep (s.speedSettings p).slew x.age
  (s.updSpeed p fun x =>
    { x with estimate := slewed x.estimate sample step, limiting := clipped x.estimate sample step, age := 0 }).handOver p
    x.estimate

def setSource (p : PressIx) (src : SpeedSource) (s : State) : State := s.updSpeed p fun x => { x with source := src }

/-- The estimate set directly, without slew (R123, R125). -/
def setEstimate (p : PressIx) (src : SpeedSource) (v : Nat) (s : State) : State :=
  s.updSpeed p fun x => { x with source := src, estimate := v, age := 0, limiting := false }

/-- Entry into HOLD, with the count interval closed: a SPEED-FREE may find it open behind a silent folder (R123). -/
def enterHold (p : PressIx) (s : State) : State :=
  (s.updSpeed p fun x => { x with source := .hold, holdover := 0, interval := none }).raise .speedHoldover (num p)

/-! ### DRIVE and COUNT (R118, R119) -/

/-- A DRIVE taken for press p (R118). -/
def driveTaken (speed : Nat) (p : PressIx) (s : State) : State :=
  let s := s.updSpeed p fun x => { x with lastDrive := s.clock, driveSilence := 0 }
  let sample := min Config.maxSpeed speed
  match (s.speed p).source with
  | .forced => s
  | _ => (s.setSource p .trackPrimary).applySample p sample

/-- The secondary sample of a COUNT, when it gives one (R119). -/
def sampleOf? (s : State) (p : PressIx) (inc : Nat) : Option Nat :=
  match (s.speed p).interval with
  | none => none
  | some 0 => none
  | some (k + 1) =>
    if s.inUse p then some (secondarySample (inc + (s.speed p).pendingInc) (s.activePress p).cutoff (k + 1)) else none

/-- The count interval and the pending increment after a COUNT (R119). -/
def takeInterval (p : PressIx) (inc : Nat) (s : State) : State :=
  s.updSpeed p fun x =>
    { x with
      interval := some 0
      pendingInc := if x.interval = some 0 then addSat 16777215 x.pendingInc inc else 0 }

/-- The FDU's part of a COUNT (R119). -/
def countSpeed (p : PressIx) (inc : Nat) (s : State) : State :=
  let s := s.updSpeed p fun x => { x with lastCount := s.clock, countSilence := 0 }
  let sample := s.sampleOf? p inc
  let s := s.takeInterval p inc
  let s := if (s.speed p).source.held then s.setSource p .trackSecondary else s
  match (s.speed p).source, sample with
  | .trackSecondary, some v => s.applySample p v
  | _, _ => s

/-- A COUNT taken for press p: the SCU, then the FDU (R119, R154, log 20). -/
def countTaken (good waste : Nat) (reason : Byte) (p : PressIx) (s : State) : State :=
  (s.countCopies p good waste reason).countSpeed p (good + waste)

/-! ### Silence and holdover (R122, R123, R126) -/

/-- The drive of a press in use is silent while it is the source (R122). -/
def driveSilence (p : PressIx) (s : State) : Bool :=
  s.running && s.inUse p && decide ((s.speed p).source = .trackPrimary) &&
    decide ((s.speedSettings p).silence ≤ (s.speed p).driveSilence)

/-- The drive has fallen silent (R122). -/
def driveFallsSilent (p : PressIx) (s : State) : State :=
  if (s.speed p).interval.isSome then s.setSource p .trackSecondary else s.enterHold p

/-- The folder of a press in use is silent, and its silence is not yet taken (R122); in FORCED it changes nothing (R125). -/
def countSilence (p : PressIx) (s : State) : Bool :=
  s.running && s.inUse p && decide ((s.speed p).source ≠ .forced) &&
    ((s.speed p).interval.isSome || decide ((s.speed p).source = .trackSecondary)) &&
    decide ((s.speedSettings p).silence ≤ (s.speed p).countSilence)

/-- The folder has fallen silent: the interval closes, and TRACK-SECONDARY becomes HOLD (R122). -/
def countFallsSilent (p : PressIx) (s : State) : State :=
  let s := s.updSpeed p fun x => { x with interval := none }
  if (s.speed p).source = .trackSecondary then s.enterHold p else s

/-- The holdover limit of a press in use is reached (R123). -/
def holdoverOver (p : PressIx) (s : State) : Bool :=
  s.running && s.inUse p && decide ((s.speed p).source = .hold) &&
    decide (10 * (s.speedSettings p).holdover ≤ (s.speed p).holdover)

/-- HOLD becomes NOMINAL (R123). -/
def holdoverLimit (p : PressIx) (s : State) : State :=
  let old := (s.speed p).estimate
  ((s.setEstimate p .nominal (s.activePress p).nominal).raise .speedNominal (num p)).handOver p old

/-! ### SPEED-FORCE and SPEED-FREE (R125) -/

/-- An action on the press its argument byte names. -/
def onPress (f : PressIx → State → Answer × State) (t : Telegram) (s : State) : Answer × State :=
  match toIx 4 (u8 t.body 1).toNat with
  | some p => f p s
  | none => s.answered .badIndex

def forceSpeed (value : Nat) (p : PressIx) (s : State) : Answer × State :=
  let old := (s.speed p).estimate
  ((s.setEstimate p .forced (min Config.maxSpeed value)).handOver p old).answered
    (if Config.maxSpeed < value then .clamped else .ok)

def freeSpeed (p : PressIx) (s : State) : Answer × State :=
  let x := s.speed p
  let q := (s.speedSettings p).silence
  if x.source = .forced then
    (if x.driveSilence < q ∨ x.countSilence < q then s.setSource p .trackPrimary else s.enterHold p).answered .ok
  else s.answered .ok

end State

/-! ### The commands -/

/-- A DRIVE on the Floor port (R38, R118); its press byte is not read. -/
def execDrive (dst src press : Byte) (speed : Half) (s : State) : Host.Outcome State Fault Refusal :=
  awake (State.floorGate ⟨dst, src, clsDrive, driveBody press speed⟩ (State.forPress (State.driveTaken speed.toNat))) s

/-- A COUNT on the Floor port (R38, R119, R154); its press byte is not read. -/
def execCount (dst src press : Byte) (good waste : Half) (reason : Byte) (s : State) : Host.Outcome State Fault Refusal :=
  awake (State.floorGate ⟨dst, src, clsCount, countBody press good waste reason⟩
    (State.forPress (State.countTaken good.toNat waste.toNat reason))) s

/-- A press drive falls silent (R122). -/
def execDriveSilent (p : PressIx) (s : State) : Host.Outcome State Fault Refusal :=
  awake (State.onDue (.driveSilent p) (State.driveSilence p) (State.driveFallsSilent p)) s

/-- A folder falls silent (R122). -/
def execCountSilent (p : PressIx) (s : State) : Host.Outcome State Fault Refusal :=
  awake (State.onDue (.countSilent p) (State.countSilence p) (State.countFallsSilent p)) s

/-- The holdover limit is reached (R123). -/
def execHoldoverLimit (p : PressIx) (s : State) : Host.Outcome State Fault Refusal :=
  awake (State.onDue (.holdover p) (State.holdoverOver p) (State.holdoverLimit p)) s

/-- SPEED-FORCE (R125). -/
def execSpeedForce (s : State) : Host.Outcome State Fault Refusal :=
  awake (State.serveRequest .speedForce fun t s => State.onPress (State.forceSpeed (u16 t.body 2)) t s) s

/-- SPEED-FREE (R125). -/
def execSpeedFree (s : State) : Host.Outcome State Fault Refusal :=
  awake (State.serveRequest .speedFree (State.onPress State.freeSpeed)) s

end Sys2Proof.Machine
end

