-- ==== Sys2Proof/Machine/Plans.lean ====
section
/-! DEFINITION. The Plan Store: writing and validating the NEXT banks, and the swap with what it does to stands and calls
(R165 to R174). -/

namespace Sys2Proof.Machine

/-- A press part as an MWRITE carries it, at an offset of the body (R168, R188). -/
def pressPartAt (l : List Byte) (o : Nat) : PressPart :=
  { inUse := u8 l o ≠ 0, cutoff := u16 l (o + 1), nominal := u16 l (o + 3), block := u16 l (o + 5), warn := u16 l (o + 7),
    alarm := u16 l (o + 9), hyst := u16 l (o + 11), spliceLen := u16 l (o + 13), breakLen := u16 l (o + 15),
    breakLimit := (u8 l (o + 17)).toNat }

/-- A stand part as an MWRITE carries it (R168, R188). -/
def standPartAt (l : List Byte) (o : Nat) : StandPart :=
  { lead := u8 l o ≠ 0, grade := (u8 l (o + 1)).toNat, width := u16 l (o + 2), minLength := u16 l (o + 4),
    splice := u16 l (o + 6), callLead := u16 l (o + 8) }

/-- The bytes of a press part (R188). -/
def PressPart.bytes (x : PressPart) : List Byte :=
  beMark x.inUse ++ be16 x.cutoff ++ be16 x.nominal ++ be16 x.block ++ be16 x.warn ++ be16 x.alarm ++ be16 x.hyst ++
    be16 x.spliceLen ++ be16 x.breakLen ++ be8 x.breakLimit

/-- The bytes of a stand part (R188). -/
def StandPart.bytes (x : StandPart) : List Byte :=
  beMark x.lead ++ be8 x.grade ++ be16 x.width ++ be16 x.minLength ++ be16 x.splice ++ be16 x.callLead

/-- The clamped fields of a press part brought into their ranges (R165). -/
def PressPart.clamp (x : PressPart) : PressPart :=
  { x with
    cutoff := clampTo 400 700 x.cutoff
    nominal := clampTo 0 1500 x.nominal
    block := clampTo 1000 65535 x.block
    warn := clampTo 0 1000 x.warn
    alarm := clampTo 0 1000 x.alarm
    hyst := clampTo 0 1000 x.hyst
    spliceLen := clampTo 0 5000 x.spliceLen
    breakLen := clampTo 0 5000 x.breakLen
    breakLimit := clampTo 1 3 x.breakLimit }

/-- The clamped fields of a stand part brought into their ranges (R165). -/
def StandPart.clamp (x : StandPart) : StandPart :=
  { x with
    minLength := clampTo 0 20000 x.minLength
    splice := clampTo 100 400 x.splice
    callLead := clampTo 60 3600 x.callLead }

/-- Grade and width lie in their ranges (R165). -/
def StandPart.paperOk (x : StandPart) : Bool := 1 ≤ x.grade ∧ x.grade ≤ 63 ∧ 300 ≤ x.width ∧ x.width ≤ 2200

/-- What one index of a plan table names (R167). -/
inductive PlanIndex where
  | press (p : PressIx)
  | stand (st : StandIx)
  deriving DecidableEq, Repr

/-- The part of an index of a plan table. -/
def planIndex? (i : Nat) : Option PlanIndex :=
  match toIx 4 i with
  | some p => some (.press p)
  | none => (toIx 24 (i - 4)).map .stand

namespace State

/-! ### Writing NEXT (R167) -/

/-- The records of an MWRITE of PLAN-NEXT: each part with its offset in the body. -/
def planWrites (t : Telegram) : List (PlanIndex × Nat) :=
  (List.range (reqCount t)).filterMap fun i =>
    (planIndex? (reqIndex t + i)).map fun x => (x, 4 + recordsSize 10 (reqIndex t) i)

/-- A part that belongs to no bank. -/
def unowned (s : State) (x : PlanIndex) : Bool :=
  match x with
  | .press _ => false
  | .stand st => (s.stand st).press.isNone

/-- A record with a refused field out of its range (R165). -/
def planRefused (body : List Byte) (w : PlanIndex × Nat) : Bool :=
  decide (1 < (u8 body w.2).toNat) ||
    match w.1 with
    | .press _ => false
    | .stand _ => !(standPartAt body w.2).paperOk

/-- A record with a clamped field out of its range (R165). -/
def planClamped (body : List Byte) (w : PlanIndex × Nat) : Bool :=
  match w.1 with
  | .press _ => (pressPartAt body w.2).clamp ≠ pressPartAt body w.2
  | .stand _ => (standPartAt body w.2).clamp ≠ standPartAt body w.2

def setNextPress (p : PressIx) (x : PressPart) (s : State) : State :=
  { s with pls := { s.pls with nextPress := s.pls.nextPress.set p x } }

def setNextStand (st : StandIx) (x : StandPart) (s : State) : State :=
  { s with pls := { s.pls with nextStand := s.pls.nextStand.set st x } }

/-- One record written; the ready mark of its press is cleared. -/
def applyPlanWrite (body : List Byte) (w : PlanIndex × Nat) (s : State) : State :=
  match w.1 with
  | .press p => (s.setNextPress p (pressPartAt body w.2).clamp).clearReady (some p)
  | .stand st => (s.setNextStand st (standPartAt body w.2).clamp).clearReady (s.stand st).press

def writePlanNext (t : Telegram) (s : State) : Answer × State :=
  let ws := planWrites t
  if !rangeOk (reqIndex t) (reqCount t) 28 || ws.any fun w => s.unowned w.1 then s.answered .badIndex
  else if ws.any (planRefused t.body) then s.answered .badValue
  else
    (ws.foldl (fun s w => s.applyPlanWrite t.body w) s).answered (if ws.any (planClamped t.body) then .clamped else .ok)

/-! ### PLAN-READY (R169) -/

/-- Every field of the NEXT bank of a press lies in its range. -/
def nextInRange (s : State) (p : PressIx) : Bool :=
  decide (s.pls.nextPress[p].clamp = s.pls.nextPress[p]) &&
    (s.standsOf p).all fun st => decide (s.pls.nextStand[st].clamp = s.pls.nextStand[st]) && s.pls.nextStand[st].paperOk

/-- The NEXT bank of a press is valid: in range, and in use exactly when some stand of it is in the lead. -/
def nextValid (s : State) (p : PressIx) : Bool :=
  s.nextInRange p && decide (s.pls.nextPress[p].inUse = (s.standsOf p).any fun st => s.pls.nextStand[st].lead)

def planReady (p : PressIx) (s : State) : Answer × State :=
  let ok := s.nextValid p
  (s.setReady p ok).answered (if ok then .ok else .badValue)

/-! ### The swap (R170 to R174) -/

/-- Step 1: the NEXT bank is copied into ACTIVE, and the ready mark cleared. -/
def copyBank (p : PressIx) (s : State) : State :=
  let stands := s.standsOf p
  { s with pls := { s.pls with
      activePress := s.pls.activePress.set p s.pls.nextPress[p]
      activeStand := stands.foldl (fun a (st : StandIx) => a.set st s.pls.nextStand[st]) s.pls.activeStand
      ready := s.pls.ready.set p false } }

/-- A stand leaves the lead (R172). -/
def leaveLead (st : StandIx) (s : State) : State :=
  let s := (s.updStand st fun x => { x with state := .out }).removeCall st
  s.updStand st fun x => { x with lres := 0, ts := Config.unbounded }

/-- An arm's roll differs from the stand's plan in grade or width. -/
def armDiffers (s : State) (st : StandIx) (id : Option RollId) : Bool :=
  match id.bind s.roll? with
  | some r => r.differs (s.activeStand st)
  | none => false

/-- The plan check of the active and the standby roll (R173 step 3). -/
def planCheck (st : StandIx) (s : State) : State :=
  let standby : Option RollId := match (s.stand st).other with
    | .standby id => some id
    | _ => none
  let s := (s.readActive st).readNamed standby
  if s.armDiffers st (s.stand st).active || s.armDiffers st standby then s.raise .planMismatch (num st) else s

/-- A stand in the lead after a swap (R173). -/
def alignStand (st : StandIx) (s : State) : State :=
  let s :=
    if (s.stand st).state = .out then
      let new := s.armsState st
      (s.updStand st fun x => { x with state := new }).starveTest st
    else s
  let old := (s.stand st).lres
  let s := s.readActive st
  let new := s.lresValue st
  let s := s.updStand st fun x => { x with lres := new }
  let s := if new = old then s else s.lateTest st
  s.planCheck st

/-- The roll fits the stand's plan: grade, width and minimum length (R137, R174). -/
def fits (s : State) (st : StandIx) (r : Roll) : Bool :=
  let p := s.activeStand st
  !r.differs p && decide (10 * p.minLength ≤ r.lr)

/-- A SELECTED call whose roll no longer fits returns to OPEN (R174); a parity error in the roll's record reopens it by
itself (R13). -/
def judgeCall (st : StandIx) (s : State) : State :=
  match s.selectedRoll? st with
  | some id =>
    let s := s.readRoll id
    match s.call? st with
    | some c => if c.phase = .selected id ∧ !(s.roll? id).any (s.fits st) then s.reopenCall c else s
    | none => s
  | none => s

/-- A swap carried out (R171), the stands of each step in number order (log 42). -/
def swapBank (p : PressIx) (s : State) : State :=
  let stands := s.standsOf p
  let led := stands.filter s.inLead
  let s := s.copyBank p
  let s := (led.filter fun st => !s.inLead st).foldl (fun s st => s.leaveLead st) s
  let s := (stands.filter s.inLead).foldl (fun s st => s.alignStand st) s
  let s := (stands.filter s.inLead).foldl (fun s st => s.judgeCall st) s
  let s := s.clearNoRoll.startSearch
  stands.foldl (fun s st => s.computeTs st) s

/-- A swap asked for: carried out when NEXT is ready, else PLAN-NOT-READY (R170). -/
def askSwap (p : PressIx) (s : State) : State :=
  if s.pls.ready[p] then s.swapBank p else s.raise .planNotReady (num p)

def planSwap (p : PressIx) (s : State) : Answer × State :=
  (s.askSwap p).answered (if s.pls.ready[p] then .ok else .wrongState)

end State

/-! ### The commands -/

/-- MWRITE of PLAN-NEXT (R167). -/
def execMwritePlanNext (s : State) : Host.Outcome State Fault Refusal :=
  awake (State.serveRequest .mwritePlanNext State.writePlanNext) s

/-- PLAN-READY (R169). -/
def execPlanReady (s : State) : Host.Outcome State Fault Refusal :=
  awake (State.serveRequest .planReady (State.onPress State.planReady)) s

/-- PLAN-SWAP (R170). -/
def execPlanSwap (s : State) : Host.Outcome State Fault Refusal :=
  awake (State.serveRequest .planSwap (State.onPress State.planSwap)) s

/-- RUN EDITION on the Upper port: the SCU's phase change, then the swap (R42, R149, R151, R170). -/
def execRunEdition (dst src press : Byte) (run : Half) (edition : Byte) (s : State) : Host.Outcome State Fault Refusal :=
  awake (State.runGate ⟨dst, src, clsRun, runBody press 3 run edition⟩
    (State.watchRun src press fun p s => (s.runEdition p edition.toNat).askSwap p)) s

end Sys2Proof.Machine
end

