-- ==== Sys2Proof/Machine/Search.lean ====
section
/-! DEFINITION. The roll search, the prediction tick, and autonomous running (R133, R137 to R142, R178, R181). -/

namespace Sys2Proof.Machine

/-- Candidate a replaces best b: has-run first, then the earlier announcement, then the lower place (R137). -/
def Candidate.better (a b : Candidate) : Bool :=
  if a.hasRun ≠ b.hasRun then a.hasRun
  else if a.announced ≠ b.announced then decide (a.announced.toNat < b.announced.toNat)
  else decide (a.place < b.place)

namespace State

/-! ### Roll search (R137, R138) -/

/-- The place at which a roll stands, STORED or RESERVED. -/
def rollPlace? (r : Roll) : Option Nat :=
  match r.status with
  | .stored p => some p
  | .reserved p _ => some p
  | _ => none

/-- A slot read by the search, with the place of a roll found at one. -/
def readCandidate (k : Nat) (s : State) : State :=
  let s := s.readSlot k
  match (s.slot? k).bind rollPlace? with
  | some p => s.readPlace p
  | none => s

/-- The candidate a slot holds for the call of a stand (R137). -/
def candidate? (s : State) (st : StandIx) (k : Nat) : Option Candidate :=
  match s.slot? k with
  | some r =>
    match r.status with
    | .stored p =>
      if r.holds.none && (s.callNaming? r.id).isNone && s.fits st r && !(s.place p).blocked then
        some ⟨k, r.id, r.hasRun, r.announced, p⟩
      else none
    | _ => none
  | none => none

/-- The better of the best so far and a new candidate. -/
def bestOf (best new : Option Candidate) : Option Candidate :=
  match best, new with
  | some b, some c => some (if c.better b then c else b)
  | none, c => c
  | b, none => b

/-- One slot of the scan (R137). -/
def searchStep (s : State) : State :=
  match s.fdu.search with
  | some x =>
    if s.running ∧ x.next ≤ s.tmc.sizes.rolls then
      let s := s.readCandidate x.next
      s.setSearch (s.fdu.search.map fun y =>
        { y with next := x.next + 1, best := bestOf y.best (s.candidate? y.stand x.next) })
    else s
  | none => s

/-- The search starts anew for its call (R138). -/
def restartSearch (st : StandIx) (s : State) : State := s.setSearch (some { stand := st })

/-- The best candidate is still eligible: it is reserved and the call SELECTED (R138, R140, R141). -/
def reserveFor (c : Call) (k p : Nat) (s : State) : State :=
  match s.slot? k with
  | some r =>
    let s := (s.setSlot k { r with status := .reserved p (.call c.stand) }).setSearch none
    ((s.selectCall c r.id).tryCalls).startSearch
  | none => s

/-- The scan found nothing (R138). -/
def foundNothing (c : Call) (s : State) : State :=
  let s := (s.putCall { c with phase := .opened, noRoll := true }).setSearch none
  (s.raise .noRoll (num c.stand)).startSearch

/-- The completion of the scan (R138). -/
def searchComplete (s : State) : State :=
  match s.fdu.search with
  | some x =>
    match s.call? x.stand with
    | some c =>
      if s.running ∧ s.tmc.sizes.rolls < x.next then
        match x.best with
        | some b =>
          let s := s.readCandidate b.slot
          match s.candidate? x.stand b.slot with
          | some y => if y.roll = b.roll then s.reserveFor c y.slot y.place else s.restartSearch x.stand
          | none => s.restartSearch x.stand
        | none => if x.noticed then s.restartSearch x.stand else s.foundNothing c
      else s
    | none => s
  | none => s

/-! ### The prediction tick (R133, R142) -/

/-- A SELECTED call past its due second is overdue (R142). -/
def judgeOverdue (st : StandIx) (s : State) : State :=
  match s.call? st with
  | some c =>
    match c.phase with
    | .selected _ =>
      if !c.overdue && decide (c.due < s.second) then
        (s.putCall { c with overdue := true }).raise .callOverdue (num st)
      else s
    | _ => s
  | none => s

/-- The dead-reckoning step, with the starvation test when Lr has become 0 (R133 steps 2 and 3). -/
def deadReckon (st : StandIx) (s : State) : State :=
  match (s.stand st).active with
  | some id =>
    if s.inLead st then
      let x := s.stand st
      let sum := s.standSpeed st + x.carry
      let lr := x.lr - sum / 6
      let s := (s.updRoll id fun r => { r with lr := lr }).updStand st fun x => { x with lr := lr, carry := sum % 6 }
      if x.lr ≠ 0 ∧ lr = 0 then s.starveTest st else s
    else s
  | none => s

/-- The five steps of one stand at a prediction tick (R133). -/
def predictStand (s : State) (st : StandIx) : State := (((s.judgeOverdue st).deadReckon st).lateTest st).computeTs st

/-- The prediction tick: the stands in number order (R133, log 19). -/
def predict (s : State) : State := (List.finRange 24).foldl predictStand s

/-! ### Autonomous running (R178, R181) -/

/-- The upper link has fallen silent (R178). -/
def linkSilent (s : State) : Bool :=
  decide (s.sfu.mode = .normal) && decide (s.sfu.linkPeriod ≠ 0) && decide (s.sfu.linkPeriod ≤ s.sfu.linkCount)

/-- The part takes the floor over (R178). -/
def goAutonomous (s : State) : State := ((s.setMode .autonomous).raise .autonomous 0).tryCalls

/-- The CALL of a stand's call in SELECTED; its roll's record is read, and a parity error there reopens it (R181, R13). -/
def announceCall (st : StandIx) (s : State) : State :=
  match s.selectedRoll? st with
  | some id =>
    let s := s.readRoll id
    match s.call? st with
    | some c => if c.phase = .selected id then s.sendCall c else s
    | none => s
  | none => s

/-- RESUME (R181). -/
def resume (_ : Telegram) (s : State) : Answer × State :=
  if s.sfu.mode = .autonomous then
    let s := (s.setMode .normal).setLinkCount 0
    ((s.fdu.calls.map Call.stand).foldl (fun s st => s.announceCall st) s).answered .ok
  else s.answered .wrongMode

end State

/-! ### The commands -/

/-- One slot of the roll search (R137). -/
def execSearchStep (s : State) : Host.Outcome State Fault Refusal := awake State.searchStep s

/-- The roll search has read every slot (R138). -/
def execSearchComplete (s : State) : Host.Outcome State Fault Refusal := awake State.searchComplete s

/-- The prediction tick (R133). -/
def execPredictionTick (s : State) : Host.Outcome State Fault Refusal :=
  awake (State.onDue .prediction State.running State.predict) s

/-- The upper link falls silent (R178). -/
def execLinkFallenSilent (s : State) : Host.Outcome State Fault Refusal :=
  awake (State.onDue .linkSilent State.linkSilent State.goAutonomous) s

/-- RESUME (R181). -/
def execResume (s : State) : Host.Outcome State Fault Refusal := awake (State.serveRequest .resume State.resume) s

end Sys2Proof.Machine
end

