-- ==== Sys2Proof/Machine/Tables.lean ====
section
/-! DEFINITION. The structural tables and table HALL as management writes them, and every table as management reads it
(R34, R53, R56, R187 to R189). -/

namespace Sys2Proof.Machine

/-! ### NODES (R33, R34) -/

/-- The node kind of a code. -/
def NodeKind.ofByte (b : Byte) : Option NodeKind :=
  match b.toNat with
  | 0 => some .vehicle
  | 1 => some .stand
  | 2 => some .folder
  | 3 => some .drive
  | 4 => some .upper
  | _ => none

/-- The code of a node kind. -/
def NodeKind.code : NodeKind → Byte
  | .vehicle => 0
  | .stand => 1
  | .folder => 2
  | .drive => 3
  | .upper => 4

/-- The greatest subject index of a kind; 0 for UPPER, whose subject is absent. -/
def NodeKind.subjects : NodeKind → Nat
  | .vehicle => 16
  | .stand => 24
  | .folder => 4
  | .drive => 4
  | .upper => 0

/-- One entry of an MWRITE of NODES: refused, free, or an entry with whether its period was clamped. -/
inductive NodeWrite where
  | bad
  | free
  | entry (e : NodeEntry) (clamped : Bool)
  deriving DecidableEq, Repr

/-- The entry at an offset of the body (R34 check 2); the period is brought into 1 to 50 for a VEHICLE and is 0 for the other
kinds. -/
def nodeWriteAt (l : List Byte) (o : Nat) : NodeWrite :=
  let a := u8 l o
  if a = 0 then .free
  else if 241 ≤ a.toNat then .bad
  else
    match NodeKind.ofByte (u8 l (o + 1)) with
    | none => .bad
    | some k =>
      let n := (u8 l (o + 2)).toNat
      let period := (u8 l (o + 3)).toNat
      match k with
      | .upper => .entry ⟨a, .upper, 0, 0⟩ false
      | .vehicle =>
        if 1 ≤ n ∧ n ≤ 16 then .entry ⟨a, .vehicle, n, clampTo 1 50 period⟩ (clampTo 1 50 period ≠ period) else .bad
      | k => if 1 ≤ n ∧ n ≤ k.subjects then .entry ⟨a, k, n, 0⟩ false else .bad

/-- Two entries carry the same address, or the same kind and subject (R33). UPPER entries have no subject (log 32). -/
def NodeEntry.clashes (a b : NodeEntry) : Bool :=
  a.addr = b.addr ∨ (a.kind = b.kind ∧ a.kind ≠ .upper ∧ a.subject = b.subject)

/-- Some two entries of a list clash. -/
def anyClash {α : Type} (clash : α → α → Bool) : List α → Bool
  | [] => false
  | a :: r => r.any (clash a) || anyClash clash r

/-- The node table after a request. -/
def writtenNodes (ws : List (Nat × NodeWrite)) (nd : List (Nat × NodeEntry)) : List (Nat × NodeEntry) :=
  ws.foldl
    (fun nd w =>
      match w.2 with
      | .entry e _ => Table.insert w.1 e nd
      | _ => Table.erase w.1 nd) nd

/-! ### Routes (R55, R56) -/

/-- A location allowed at an end of a route, in range. -/
def routeEnd? (s : State) (toEnd : Bool) (l : Option Loc) : Option Loc :=
  match l with
  | some l =>
    if l.kind ≠ .none ∧ (toEnd = false ∨ l.kind ≠ .segment) ∧ l.inRange s then some l else none
  | none => none

/-- One record of an MWRITE of ROUTES: refused, free, or a route. -/
inductive RouteWrite where
  | bad
  | free
  | route (r : Route)
  deriving DecidableEq, Repr

/-- The record at an offset of the body (R56 check 2). -/
def routeWriteAt (s : State) (l : List Byte) (o : Nat) : RouteWrite :=
  if u8 l (o + 1) = 0 then .free
  else
    match routeEnd? s false (locAt l (o + 1)), routeEnd? s true (locAt l (o + 4)) with
    | some a, some b =>
      let n := (u8 l (o + 7)).toNat
      let leg := (List.range n).map fun i => u16 l (o + 8 + 2 * i)
      if a = b ∨ n = 0 ∨ 16 < n ∨ 0 ∈ leg then .bad else .route ⟨a, b, leg⟩
    | _, _ => .bad

/-- Two routes carry the same key. -/
def Route.clashes (a b : Route) : Bool := a.start = b.start ∧ a.goal = b.goal

/-- The route table after a request. -/
def writtenRoutes (ws : List (Nat × RouteWrite)) (rs : List (Nat × Route)) : List (Nat × Route) :=
  ws.foldl
    (fun rs w =>
      match w.2 with
      | .route r => Table.insert w.1 r rs
      | _ => Table.erase w.1 rs) rs

namespace State

def writeNodes (t : Telegram) (s : State) : Answer × State :=
  let ws := (List.range (reqCount t)).map fun i => (reqIndex t + i, nodeWriteAt t.body (4 + 4 * i))
  let nd := writtenNodes ws s.nd
  if s.sfu.mode ≠ .config then s.answered .wrongMode
  else if !rangeOk (reqIndex t) (reqCount t) 64 then s.answered .badIndex
  else if ws.any fun w => w.2 = .bad then s.answered .badValue
  else if anyClash NodeEntry.clashes (nd.map Prod.snd) then s.answered .duplicate
  else
    let new := { s with nd := nd }
    if (List.finRange 16).any fun v => decide ((s.vehicle v).status ≠ .off) && (new.vehicleEntry? v).isNone then
      s.answered .wrongState
    else
      new.answered
        (if ws.any fun w => match w.2 with
            | .entry _ c => c
            | _ => false then .clamped else .ok)

/-- MWRITE of SEGMENTS (R53). -/
def writeSegments (t : Telegram) (s : State) : Answer × State :=
  let ws := (List.range (reqCount t)).map fun i =>
    (reqIndex t + i, (u8 t.body (4 + 23 * i)).toNat, (u8 t.body (4 + 23 * i + 1)).toNat)
  if s.sfu.mode ≠ .config then s.answered .wrongMode
  else if !rangeOk (reqIndex t) (reqCount t) 255 then s.answered .badIndex
  else if ws.any fun w => 2 < w.2.1 ∨ (w.2.1 ≠ 0 ∧ (w.2.2 = 0 ∨ 8 < w.2.2)) then s.answered .badValue
  else (ws.foldl (fun s w => s.updSeg w.1 fun x => { x with capacity := w.2.1, zone := w.2.2 }) s).answered .ok

/-- The slots that a request keeps are read for the check of its keys: those with a parity error are freed, in slot order
(R56, R57, R194). -/
def readKept (written : List Nat) (s : State) : State :=
  (inOrder (s.tmc.badRoutes.filter fun k => !written.contains k)).foldl (fun s k => s.freeBadRoute k) s

/-- MWRITE of ROUTES (R56). -/
def writeRoutes (t : Telegram) (s : State) : Answer × State :=
  let ws := (List.range (reqCount t)).map fun i => (reqIndex t + i, routeWriteAt s t.body (4 + 40 * i))
  if s.sfu.mode ≠ .config then s.answered .wrongMode
  else if !rangeOk (reqIndex t) (reqCount t) s.tmc.sizes.routes then s.answered .badIndex
  else if ws.any fun w => w.2 = .bad then s.answered .badValue
  else
    let s := s.readKept (ws.map Prod.fst)
    let rs := writtenRoutes ws s.tmc.routes
    if anyClash Route.clashes (rs.map Prod.snd) then s.answered .duplicate
    else
      ({ s with tmc := { s.tmc with
          routes := rs
          badRoutes := s.tmc.badRoutes.filter fun k => !ws.any fun w => w.1 = k } }).answered .ok

end State

/-! ### HALL (R189) -/

/-- The greatest writable field. -/
def hallWritable : Nat := 31

/-- A field that is written in CONFIG alone. -/
def hallConfigOnly (f : Nat) : Bool := f = 2 ∨ (8 ≤ f ∧ f ≤ 15)

/-- The range into which a tuning field is clamped; none for the collector address and the zone policies. -/
def hallRange (f : Nat) : Option (Nat × Nat) :=
  if f = 2 then some (2, 4)
  else if f = 3 then some (1, 50)
  else if f = 4 then some (0, 20)
  else if f = 5 then some (1, 15)
  else if f = 6 then some (0, 1000)
  else if f = 7 then some (0, 600)
  else if 16 ≤ f ∧ f ≤ 19 then some (10, 600)
  else if 20 ≤ f ∧ f ≤ 23 then some (1, 50)
  else if 24 ≤ f ∧ f ≤ 27 then some (1, 600)
  else if 28 ≤ f ∧ f ≤ 31 then some (5, 200)
  else none

/-- A value that is refused: a collector above 240, an undefined zone policy. -/
def hallRefused (f v : Nat) : Bool := (f = 1 ∧ 240 < v) ∨ (8 ≤ f ∧ f ≤ 15 ∧ 1 < v)

/-- The value as a field holds it. -/
def hallClamp (f v : Nat) : Nat :=
  match hallRange f with
  | some (lo, hi) => clampTo lo hi v
  | none => v

namespace State

/-- A per-press setting written. -/
def setSetting (f base : Nat) (g : SpeedSettings → SpeedSettings) (s : State) : State :=
  match toIx 4 (f + 1 - base) with
  | some p => s.updSettings p g
  | none => s

/-- One writable field written with a value in its range; a write of the link period sets the link count to 0 (R177). -/
def setHall (f v : Nat) (s : State) : State :=
  if f = 1 then { s with sfu := { s.sfu with collector := BitVec.ofNat 8 v } }
  else if f = 2 then { s with tcu := { s.tcu with claimDepth := v } }
  else if f = 3 then { s with vou := { s.vou with retryInterval := v } }
  else if f = 4 then { s with fdu := { s.fdu with tolerance := v } }
  else if f = 5 then { s with fdu := { s.fdu with implausibleLimit := v } }
  else if f = 6 then { s with fdu := { s.fdu with lateMargin := v } }
  else if f = 7 then { s with sfu := { s.sfu with linkPeriod := v, linkCount := 0 } }
  else if f ≤ 15 then
    match toIx 8 (f - 7) with
    | some z => s.updZone z fun x => { x with haltOne := v = 1 }
    | none => s
  else if f ≤ 19 then s.setSetting f 16 fun x => { x with slew := v }
  else if f ≤ 23 then s.setSetting f 20 fun x => { x with silence := v }
  else if f ≤ 27 then s.setSetting f 24 fun x => { x with holdover := v }
  else s.setSetting f 28 fun x => { x with floor := v }

def writeHall (t : Telegram) (s : State) : Answer × State :=
  let ws := (List.range (reqCount t)).map fun i => (reqIndex t + i, (u32 t.body (4 + 4 * i)).toNat)
  if s.sfu.mode ≠ .config ∧ ws.any fun w => hallConfigOnly w.1 then s.answered .wrongMode
  else if !rangeOk (reqIndex t) (reqCount t) hallWritable then s.answered .badIndex
  else if ws.any fun w => hallRefused w.1 w.2 then s.answered .badValue
  else
    (ws.foldl (fun s w => s.setHall w.1 (hallClamp w.1 w.2)) s).answered
      (if ws.any fun w => hallClamp w.1 w.2 ≠ w.2 then .clamped else .ok)

end State

/-! ### Records as they are read (R188) -/

/-- A list with a count byte, filled to its capacity with 0. -/
def listBytes (capacity : Nat) (l : List Byte) : List Byte := be8 l.length ++ l ++ List.replicate (capacity - l.length) 0

/-- A drop claim or order link: vehicle and tag, 0 when absent. -/
def orderRefBytes (r : Option OrderRef) : List Byte :=
  match r with
  | some r => [BitVec.ofNat 8 (num r.vehicle), r.tag]
  | none => [0, 0]

/-- A roll id, 0 when absent. -/
def rollIdBytes (id : Option RollId) : List Byte := beWord (id.getD 0)

/-- The bytes of a node table entry. -/
def NodeEntry.bytes (e : NodeEntry) : List Byte := [e.addr, e.kind.code] ++ be8 e.subject ++ be8 e.period

/-- The code of a vehicle state. -/
def VStatus.code : VStatus → Byte
  | .off => 0
  | .idle => 1
  | .busy => 2
  | .lost => 3

/-- The two bytes of an order in a vehicle record. -/
def Order.flagBytes (o : Order) : List Byte :=
  [o.tag, (if o.source = .part then 1 else 0) ||| (if o.progress = .toDrop then 2 else 0)]

/-- A load on the line: 0 empty, all ones unknown roll. -/
def Load.word : Load → Word
  | .empty => 0
  | .roll id => id
  | .unknown => unknownRoll

/-- A vehicle record, 52 bytes. -/
def vehicleBytes (s : State) (v : VehicleIx) : List Byte :=
  let x := s.vehicle v
  let fill (n : Nat) (l : List Byte) : List Byte := l ++ List.replicate (n - l.length) 0
  [s.vehicleAddr v] ++ Loc.bytes ⟨.home, x.home⟩ ++ be8 x.window ++ [x.status.code] ++
    beMark (x.beforeLoss = .busy) ++ [x.causes.byte, x.intrusionZones] ++ x.endLoc.bytes ++ be8 x.currentSeg ++
    [x.motion] ++ beWord x.repLoad ++ beWord x.load.word ++ beWord x.lastReport ++ be8 x.supCount ++ be8 x.retryCount ++
    be8 x.claims.length ++ fill 4 (x.claims.map fun c => BitVec.ofNat 8 c.seg) ++ be8 ((s.waitsFor? v).getD 0) ++
    be8 x.path.length ++ be8 (if x.path = [] then 0 else x.pointer + 1) ++
    be8 x.outstanding.length ++ fill 6 (x.outstanding.flatMap Order.flagBytes) ++
    be8 x.queue.length ++ fill 8 (x.queue.flatMap Order.flagBytes)

/-- A segment record, 23 bytes. -/
def Segment.bytes (x : Segment) : List Byte :=
  be8 x.capacity ++ be8 x.zone ++ beMark x.blocked ++ listBytes 2 (x.holders.map fun v => BitVec.ofNat 8 (num v)) ++
    listBytes 16 (x.waiters.map fun v => BitVec.ofNat 8 (num v))

/-- A route record, 40 bytes. -/
def Route.bytes (r : Route) : List Byte :=
  [1] ++ r.start.bytes ++ r.goal.bytes ++ be8 r.leg.length ++ r.leg.flatMap be16 ++
    List.replicate (32 - 2 * r.leg.length) 0

/-- A place record, 9 bytes. -/
def Place.bytes (x : Place) : List Byte :=
  be8 x.access ++ be8 x.zone ++ beMark x.blocked ++ rollIdBytes x.occupant ++ orderRefBytes x.claim

/-- The code of a stand state. -/
def StandState.code : StandState → Byte
  | .out => 0
  | .idle => 1
  | .feeding => 2
  | .armed => 3
  | .starved => 4

/-- Other-arm contents: a kind byte and a roll id. -/
def Arm.bytes : Arm → List Byte
  | .none => [0, 0, 0, 0, 0]
  | .standby id => 1 :: beWord id
  | .butt id => 2 :: beWord id

/-- A stand record, 31 bytes. -/
def Stand.bytes (x : Stand) : List Byte :=
  be8 (pressNumber x.press) ++ [x.state.code] ++ rollIdBytes x.active ++ x.other.bytes ++ orderRefBytes x.claim ++
    be32 x.lr ++ be8 x.carry ++ be32 x.lres ++ be16 x.ts ++ be8 x.implausible ++ beMark x.deadReckon ++ beMark x.late ++
    beWord x.lastTick

/-- The code of a source state. -/
def SpeedSource.code : SpeedSource → Byte
  | .trackPrimary => 0
  | .trackSecondary => 1
  | .hold => 2
  | .nominal => 3
  | .forced => 4

/-- The count interval: open is 00 and closed 01, then the elapsed ticks. A closed interval holds none, and 0 is read (log
34). -/
def intervalBytes (i : Option Nat) : List Byte :=
  match i with
  | some k => 0 :: be8 k
  | none => [1, 0]

/-- A press speed record, 24 bytes. -/
def Speed.bytes (x : Speed) : List Byte :=
  be16 x.estimate ++ [x.source.code] ++ beMark x.limiting ++ be16 x.age ++ beWord x.lastDrive ++ beWord x.lastCount ++
    be8 x.driveSilence ++ be8 x.countSilence ++ intervalBytes x.interval ++ be32 x.pendingInc ++ be16 x.holdover

/-- A record of a plan table: the press part of NEXT has its ready mark at its end (R168). -/
def planBytes (s : State) (next : Bool) (i : Nat) : List Byte :=
  match planIndex? i with
  | some (.press p) => if next then s.pls.nextPress[p].bytes ++ beMark s.pls.ready[p] else s.pls.activePress[p].bytes
  | some (.stand st) => if next then s.pls.nextStand[st].bytes else s.pls.activeStand[st].bytes
  | none => []

/-- The code of the mode (R189). -/
def Mode.code : Mode → Nat
  | .startUp => 0
  | .config => 1
  | .normal => 2
  | .autonomous => 3

/-- The value of a field of HALL that belongs to a press. -/
def settingOf (s : State) (f base : Nat) (g : SpeedSettings → Nat) : Nat :=
  match toIx 4 (f + 1 - base) with
  | some p => g (s.speedSettings p)
  | none => 0

/-- The value of a field of HALL (R189). -/
def hallValue (s : State) (f : Nat) : Nat :=
  if 8 ≤ f ∧ f ≤ 15 then
    match toIx 8 (f - 7) with
    | some z => if (s.zone z).haltOne then 1 else 0
    | none => 0
  else if 16 ≤ f ∧ f ≤ 19 then settingOf s f 16 SpeedSettings.slew
  else if 20 ≤ f ∧ f ≤ 23 then settingOf s f 20 SpeedSettings.silence
  else if 24 ≤ f ∧ f ≤ 27 then settingOf s f 24 SpeedSettings.holdover
  else if 28 ≤ f ∧ f ≤ 31 then settingOf s f 28 SpeedSettings.floor
  else if 40 ≤ f ∧ f ≤ 47 then
    match toIx 8 (f - 39) with
    | some z => (s.zone z).lost.toNat * 65536 + (s.zone z).intruders.toNat
    | none => 0
  else
    match f with
    | 1 => s.sfu.collector.toNat
    | 2 => s.tcu.claimDepth
    | 3 => s.vou.retryInterval
    | 4 => s.fdu.tolerance
    | 5 => s.fdu.implausibleLimit
    | 6 => s.fdu.lateMargin
    | 7 => s.sfu.linkPeriod
    | 32 => s.sfu.mode.code
    | 33 => s.clock.toNat
    | 34 => s.ltu.upperErrors
    | 35 => s.ltu.floorErrors
    | 36 => s.ltu.urgent.length
    | 37 => s.ltu.normal.length
    | 38 => s.ltu.upper.length
    | 39 => s.mga.queue.length
    | 48 => s.fdu.lastStarved
    | 49 => s.fdu.lastStarvedTick.toNat
    | 50 => s.fdu.starved.toNat
    | 51 => s.scu.closed.length
    | 52 => s.scu.scrapped
    | 53 => s.sfu.linkCount
    | 54 => s.tmc.sizes.rolls
    | 55 => s.tmc.sizes.places
    | 56 => s.tmc.sizes.routes
    | 57 => s.memoryWords
    | 58 => s.ownAddr.toNat
    | _ => 0

/-- A flag record, 13 bytes (R183). -/
def flagBytes (s : State) (i : Nat) : List Byte :=
  match Flag.ofNumber i with
  | some f =>
    let r := s.flag f
    [(if r.latched then 1 else 0) ||| (if r.masked then 2 else 0) ||| (if f.severe then 4 else 0)] ++
      beWord r.subject ++ beWord r.subjects ++ beWord r.tick
  | none => []

/-- A run entry, 43 bytes (R153). -/
def runEntryBytes (r : Option Run) : List Byte :=
  match r with
  | some r => [1] ++ be16 r.number ++ be8 r.edition ++ [r.phase.code] ++ beWord r.startTick ++ r.counterBytes
  | none => List.replicate 43 0

/-- The code of a monitor state. -/
def Monitor.code : Monitor → Byte
  | .ok => 0
  | .warn => 1
  | .alarm => 2

/-- A press record of RUNS, 36 bytes. -/
def PressRec.bytes (x : PressRec) : List Byte :=
  be32 x.idleGood ++ be32 x.idleWaste ++ be32 x.unassigned ++ [x.monitor.code] ++ be32 x.blockCopies ++
    be32 x.blockWaste ++ be16 x.lastRatio ++ be16 x.splice.remaining ++
    be8 (match x.splice.stand with
      | some st => num st
      | none => 0) ++
    rollIdBytes x.splice.roll ++ be16 x.brk.remaining ++ rollIdBytes x.brk.roll

/-- A record of RUNS (R153). -/
def runBytes (s : State) (i : Nat) : List Byte :=
  match toIx 4 i, toIx 4 (i - 4) with
  | some p, _ => runEntryBytes (s.run? p)
  | none, some p => (s.press p).bytes
  | none, none => []

/-- The code of a call's state. -/
def CallPhase.code : CallPhase → Byte
  | .opened => 0
  | .searching => 1
  | .selected _ => 2
  | .ordered _ _ => 3

/-- A call record, 15 bytes. -/
def Call.bytes (c : Call) : List Byte :=
  be8 (num c.stand) ++ [c.phase.code] ++ beMark c.noRoll ++ rollIdBytes c.phase.roll? ++ orderRefBytes c.phase.link? ++
    be32 c.due ++ beMark c.early ++ beMark c.overdue

/-- The greatest index of a table (R188). -/
def tableMax (s : State) (code : Nat) : Nat :=
  match code with
  | 1 => 64
  | 2 => 16
  | 3 => 255
  | 4 => s.tmc.sizes.routes
  | 5 => s.tmc.sizes.places
  | 6 => s.tmc.sizes.rolls
  | 7 => 24
  | 8 => 4
  | 9 => 28
  | 10 => 28
  | 11 => 58
  | 12 => 30
  | 13 => 8
  | 14 => 24
  | _ => 0

/-- The bytes of a record of a table. -/
def recordBytes (s : State) (code i : Nat) : List Byte :=
  match code with
  | 1 =>
    match Table.find? i s.nd with
    | some e => e.bytes
    | none => [0, 0, 0, 0]
  | 2 =>
    match toIx 16 i with
    | some v => vehicleBytes s v
    | none => []
  | 3 => (s.seg i).bytes
  | 4 =>
    match s.route? i with
    | some r => r.bytes
    | none => List.replicate 40 0
  | 5 => (s.place i).bytes
  | 6 =>
    match s.slot? i with
    | some r => r.bytes
    | none => List.replicate 34 0
  | 7 =>
    match toIx 24 i with
    | some st => (s.stand st).bytes
    | none => []
  | 8 =>
    match toIx 4 i with
    | some p => (s.speed p).bytes
    | none => []
  | 9 => planBytes s false i
  | 10 => planBytes s true i
  | 11 => be32 (hallValue s i)
  | 12 => flagBytes s i
  | 13 => runBytes s i
  | 14 =>
    match s.fdu.calls[i - 1]? with
    | some c => c.bytes
    | none => List.replicate 15 0
  | _ => []

/-- As many whole records as fit in a number of bytes (R188). -/
def fitting : Nat → List (List Byte) → List (List Byte)
  | _, [] => []
  | room, r :: rest => if r.length ≤ room then r :: fitting (room - r.length) rest else []

namespace State

/-- What reading a record of a table in memory does on a parity error (R14, R57, R194). -/
def readRecord (code i : Nat) (s : State) : State :=
  match code with
  | 4 => if s.tmc.badRoutes.contains i then s.freeBadRoute i else s
  | 5 => s.readPlace i
  | 6 => s.readSlot i
  | _ => s

/-- MREAD (R187, R188): CALLS checks its index alone, every other table its index and count (log 24). The reply carries the
records as read. -/
def readTable (t : Telegram) (s : State) : Answer × State :=
  let code := reqCode t
  let i := reqIndex t
  let n := if code = 14 then max 1 (min (reqCount t) (25 - i)) else reqCount t
  if !rangeOk i n (tableMax s code) then s.answered .badIndex
  else
    let records := fitting Config.replyData ((List.range n).map fun k => recordBytes s code (i + k))
    ({ result := .ok, data := records.flatten, carried := records.length },
      (List.range records.length).foldl (fun s k => s.readRecord code (i + k)) s)

end State

/-! ### The commands -/

/-- MREAD (R188). -/
def execMread (s : State) : Host.Outcome State Fault Refusal := awake (State.serveRequest .mread State.readTable) s

/-- MWRITE of NODES (R34). -/
def execMwriteNodes (s : State) : Host.Outcome State Fault Refusal :=
  awake (State.serveRequest .mwriteNodes State.writeNodes) s

/-- MWRITE of SEGMENTS (R53). -/
def execMwriteSegments (s : State) : Host.Outcome State Fault Refusal :=
  awake (State.serveRequest .mwriteSegments State.writeSegments) s

/-- MWRITE of ROUTES (R56). -/
def execMwriteRoutes (s : State) : Host.Outcome State Fault Refusal :=
  awake (State.serveRequest .mwriteRoutes State.writeRoutes) s

/-- MWRITE of HALL (R189). -/
def execMwriteHall (s : State) : Host.Outcome State Fault Refusal :=
  awake (State.serveRequest .mwriteHall State.writeHall) s

/-- MWRITE of a table that management does not write (R116, R135, R153, R168, R183). -/
def execMwriteOther (s : State) : Host.Outcome State Fault Refusal :=
  awake (State.serveRequest .mwriteOther fun _ s => s.answered .badTable) s

/-- A request of a class or an action that the MGA does not know (R187). -/
def execBadActionRequest (s : State) : Host.Outcome State Fault Refusal :=
  awake (State.serveRequest .badAction fun _ s => s.answered .badAction) s

end Sys2Proof.Machine
end

