-- ==== Sys2Proof/Machine/Modes.lean ====
section
/-! DEFINITION. Modes, resets, partition, flags and the hall clock as management sets them (R186, R191 to R193, R196, R197,
and the reset tables of R27, R50, R71, R97, R115, R128, R146, R164, R177). -/

namespace Sys2Proof.Machine

namespace State

/-- Every vehicle changed by a function of its record. -/
def mapVehicles (f : Vehicle → Vehicle) (s : State) : State :=
  { s with vou := { s.vou with vehicles := mapVec f s.vou.vehicles } }

/-- Every stand changed by a function of its record. -/
def mapStands (f : Stand → Stand) (s : State) : State := { s with fdu := { s.fdu with stands := mapVec f s.fdu.stands } }

/-- Every press speed record changed by a function of it. -/
def mapSpeeds (f : Speed → Speed) (s : State) : State := { s with fdu := { s.fdu with speeds := mapVec f s.fdu.speeds } }

end State

/-- Every record of a table changed, in canonical form: a record that has come to read as an unlisted one is unlisted. -/
def Table.mapKeep {α : Type} [DecidableEq α] (d : α) (f : α → α) : List (Nat × α) → List (Nat × α)
  | [] => []
  | (k, a) :: r => if f a = d then Table.mapKeep d f r else (k, f a) :: Table.mapKeep d f r

namespace State

/-! ### START (R191) -/

/-- The vehicles start: supervision of every IDLE vehicle from 0, and a HOLD to each halted vehicle that is not OFF, in
number order (R96, log 43). -/
def startVehicles (s : State) : State :=
  let s := s.mapVehicles fun x => if x.status = .idle then { x with supCount := 0 } else x
  (List.finRange 16).foldl
    (fun s v => if (s.vehicle v).status ≠ .off ∧ !(s.vehicle v).causes.none then s.sendHold v else s) s

/-- Every press speed record starts afresh (R126). -/
def startSpeeds (s : State) : State :=
  s.mapSpeeds fun x => { x with age := 0, driveSilence := 0, countSilence := 0, holdover := 0, interval := none }

/-- The steps of START (R191), the stands and the vehicles in number order (log 19, log 43). -/
def startHall (s : State) : State :=
  let s := (((s.setMode .normal).setLinkCount 0).startVehicles).startSpeeds
  let s := s.setPrediction 0
  let s := (List.finRange 24).foldl (fun s st => s.computeTs st) s
  (List.finRange 16).foldl (fun s v => s.forward v) s

def start (_ : Telegram) (s : State) : Answer × State :=
  if s.sfu.mode = .config then s.startHall.answered .ok else s.answered .wrongMode

/-! ### CONFIG (R192, R96) -/

/-- A vehicle holds a claim, or an order is outstanding or queued. -/
def floorBusy (s : State) : Bool :=
  (List.finRange 16).any fun v =>
    !(s.vehicle v).claims.isEmpty || !(s.vehicle v).outstanding.isEmpty || !(s.vehicle v).queue.isEmpty

/-- The LOST vehicles become IDLE and leave their lost sets (R96). Their retry counts, which stop, read 0 (log 38). -/
def unloseVehicles (s : State) : State :=
  let lost := (List.finRange 16).filter fun v => (s.vehicle v).status = .lost
  lost.foldl (fun s v => ((s.updVehicle v fun x => { x with status := .idle, retryCount := 0 }).leaveLostSets v).1) s

/-- The slot holds a roll whose reservation a test picks. -/
def reservedSlot (s : State) (which : Owner → Bool) (k : Nat) : Bool :=
  match (s.slot? k).map Roll.status with
  | some (.reserved _ o) => which o
  | _ => false

/-- The rolls whose reservations a test picks written back as STORED. -/
def storeReserved (which : Owner → Bool) (s : State) : State :=
  let free (r : Roll) : Roll :=
    match r.status with
    | .reserved p o => if which o then { r with status := .stored p } else r
    | _ => r
  { s with tmc := { s.tmc with rolls := s.tmc.rolls.map fun e => (e.1, free e.2) } }

/-- The reservations that a test picks end without a notice; their records are read, in slot order, and written back (R27,
R192). -/
def dropReservations (which : Owner → Bool) (s : State) : State :=
  ((inOrder (s.tmc.badRolls.filter (s.reservedSlot which))).foldl (fun s k => s.readSlot k) s).storeReserved which

/-- The owner is a call. -/
def isCallOwner : Owner → Bool
  | .call _ => true
  | .management => false

/-- The call list is emptied and the search discarded (R144, R192). -/
def emptyCalls (s : State) : State := (s.setCalls []).setSearch none

def config (_ : Telegram) (s : State) : Answer × State :=
  if s.sfu.mode = .config then s.answered .ok
  else if s.floorBusy then s.answered .floorBusy
  else
    let s := (s.setMode .config).unloseVehicles
    let s := (s.emptyCalls).dropReservations isCallOwner
    (s.setDue []).answered .ok

/-! ### RESTART (R192) -/

/-- Step 1: the queues are emptied, and a HOLD naming RESTART is made for each vehicle that is not OFF; those without a slot
wait (R50). -/
def restartQueues (s : State) : State :=
  let holds := ((List.finRange 16).filter fun v => (s.vehicle v).status ≠ .off).filterMap fun v =>
    (s.vehicleEntry? v).map fun e => (⟨e.addr, s.ownAddr, clsHold, [holdRestart]⟩ : Telegram)
  { s with ltu := { s.ltu with
      urgent := holds.take Config.urgentSlots
      restartHolds := holds.drop Config.urgentSlots
      normal := []
      upper := [] } }

/-- The vehicle table after RESTART (R97). -/
def restartVehicle (x : Vehicle) : Vehicle :=
  { x with
    status := if x.status = .off then .off else .idle
    beforeLoss := .idle
    causes := {}
    intrusionZones := 0
    outstanding := []
    queue := []
    endLoc := ⟨.home, x.home⟩
    claims := []
    path := []
    pointer := 0
    supCount := 0
    retryCount := 0 }

/-- A press speed record after RESTART (R128). -/
def restartSpeed (x : Speed) : Speed := { lastDrive := x.lastDrive, lastCount := x.lastCount }

/-- The flags after RESTART: cleared, with the masks kept (R186). -/
def restartFlags (s : State) : State :=
  { s with sfu := { s.sfu with flags := mapVec (fun r => { masked := r.masked }) s.sfu.flags, pulse := 0, linkCount := 0 } }

/-- The drop claims of the places end; their records are read, in number order, and written back (R27). -/
def dropPlaceClaims (s : State) : State :=
  let s := (inOrder (s.tmc.badPlaces.filter fun p => (s.place p).claim.isSome)).foldl (fun s p => s.readPlace p) s
  { s with tmc := { s.tmc with places := Table.mapKeep {} (fun x => { x with claim := none }) s.tmc.places } }

/-- Step 2 for the tables of tracks and rolls (R27, R71). -/
def restartTables (s : State) : State :=
  let s := (s.dropReservations fun _ => true).dropPlaceClaims
  { s with
    tcu := { s.tcu with
      segments := Table.mapKeep {} (fun x => { x with holders := [], waiters := [] }) s.tcu.segments
      zones := mapVec (fun z => { z with lost := 0, intruders := 0 }) s.tcu.zones } }

/-- Step 2 for the Feed Unit (R115, R128, R146). -/
def restartFeed (s : State) : State :=
  let s := ((s.mapStands fun x => { x with claim := none, ts := Config.unbounded }).mapSpeeds restartSpeed).emptyCalls
  { s with fdu := { s.fdu with starved := 0, lastStarved := 0, lastStarvedTick := 0, predictionCount := 0 } }

/-- Step 2 for the SCU (R164). -/
def restartScu (s : State) : State :=
  { s with scu := { scrapped := s.scu.scrapped } }

/-- The three steps of RESTART (R192). -/
def restartHall (s : State) : State :=
  let s := (s.restartQueues.mapVehicles restartVehicle).restartTables
  let s := (s.restartFeed.restartScu.restartFlags).setMode .config
  driveAlarm (s.setDue [])

def restart (_ : Telegram) (s : State) : Answer × State := s.restartHall.answered .ok

/-! ### PARTITION and the clearing pass (R193, R194) -/

/-- A size in its range and on its step. -/
def sizeOk (lo hi by_ n : Nat) : Bool := lo ≤ n ∧ n ≤ hi ∧ n % by_ = 0

/-- The words a partition takes (R193). -/
def partitionWords (p : Sizes) : Nat := 16 * p.rolls + 4 * p.places + 20 * p.routes

/-- The sizes a PARTITION asks for. -/
def askedSizes (t : Telegram) : Sizes := ⟨u16 t.body 1, u16 t.body 3, u16 t.body 5⟩

/-- The part after an accepted PARTITION: every block at its PARTITION values, the mode START-UP, the request waiting
(R193). -/
def repartition (p : Sizes) (t : Telegram) (s : State) : State :=
  { State.reset with
    pins := s.pins
    clock := s.clock
    ltu := s.ltu
    tmc := { sizes := p }
    sfu := { flags := s.sfu.flags, pulse := s.sfu.pulse }
    mga := { queue := s.mga.queue, partitionWaiting := some t }
    pending := s.pending }

def partitionHall (t : Telegram) (s : State) : State :=
  let p := askedSizes t
  if s.sfu.mode ≠ .config then s.reply t { result := .wrongMode }
  else if !(sizeOk 256 4096 256 p.rolls && sizeOk 128 2048 128 p.places && sizeOk 64 1024 64 p.routes) then
    s.reply t { result := .badValue }
  else if s.memoryWords < partitionWords p then s.reply t { result := .noFit }
  else s.repartition p t

/-- The clearing pass completes: every word 0 with good parity, the mode CONFIG, and the reply of a waiting PARTITION
(R193, R194). -/
def clearingDone (s : State) : State :=
  if s.sfu.mode = .startUp then
    let waiting := s.mga.partitionWaiting
    let s := { s with
      tmc := { sizes := s.tmc.sizes }
      sfu := { s.sfu with mode := .config }
      mga := { s.mga with partitionWaiting := none } }
    match waiting with
    | some t => s.reply t { result := .ok }
    | none => s
  else s

/-! ### CLEAR-FLAGS, SET-MASKS and SET-TIME (R186, R196) -/

/-- One flag cleared of the subjects of a map (R186). -/
def clearFlag (f : Flag) (map : Word) (s : State) : State :=
  s.updFlag f fun r =>
    if f.subjectCount = 0 then { r with latched := false }
    else
      let left := r.subjects &&& ~~~map
      { r with subjects := left, latched := r.latched && decide (left ≠ 0) }

def clearFlags (t : Telegram) (s : State) : Answer × State :=
  let n := (u8 t.body 1).toNat
  let map := u32 t.body 2
  if n = 0 then
    (driveAlarm { s with sfu := { s.sfu with flags := mapVec (fun r => { masked := r.masked }) s.sfu.flags } }).answered .ok
  else
    match Flag.ofNumber n with
    | none => s.answered .badIndex
    | some f =>
      if f.subjectCount ≠ 0 ∧ 2 ^ f.subjectCount ≤ map.toNat then s.answered .badValue
      else (driveAlarm (s.clearFlag f map)).answered .ok

/-- Every mask replaced by its bit of the map (R186). -/
def setMasks (t : Telegram) (s : State) : Answer × State :=
  let map := u32 t.body 1
  if 2 ^ 30 ≤ map.toNat then s.answered .badValue
  else
    (driveAlarm (Flag.all.foldl (fun s f => s.updFlag f fun r => { r with masked := setHas map f.ix.val }) s)).answered .ok

def setTime (t : Telegram) (s : State) : Answer × State := (s.setClock (u32 t.body 1)).answered .ok

end State

/-! ### The commands -/

/-- START (R191). -/
def execStart (s : State) : Host.Outcome State Fault Refusal := awake (State.serveRequest .start State.start) s

/-- CONFIG (R192). -/
def execConfig (s : State) : Host.Outcome State Fault Refusal := awake (State.serveRequest .config State.config) s

/-- RESTART (R192). -/
def execRestart (s : State) : Host.Outcome State Fault Refusal := awake (State.serveRequest .restart State.restart) s

/-- PARTITION (R193): its reply waits for the end of the clearing pass. -/
def execPartition (s : State) : Host.Outcome State Fault Refusal :=
  awake (State.takeRequest .partition State.partitionHall) s

/-- CLEAR-FLAGS (R186). -/
def execClearFlags (s : State) : Host.Outcome State Fault Refusal :=
  awake (State.serveRequest .clearFlags State.clearFlags) s

/-- SET-MASKS (R186). -/
def execSetMasks (s : State) : Host.Outcome State Fault Refusal := awake (State.serveRequest .setMasks State.setMasks) s

/-- SET-TIME (R196). -/
def execSetTime (s : State) : Host.Outcome State Fault Refusal := awake (State.serveRequest .setTime State.setTime) s

/-- The clearing pass completes (R194). -/
def execClearingPassComplete (s : State) : Host.Outcome State Fault Refusal := awake State.clearingDone s

/-- Power-on, or the release of the RST pin (R197): every block takes its power-on values. The straps stay (log 4), and the
commands that wait belong to the outside. -/
def execReset (s : State) : Host.Outcome State Fault Refusal :=
  .next { State.reset with pins := { addr := s.pins.addr, msizeHigh := s.pins.msizeHigh }, pending := s.pending }

/-- The RST pin is driven low (R185, R197): nothing is received or sent until its release, and ALARM is released. -/
def execRstPinLow (s : State) : Host.Outcome State Fault Refusal :=
  .next { s with
    pins := { s.pins with rstLow := true, alarmLow := false }
    ltu := { s.ltu with upperSending := none, floorSending := none } }

end Sys2Proof.Machine
end

