-- ==== Sys2Proof/Machine/Ticks.lean ====
section
/-! DEFINITION. The hall tick: the hall clock and every tick count, and what they find due (R86, R87, R116, R122, R123, R133,
R177, R185, R196). -/

namespace Sys2Proof.Machine

/-- A vehicle's counts at a tick in NORMAL or AUTONOMOUS (R86, R87). -/
def Vehicle.tick (x : Vehicle) : Vehicle :=
  match x.status with
  | .idle | .busy => { x with supCount := addSat 50 x.supCount 1 }
  | .lost => { x with retryCount := addSat 50 x.retryCount 1 }
  | .off => x

/-- A press speed record's counts at a tick in NORMAL or AUTONOMOUS (R116). -/
def Speed.tick (x : Speed) : Speed :=
  { x with
    age := add16 x.age 1
    driveSilence := addSat 50 x.driveSilence 1
    countSilence := addSat 50 x.countSilence 1
    interval := x.interval.map fun k => addSat 50 k 1
    holdover := if x.source = .hold then addSat 6000 x.holdover 1 else x.holdover }

namespace State

/-- The counts that run in NORMAL and AUTONOMOUS, the prediction counter among them (R133). -/
def tickRunning (s : State) : State :=
  if s.running then
    let s := (s.mapVehicles Vehicle.tick).mapSpeeds Speed.tick
    s.setPrediction (if 9 ≤ s.fdu.predictionCount then 0 else s.fdu.predictionCount + 1)
  else s

/-- The link count, in NORMAL with a period above it (R177). -/
def tickLink (s : State) : State :=
  if s.sfu.mode = .normal ∧ s.sfu.linkPeriod ≠ 0 ∧ s.sfu.linkCount < s.sfu.linkPeriod then
    s.setLinkCount (s.sfu.linkCount + 1)
  else s

/-- The ALARM pulse falls by one, and the pin follows its level (R185, log 36). -/
def tickPulse (s : State) : State := driveAlarm { s with sfu := { s.sfu with pulse := s.sfu.pulse - 1 } }

/-- What the counts find due (log 7). -/
def dueNow (s : State) : List Due :=
  ((List.finRange 16).filter s.supervisionOver).map .vehicleLost ++
    ((List.finRange 16).filter s.retryOver).map .lostRetry ++
    ((List.finRange 4).filter s.driveSilence).map .driveSilent ++
    ((List.finRange 4).filter s.countSilence).map .countSilent ++
    ((List.finRange 4).filter s.holdoverOver).map .holdover ++ (if s.linkSilent then [.linkSilent] else [])

/-- One hall tick (R196). A prediction tick stays due until it is taken. -/
def hallTick (s : State) : State :=
  let wraps : Bool := s.running && decide (9 ≤ s.fdu.predictionCount)
  let waits := s.due.contains .prediction
  let s := (s.setClock (s.clock + 1)).tickRunning.tickLink.tickPulse
  s.setDue (s.dueNow ++ if wraps || waits then [.prediction] else [])

/-- The ALARM pulse has run out: the pin is released unless a SEVERE flag holds it (R185). -/
def pulseEnd (s : State) : State := if s.sfu.pulse = 0 then s.driveAlarm else s

end State

/-- A hall tick (R196). -/
def execHallTick (s : State) : Host.Outcome State Fault Refusal := awake State.hallTick s

/-- The end of an ALARM pulse (R185). -/
def execAlarmPulseEnd (s : State) : Host.Outcome State Fault Refusal := awake State.pulseEnd s

end Sys2Proof.Machine
end

