-- ==== Sys2Proof/Machine/Transit.lean ====
section
/-! DEFINITION. Transit as a whole: any receive on either port, and the transmitters (R28, R31, R36 to R39, R45, R46, R50). -/

namespace Sys2Proof.Machine

namespace State

/-- The watchers' part of a well-formed RUN, by its action byte (R149): an undefined action sets NODE-MISMATCH. -/
def runWatched (t : Telegram) (s : State) : State :=
  let press := u8 t.body 0
  match (u8 t.body 1).toNat with
  | 1 => s.watchRun t.src press fun p s => s.runStart p (u16 t.body 2) (u8 t.body 4).toNat
  | 2 => s.watchRun t.src press runGood
  | 3 => s.watchRun t.src press fun p s => (s.runEdition p (u8 t.body 4).toNat).askSwap p
  | 4 => s.watchRun t.src press fun p s => s.closeRun p .ended
  | _ => s.mismatch t

/-- A RUN that reaches R42: an ill-formed one is not watched, and sets NODE-MISMATCH before it is queued or dropped (log
33). -/
def runReceived (t : Telegram) (s : State) : State :=
  if t.body.length = runLength then (if s.running then s.runWatched t else s).placeNormal t
  else (s.mismatch t).placeNormal t

/-- A telegram received on the Upper port (R36). -/
def receiveUpper (t : Telegram) (s : State) : State :=
  if t.cls = clsMove then s.upperGate t (moveTaken t)
  else if t.cls = clsRun then s.upperGate t (runReceived t)
  else s.upperGate t (placeNormal t)

/-- The owning blocks' part of a floor telegram that is acted on (R38, R39). A VLOAD with an undefined action has none, and a
SPLICE with an undefined outcome no more than R107 gives every report of a stand (log 9). -/
def floorTaken (t : Telegram) (e : NodeEntry) : State → State :=
  let b := t.body
  if t.cls = clsVpos then forVehicle (vposTaken (u8 b 0) (u8 b 1) (u32 b 2) (u8 b 6)) e
  else if t.cls = clsVload then
    if u8 b 0 = 1 then forVehicle (pickTaken (u8 b 1) (BitVec.ofNat 16 (u16 b 2)) (u32 b 4)) e
    else if u8 b 0 = 2 then forVehicle (dropTaken (u8 b 1) (BitVec.ofNat 16 (u16 b 2)) (u32 b 4)) e
    else id
  else if t.cls = clsVdone then forVehicle (vdoneTaken (u8 b 0) (u8 b 1)) e
  else if t.cls = clsStand then forStand (standTaken (BitVec.ofNat 16 (u16 b 0)) (u32 b 2) (u32 b 6)) e
  else if t.cls = clsSplice then
    if u8 b 0 = 1 then forStand (spliceMadeTaken (u32 b 1) (u32 b 5)) e
    else if u8 b 0 = 2 then forStand (spliceMissedTaken (u32 b 1) (u32 b 5)) e
    else forStand spliceUnlistedTaken e
  else if t.cls = clsBreak then forStand (breakTaken (u32 b 0)) e
  else if t.cls = clsDrive then forPress (driveTaken (u16 b 1)) e
  else if t.cls = clsCount then forPress (countTaken (u16 b 1) (u16 b 3) (u8 b 5)) e
  else id

/-- A telegram received on the Floor port (R38). -/
def receiveFloor (t : Telegram) (s : State) : State := s.floorGate t (floorTaken t)

/-- A completed receive judged (R31): a good one is taken as its port takes it. -/
def receive (port : Port) (rx : Receive) (s : State) : State :=
  match rx.judge, port with
  | none, _ => s.badReceived port
  | some t, .upper => s.receiveUpper t
  | some t, .floor => s.receiveFloor t

/-- An idle port begins to send the head of its queue, Floor urgent ahead of Floor normal (R46, log 5). -/
def transmit (port : Port) (s : State) : State :=
  match port with
  | .upper =>
    match s.ltu.upper with
    | t :: rest => { s with ltu := { s.ltu with upper := rest, upperSending := some t } }
    | [] => s
  | .floor =>
    match s.ltu.urgent, s.ltu.normal with
    | t :: rest, _ => { s with ltu := { s.ltu with urgent := rest, floorSending := some t } }
    | [], t :: rest => { s with ltu := { s.ltu with normal := rest, floorSending := some t } }
    | [], [] => s

/-- The first waiting RESTART HOLD takes a free slot of Floor urgent (R50). -/
def placeRestartHold (s : State) : State :=
  match s.ltu.restartHolds with
  | t :: rest =>
    if s.ltu.urgent.length < Config.urgentSlots then
      { s with ltu := { s.ltu with urgent := s.ltu.urgent ++ [t], restartHolds := rest } }
    else s
  | [] => s

end State

/-! ### The commands -/

/-- A completed receive on a port that fails its checks (R31); one that passes them is taken as good. -/
def execBadReceive (port : Port) (rx : Receive) (s : State) : Host.Outcome State Fault Refusal :=
  awake (State.receive port rx) s

/-- A good Upper telegram that is forwarded (R36). -/
def execUpperForward (t : Telegram) (s : State) : Host.Outcome State Fault Refusal := awake (State.receiveUpper t) s

/-- A good Upper telegram addressed to the part (R36, R37). -/
def execMgmtRequestReceived (t : Telegram) (s : State) : Host.Outcome State Fault Refusal :=
  awake (fun s => s.receiveUpper t) s

/-- A good Floor telegram that is not acted on (R38). -/
def execFloorUnacted (t : Telegram) (s : State) : Host.Outcome State Fault Refusal := awake (State.receiveFloor t) s

/-- A port begins to send (R46). -/
def execTransmitStart (port : Port) (s : State) : Host.Outcome State Fault Refusal := awake (State.transmit port) s

/-- A waiting RESTART HOLD is placed (R50). -/
def execRestartHoldPlaced (s : State) : Host.Outcome State Fault Refusal := awake State.placeRestartHold s

end Sys2Proof.Machine
end

