-- ==== Sys2Proof/Machine/Dispatch.lean ====
section
/-! DEFINITION. The meaning of each command: one arm per constructor of Instr, each a call of the command's own meaning. -/

namespace Sys2Proof.Machine

/-- The effect of one command on everything but the queue of commands. -/
def exec (i : Instr) (s : State) : Host.Outcome State Fault Refusal :=
  match i with
  | .reset => Sys2Proof.Machine.execReset s
  | .clearingPassComplete => Sys2Proof.Machine.execClearingPassComplete s
  | .hallTick => Sys2Proof.Machine.execHallTick s
  | .badReceive port rx => Sys2Proof.Machine.execBadReceive port rx s
  | .upperForward t => Sys2Proof.Machine.execUpperForward t s
  | .mgmtRequestReceived t => Sys2Proof.Machine.execMgmtRequestReceived t s
  | .moveNew dst src rest => Sys2Proof.Machine.execMoveNew dst src rest s
  | .moveCancel dst src rest => Sys2Proof.Machine.execMoveCancel dst src rest s
  | .runStart dst src press run edition => Sys2Proof.Machine.execRunStart dst src press run edition s
  | .runGood dst src press run edition => Sys2Proof.Machine.execRunGood dst src press run edition s
  | .runEdition dst src press run edition => Sys2Proof.Machine.execRunEdition dst src press run edition s
  | .runEnd dst src press run edition => Sys2Proof.Machine.execRunEnd dst src press run edition s
  | .floorUnacted t => Sys2Proof.Machine.execFloorUnacted t s
  | .vpos dst src segment motion load request => Sys2Proof.Machine.execVpos dst src segment motion load request s
  | .vloadPick dst src kind number roll => Sys2Proof.Machine.execVloadPick dst src kind number roll s
  | .vloadDrop dst src kind number roll => Sys2Proof.Machine.execVloadDrop dst src kind number roll s
  | .vdone dst src tag outcome => Sys2Proof.Machine.execVdone dst src tag outcome s
  | .standReport dst src diameter active other => Sys2Proof.Machine.execStandReport dst src diameter active other s
  | .spliceMade dst src old new => Sys2Proof.Machine.execSpliceMade dst src old new s
  | .spliceMissed dst src old new => Sys2Proof.Machine.execSpliceMissed dst src old new s
  | .webBreak dst src roll => Sys2Proof.Machine.execWebBreak dst src roll s
  | .drive dst src press speed => Sys2Proof.Machine.execDrive dst src press speed s
  | .count dst src press good waste reason => Sys2Proof.Machine.execCount dst src press good waste reason s
  | .transmitStart port => Sys2Proof.Machine.execTransmitStart port s
  | .restartHoldPlaced => Sys2Proof.Machine.execRestartHoldPlaced s
  | .alarmPulseEnd => Sys2Proof.Machine.execAlarmPulseEnd s
  | .vehicleLost v => Sys2Proof.Machine.execVehicleLost v s
  | .lostRetryHold v => Sys2Proof.Machine.execLostRetryHold v s
  | .driveSilent p => Sys2Proof.Machine.execDriveSilent p s
  | .countSilent p => Sys2Proof.Machine.execCountSilent p s
  | .holdoverLimit p => Sys2Proof.Machine.execHoldoverLimit p s
  | .predictionTick => Sys2Proof.Machine.execPredictionTick s
  | .searchStep => Sys2Proof.Machine.execSearchStep s
  | .searchComplete => Sys2Proof.Machine.execSearchComplete s
  | .linkFallenSilent => Sys2Proof.Machine.execLinkFallenSilent s
  | .mread => Sys2Proof.Machine.execMread s
  | .mwriteNodes => Sys2Proof.Machine.execMwriteNodes s
  | .mwriteVehicles => Sys2Proof.Machine.execMwriteVehicles s
  | .mwriteSegments => Sys2Proof.Machine.execMwriteSegments s
  | .mwriteRoutes => Sys2Proof.Machine.execMwriteRoutes s
  | .mwritePlaces => Sys2Proof.Machine.execMwritePlaces s
  | .rollAnnounce => Sys2Proof.Machine.execRollAnnounce s
  | .mwriteStands => Sys2Proof.Machine.execMwriteStands s
  | .mwritePlanNext => Sys2Proof.Machine.execMwritePlanNext s
  | .mwriteHall => Sys2Proof.Machine.execMwriteHall s
  | .mwriteOther => Sys2Proof.Machine.execMwriteOther s
  | .start => Sys2Proof.Machine.execStart s
  | .config => Sys2Proof.Machine.execConfig s
  | .restart => Sys2Proof.Machine.execRestart s
  | .partition => Sys2Proof.Machine.execPartition s
  | .resume => Sys2Proof.Machine.execResume s
  | .planReady => Sys2Proof.Machine.execPlanReady s
  | .planSwap => Sys2Proof.Machine.execPlanSwap s
  | .clearFlags => Sys2Proof.Machine.execClearFlags s
  | .setMasks => Sys2Proof.Machine.execSetMasks s
  | .setTime => Sys2Proof.Machine.execSetTime s
  | .blockPlace => Sys2Proof.Machine.execBlockPlace s
  | .unblockPlace => Sys2Proof.Machine.execUnblockPlace s
  | .blockSegment => Sys2Proof.Machine.execBlockSegment s
  | .unblockSegment => Sys2Proof.Machine.execUnblockSegment s
  | .vehicleOff => Sys2Proof.Machine.execVehicleOff s
  | .vehicleOn => Sys2Proof.Machine.execVehicleOn s
  | .writeOff => Sys2Proof.Machine.execWriteOff s
  | .clearZone => Sys2Proof.Machine.execClearZone s
  | .speedForce => Sys2Proof.Machine.execSpeedForce s
  | .speedFree => Sys2Proof.Machine.execSpeedFree s
  | .takeRun => Sys2Proof.Machine.execTakeRun s
  | .clearStarved => Sys2Proof.Machine.execClearStarved s
  | .mrollNone => Sys2Proof.Machine.execMrollNone s
  | .mrollReserve => Sys2Proof.Machine.execMrollReserve s
  | .mrollRelease => Sys2Proof.Machine.execMrollRelease s
  | .mrollHold => Sys2Proof.Machine.execMrollHold s
  | .mrollUnhold => Sys2Proof.Machine.execMrollUnhold s
  | .mrollRemove => Sys2Proof.Machine.execMrollRemove s
  | .rstPinLow => Sys2Proof.Machine.execRstPinLow s
  | .badActionRequest => Sys2Proof.Machine.execBadActionRequest s

end Sys2Proof.Machine
end

