-- ==== Sys2Proof/Safety.lean ====
section
/-! DEFINITION. What holds in every state the part can reach, and the circumstances the statements speak of: a request that
the MGA executes, a report that its owning block acts on, an upper telegram that the part acts on. -/

namespace Sys2Proof.Machine

namespace State

/-! ### Invariants -/

/-- The queues keep within their slots (R37, R45, R152). -/
def queuesFit (s : State) : Prop :=
  s.ltu.urgent.length ≤ Config.urgentSlots ∧ s.ltu.normal.length ≤ Config.normalSlots ∧
    s.ltu.upper.length ≤ Config.upperSlots ∧ s.mga.queue.length ≤ Config.mgaSlots ∧
    s.scu.closed.length ≤ Config.closedSlots

/-- The ALARM pin is low exactly while RST is high and a SEVERE flag is latched and unmasked or a pulse runs (R185). -/
def alarmFollows (s : State) : Prop := s.pins.alarmLow = (!s.pins.rstLow && s.alarmLevel)

/-- The speed estimates, and the nominal speeds that may become one, lie within 0 to 1,500 (R120, R165). -/
def speedsBounded (s : State) : Prop :=
  (∀ p : PressIx, (s.speed p).estimate ≤ Config.maxSpeed) ∧
    (∀ p : PressIx, (s.activePress p).nominal ≤ Config.maxSpeed) ∧
    ∀ p : PressIx, (s.pls.nextPress[p]).nominal ≤ Config.maxSpeed

/-- Call a stands before call b, and they belong to two stands. -/
def callPair (a b : Call) : Prop := a.before b = true ∧ a.stand ≠ b.stand

/-- The call list is ordered by due second and stand number, with one call for each stand at most (R135). -/
def callsOrdered (s : State) : Prop := s.fdu.calls.Pairwise callPair

/-! ### Chains of waits (R64) -/

/-- A chain of waits leads from segment n to a segment: from each segment to its holders, and from a holder to the segment it
waits for. -/
inductive WaitChain (s : State) (n : Nat) : Nat → Prop
  | here : WaitChain s n n
  | next {m k : Nat} {w : VehicleIx} :
    WaitChain s n m → w ∈ (s.seg m).holders → s.waitsFor? w = some k → WaitChain s n k

/-! ### Circumstances -/

/-- No record of the table memory has a parity error. -/
def noParity (s : State) : Prop := s.tmc.badRolls = [] ∧ s.tmc.badPlaces = [] ∧ s.tmc.badRoutes = []

end State

/-- The oldest request of the MGA queue is t, of the row given, and the MGA executes it: the part is awake, past START-UP,
and t passes the form check (R187). -/
def Ready (row : Row) (t : Telegram) (rest : List Telegram) (s : State) : Prop :=
  s.pins.rstLow = false ∧ s.mga.queue = t :: rest ∧ rowOf t = row ∧ s.sfu.mode ≠ .startUp ∧ formCheck t = none

/-- A report from address src is acted on for the subject of a kind: the part is awake, in NORMAL or AUTONOMOUS, is not
addressed itself, and the node table names src as that subject (R38). -/
def Heard (kind : NodeKind) (subject : Nat) (dst src : Byte) (s : State) : Prop :=
  s.pins.rstLow = false ∧ s.running = true ∧ dst ≠ s.ownAddr ∧
    ∃ e, s.node? src = some e ∧ e.kind = kind ∧ e.subject = subject

/-- An upper telegram with this DST is acted on or forwarded: the part is awake, past START-UP and not addressed itself
(R36). -/
def Passed (dst : Byte) (s : State) : Prop :=
  s.pins.rstLow = false ∧ s.sfu.mode ≠ .startUp ∧ dst ≠ s.ownAddr

/-- A well-formed MOVE NEW that passes checks 1 to 9 of R77 for vehicle v. -/
def MoveAllowed (v : VehicleIx) (dst : Byte) (rest : List Byte) (pickup drop : Loc) (s : State) : Prop :=
  Passed dst s ∧ rest.length = 12 ∧ dst = u8 rest 1 ∧ s.sfu.mode = .normal ∧ s.vehicleAt? dst = some v ∧
    ((s.vehicle v).status = .idle ∨ (s.vehicle v).status = .busy) ∧ u8 rest 0 ≠ 0 ∧ (u8 rest 0).toNat < 200 ∧
    (∀ o ∈ (s.vehicle v).outstanding ++ (s.vehicle v).queue, o.tag ≠ u8 rest 0) ∧ (s.vehicle v).queue.length < 4 ∧
    locAt rest 2 = some pickup ∧ locAt rest 5 = some drop ∧ s.locationsOk (u32 rest 8) pickup drop = true

/-- The command that executes a request of a row. -/
def Row.command : Row → Instr
  | .mread => .mread
  | .mwriteNodes => .mwriteNodes
  | .mwriteVehicles => .mwriteVehicles
  | .mwriteSegments => .mwriteSegments
  | .mwriteRoutes => .mwriteRoutes
  | .mwritePlaces => .mwritePlaces
  | .rollAnnounce => .rollAnnounce
  | .mwriteStands => .mwriteStands
  | .mwritePlanNext => .mwritePlanNext
  | .mwriteHall => .mwriteHall
  | .mwriteOther => .mwriteOther
  | .start => .start
  | .config => .config
  | .restart => .restart
  | .partition => .partition
  | .resume => .resume
  | .planReady => .planReady
  | .planSwap => .planSwap
  | .clearFlags => .clearFlags
  | .setMasks => .setMasks
  | .setTime => .setTime
  | .blockPlace => .blockPlace
  | .unblockPlace => .unblockPlace
  | .blockSegment => .blockSegment
  | .unblockSegment => .unblockSegment
  | .vehicleOff => .vehicleOff
  | .vehicleOn => .vehicleOn
  | .writeOff => .writeOff
  | .clearZone => .clearZone
  | .speedForce => .speedForce
  | .speedFree => .speedFree
  | .takeRun => .takeRun
  | .clearStarved => .clearStarved
  | .mrollNone => .mrollNone
  | .mrollReserve => .mrollReserve
  | .mrollRelease => .mrollRelease
  | .mrollHold => .mrollHold
  | .mrollUnhold => .mrollUnhold
  | .mrollRemove => .mrollRemove
  | .badAction => .badActionRequest

end Sys2Proof.Machine
end

