-- ==== Sys2Proof/WellFormed.lean ====
section
/-! DEFINITION. Which commands are well-formed: a good telegram's body is at most 60 bytes (R29), and a telegram row
carries a telegram its row names. The machine takes ill-formed terms too: it judges each telegram as the line would. -/

namespace Sys2Proof

/-- A telegram that the line can carry (R29). -/
def Telegram.wf (t : Telegram) : Bool := decide (t.body.length ≤ Config.maxBody)

/-- A receive holds at least one bit (R28); R31 judges the rest. -/
def Receive.wf (r : Receive) : Bool := decide (0 < r.bytes.length ∨ r.stray ≠ 0)

/-- The check of one command. MOVE rows hold the body behind the kind byte, so they have one byte less. -/
def Instr.wf : Instr → Bool
  | .badReceive _ rx => rx.wf
  | .upperForward t => t.wf
  | .mgmtRequestReceived t => t.wf
  | .floorUnacted t => t.wf
  | .moveNew _ _ rest => decide (rest.length < Config.maxBody)
  | .moveCancel _ _ rest => decide (rest.length < Config.maxBody)
  | .reset | .clearingPassComplete | .hallTick | .runStart _ _ _ _ _ | .runGood _ _ _ _ _ | .runEdition _ _ _ _ _
  | .runEnd _ _ _ _ _ | .vpos _ _ _ _ _ _ | .vloadPick _ _ _ _ _ | .vloadDrop _ _ _ _ _ | .vdone _ _ _ _
  | .standReport _ _ _ _ _ | .spliceMade _ _ _ _ | .spliceMissed _ _ _ _ | .webBreak _ _ _ | .drive _ _ _ _
  | .count _ _ _ _ _ _ | .transmitStart _ | .restartHoldPlaced | .alarmPulseEnd | .vehicleLost _ | .lostRetryHold _
  | .driveSilent _ | .countSilent _ | .holdoverLimit _ | .predictionTick | .searchStep | .searchComplete
  | .linkFallenSilent | .mread | .mwriteNodes | .mwriteVehicles | .mwriteSegments | .mwriteRoutes | .mwritePlaces
  | .rollAnnounce | .mwriteStands | .mwritePlanNext | .mwriteHall | .mwriteOther | .start | .config | .restart
  | .partition | .resume | .planReady | .planSwap | .clearFlags | .setMasks | .setTime | .blockPlace | .unblockPlace
  | .blockSegment | .unblockSegment | .vehicleOff | .vehicleOn | .writeOff | .clearZone | .speedForce | .speedFree
  | .takeRun | .clearStarved | .mrollNone | .mrollReserve | .mrollRelease | .mrollHold | .mrollUnhold | .mrollRemove
  | .rstPinLow | .badActionRequest => true

end Sys2Proof
end

