-- ==== Sys2Proof/Certificates/Slice0/Obligations.lean ====
section
/-! DEFINITION. The statements about the model. Each is a Prop with a name; the provers prove or refute it. -/

open Sys2Proof Sys2Proof.Machine

/-! ### Steps, reset, the clock and the flags -/

/-- The command at the front of the queue runs on the state with the rest of the queue; on an empty queue the part
idles, which is the model's choice (log 1). -/
def Obligations.StepTakesFrontCommand : Prop :=
  (∀ (c : Instr) (rest : List Instr) (s : State),
    step { s with pending := c :: rest } = exec c { s with pending := rest }) ∧
  ∀ s : State, s.pending = [] → step s = .next s

/-- The state after power-on reset: the values R27, R31, R33, R50, R71, R97, R115, R128, R146, R164, R176, R177, R186,
R189, R193 and R197 give. The straps (log 4), the retry interval in force of each vehicle (log 15) and the
transmitters (log 5) are the model's choice. Each invariant holds after reset. -/
def Obligations.ResetState : Prop :=
  (let s := State.reset
   (Sys2Proof.core.reset = s ∧ s.pending = [] ∧ s.due = []) ∧
   (s.sfu.mode = .startUp ∧ s.clock = 0 ∧ s.sfu.collector = 0 ∧ s.sfu.linkPeriod = 0 ∧ s.sfu.linkCount = 0 ∧ s.sfu.pulse = 0) ∧
   (s.pins = { addr := 0, msizeHigh := false, rstLow := false, alarmLow := false } ∧ s.mga.queue = [] ∧ s.mga.partitionWaiting = none) ∧
   (∀ f, s.flag f = { latched := false, masked := false, subject := 0, subjects := 0, tick := 0 }) ∧
   (s.tmc.sizes = { rolls := 1024, places := 512, routes := 256 } ∧ s.tmc.rolls = [] ∧ s.tmc.places = [] ∧
     s.tmc.routes = [] ∧ s.noParity) ∧
   (∀ p, s.place p = { access := 0, zone := 0, blocked := false, occupant := none, claim := none }) ∧
   (s.nd = [] ∧ s.ltu.urgent = [] ∧ s.ltu.normal = [] ∧ s.ltu.upper = [] ∧ s.ltu.restartHolds = [] ∧
     s.ltu.upperErrors = 0 ∧ s.ltu.floorErrors = 0 ∧ s.ltu.upperSending = none ∧ s.ltu.floorSending = none) ∧
   (s.tcu.claimDepth = 3 ∧ (∀ z, s.zone z = { haltOne := false, lost := 0, intruders := 0 }) ∧
     ∀ n, s.seg n = { capacity := 0, zone := 0, blocked := false, holders := [], waiters := [] }) ∧
   (s.vou.nextTag = 200 ∧ s.vou.retryInterval = 10 ∧
     ∀ v, s.vehicle v =
       { home := num v, window := 2, status := .off, beforeLoss := .idle, causes := ⟨false, false, false, false⟩,
         intrusionZones := 0, outstanding := [], queue := [], endLoc := ⟨.home, num v⟩, claims := [], path := [], pointer := 0,
         currentSeg := 0, motion := 0, repLoad := 0, load := .empty, lastReport := 0, supCount := 0, retryCount := 0,
         retryLimit := 10 }) ∧
   (∀ st, s.stand st =
     { press := none, state := .out, active := none, other := .none, claim := none, lr := 0, carry := 0, lres := 0,
       ts := 65535, implausible := 0, deadReckon := false, late := false, lastTick := 0 }) ∧
   (∀ p, s.speed p =
     { estimate := 0, source := .trackPrimary, limiting := false, age := 0, lastDrive := 0, lastCount := 0,
       driveSilence := 0, countSilence := 0, interval := none, pendingInc := 0, holdover := 0 } ∧
     s.speedSettings p = { slew := 120, silence := 20, holdover := 120, floor := 30 }) ∧
   (s.fdu.tolerance = 5 ∧ s.fdu.implausibleLimit = 3 ∧ s.fdu.lateMargin = 100 ∧ s.fdu.starved = 0 ∧ s.fdu.lastStarved = 0 ∧
     s.fdu.lastStarvedTick = 0 ∧ s.fdu.calls = [] ∧ s.fdu.search = none ∧ s.fdu.predictionCount = 0) ∧
   (s.scu.closed = [] ∧ s.scu.scrapped = 0 ∧ ∀ p, s.run? p = none ∧
     s.press p =
     { idleGood := 0, idleWaste := 0, unassigned := 0, monitor := .ok, blockCopies := 0, blockWaste := 0,
       lastRatio := 0, splice := ⟨0, none, none⟩, brk := ⟨0, none, none⟩ }) ∧
   (∀ p : PressIx, s.pls.ready[p] = false ∧ s.activePress p = s.pls.nextPress[p] ∧
     s.activePress p =
     { inUse := false, cutoff := 0, nominal := 0, block := 0, warn := 0, alarm := 0, hyst := 0,
       spliceLen := 0, breakLen := 0, breakLimit := 0 }) ∧
   ∀ st : StandIx, s.activeStand st = s.pls.nextStand[st] ∧
     s.activeStand st = { lead := false, grade := 0, width := 0, minLength := 0, splice := 0, callLead := 0 }) ∧
  State.reset.queuesFit ∧ State.reset.alarmFollows ∧ State.reset.tablesWf = true ∧ State.reset.speedsBounded ∧
    State.reset.callsOrdered

/-- RESET brings the power-on state from any state; with RST low the ALARM pin is released and no command but RESET
changes anything (R185, R197). The straps stay, what is kept while RST is low, and the fields for the telegrams being
sent, which the pin empties, are the model's choice (log 4, log 40, log 5). The clearing pass ends with every record
of the table memory free or 0 with good parity, the mode CONFIG, and the reply of a PARTITION that waits (R193, R194).
Outside START-UP the command changes nothing, which is the model's choice (log 2). -/
def Obligations.ResetPinAndClearingPass : Prop :=
  ((∀ s : State, exec .reset s = .next { State.reset with
     pins := { addr := s.pins.addr, msizeHigh := s.pins.msizeHigh, rstLow := false, alarmLow := false }
     pending := s.pending }) ∧
   (∀ s : State, exec .rstPinLow s = .next { s with
     pins := { s.pins with rstLow := true, alarmLow := false }
     ltu := { s.ltu with upperSending := none, floorSending := none } }) ∧
   ∀ (c : Instr) (s : State), s.pins.rstLow = true → c ≠ .reset → c ≠ .rstPinLow → exec c s = .next s) ∧
  ∀ s : State, s.pins.rstLow = false →
    (s.sfu.mode = .startUp →
      let u : State := { s with
        tmc := { sizes := s.tmc.sizes, rolls := [], places := [], routes := [], badRolls := [], badPlaces := [], badRoutes := [] }
        sfu := { s.sfu with mode := .config }
        mga := { s.mga with partitionWaiting := none } }
      (∀ t, s.mga.partitionWaiting = some t → exec .clearingPassComplete s = .next (u.reply t { result := .ok })) ∧
      (s.mga.partitionWaiting = none → exec .clearingPassComplete s = .next u)) ∧
    (s.sfu.mode ≠ .startUp → exec .clearingPassComplete s = .next s)

/-- The hall clock (R196): it starts at 0, counts every tick in every mode and wraps; SET-TIME writes it and moves
nothing else; the tick counts of R86, R87, R116, R126, R133, R177 and R185 run on the tick; no other command moves the
clock, RESTART and PARTITION among them. That the tick drives the ALARM pin by its level (log 36) and notes what has
run out in the due list (log 7) is the model's choice. What a tick finds due: the counts as the tick leaves them at
their limits, each in the modes and states in which it runs (R86, R87, R122, R123, R133, R178). -/
def Obligations.HallClockCountsTicks : Prop :=
  ((∀ s : State, ∃ t, exec .reset s = .next t ∧ t.clock = 0) ∧
   (∀ s : State, s.pins.rstLow = false → ∃ t, exec .hallTick s = .next t ∧
     t.clock = (if s.clock = 4294967295 then 0 else BitVec.ofNat 32 (s.clock.toNat + 1)) ∧
     (∀ v, t.vehicle v = { s.vehicle v with
       supCount := if s.running ∧ ((s.vehicle v).status = .idle ∨ (s.vehicle v).status = .busy) then
         min 50 ((s.vehicle v).supCount + 1) else (s.vehicle v).supCount
       retryCount := if s.running ∧ (s.vehicle v).status = .lost then min 50 ((s.vehicle v).retryCount + 1)
         else (s.vehicle v).retryCount }) ∧
     (∀ p, t.speed p = if s.running then { s.speed p with
       age := min 65535 ((s.speed p).age + 1)
       driveSilence := min 50 ((s.speed p).driveSilence + 1)
       countSilence := min 50 ((s.speed p).countSilence + 1)
       interval := (s.speed p).interval.map fun k => min 50 (k + 1)
       holdover := if (s.speed p).source = .hold then min 6000 ((s.speed p).holdover + 1) else (s.speed p).holdover }
       else s.speed p) ∧
     t.fdu.predictionCount = (if s.running then (if 9 ≤ s.fdu.predictionCount then 0 else s.fdu.predictionCount + 1)
       else s.fdu.predictionCount) ∧
     (s.running = true → 9 ≤ s.fdu.predictionCount → .prediction ∈ t.due) ∧
     t.sfu.linkCount = (if s.sfu.mode = .normal ∧ s.sfu.linkCount < s.sfu.linkPeriod then s.sfu.linkCount + 1
       else s.sfu.linkCount) ∧
     t.sfu.pulse = s.sfu.pulse - 1 ∧ t.pins.alarmLow = t.alarmLevel ∧
     t = { s with
       clock := t.clock
       vou := { s.vou with vehicles := t.vou.vehicles }
       fdu := { s.fdu with speeds := t.fdu.speeds, predictionCount := t.fdu.predictionCount }
       sfu := { s.sfu with linkCount := t.sfu.linkCount, pulse := t.sfu.pulse }
       pins := { s.pins with alarmLow := t.pins.alarmLow }
       due := t.due }) ∧
   (∀ (t : Telegram) (rest : List Telegram) (s : State), Ready .setTime t rest s →
     exec .setTime s = .next (State.reply t { result := .ok } { s.popped rest with clock := u32 t.body 1 })) ∧
   ∀ (c : Instr) (s : State), c ≠ .reset → c ≠ .hallTick → c ≠ .setTime → ∃ t, exec c s = .next t ∧ t.clock = s.clock) ∧
  ∀ s : State, s.pins.rstLow = false → ∃ t, exec .hallTick s = .next t ∧
    (∀ v : VehicleIx,
      let x := s.vehicle v
      (.vehicleLost v ∈ t.due ↔ s.running = true ∧ (x.status = .idle ∨ x.status = .busy) ∧
        ∃ e, s.vehicleEntry? v = some e ∧ e.period ≤ min 50 (x.supCount + 1)) ∧
      (.lostRetry v ∈ t.due ↔ s.running = true ∧ x.status = .lost ∧ x.retryLimit ≤ min 50 (x.retryCount + 1))) ∧
    (∀ p : PressIx,
      let x := s.speed p
      let q := (s.speedSettings p).silence
      let live : Prop := s.running = true ∧ s.inUse p = true
      (.driveSilent p ∈ t.due ↔ live ∧ x.source = .trackPrimary ∧ q ≤ min 50 (x.driveSilence + 1)) ∧
      (.countSilent p ∈ t.due ↔ live ∧ x.source ≠ .forced ∧ (x.interval ≠ none ∨ x.source = .trackSecondary) ∧
        q ≤ min 50 (x.countSilence + 1)) ∧
      (.holdover p ∈ t.due ↔ live ∧ x.source = .hold ∧
        10 * (s.speedSettings p).holdover ≤ min 6000 (x.holdover + 1))) ∧
    (.linkSilent ∈ t.due ↔ s.sfu.mode = .normal ∧ s.sfu.linkPeriod ≠ 0 ∧ s.sfu.linkPeriod ≤ s.sfu.linkCount + 1) ∧
    (.prediction ∈ t.due ↔ (s.running = true ∧ 9 ≤ s.fdu.predictionCount) ∨ .prediction ∈ s.due)

/-- ALARM is asserted by an unmasked latched SEVERE flag or a running pulse (R185); ALARM_PULSE_END brings the pin to
that level once the pulse has run out (log 36). SET-MASKS replaces every mask by its bit of the map and the pin
follows at once; CLEAR-FLAGS clears every flag, or the subjects of one (R185, R186). A map with bit 30 or 31, a flag
number above 30 and a subject outside the flag's set are refused. That CLEAR-FLAGS 0 clears the ticks too is the
model's reading (log 26). -/
def Obligations.AlarmPinMasksAndClearing : Prop :=
  ((∀ s : State, s.alarmLevel = true ↔
     0 < s.sfu.pulse ∨ ∃ f : Flag, f.severe = true ∧ (s.flag f).latched = true ∧ (s.flag f).masked = false) ∧
   (∀ s : State, s.pins.rstLow = false → s.sfu.pulse = 0 →
     exec .alarmPulseEnd s = .next { s with pins := { s.pins with alarmLow := s.alarmLevel } }) ∧
   ∀ s : State, s.sfu.pulse ≠ 0 → exec .alarmPulseEnd s = .next s) ∧
  (∀ (t : Telegram) (rest : List Telegram) (s : State), Ready .setMasks t rest s → (u32 t.body 1).toNat < 2 ^ 30 →
    ∃ u : State, exec .setMasks s = .next (u.reply t { result := .ok }) ∧
      (∀ f, u.flag f = { s.flag f with masked := (u32 t.body 1).getLsbD f.ix.val }) ∧
      u.pins.alarmLow = u.alarmLevel ∧
      u = { s.popped rest with
        sfu := { s.sfu with flags := u.sfu.flags }
        pins := { s.pins with alarmLow := u.pins.alarmLow } }) ∧
  (∀ (t : Telegram) (rest : List Telegram) (s : State), Ready .setMasks t rest s → 2 ^ 30 ≤ (u32 t.body 1).toNat →
    exec .setMasks s = .next ((s.popped rest).reply t { result := .badValue })) ∧
  ∀ (t : Telegram) (rest : List Telegram) (s : State), Ready .clearFlags t rest s →
    (30 < (u8 t.body 1).toNat → exec .clearFlags s = .next ((s.popped rest).reply t { result := .badIndex })) ∧
    (u8 t.body 1 = 0 → ∃ u : State, exec .clearFlags s = .next (u.reply t { result := .ok }) ∧
      (∀ f, u.flag f = { latched := false, masked := (s.flag f).masked, subject := 0, subjects := 0, tick := 0 }) ∧
      u.pins.alarmLow = u.alarmLevel ∧
      u = { s.popped rest with
        sfu := { s.sfu with flags := u.sfu.flags }
        pins := { s.pins with alarmLow := u.pins.alarmLow } }) ∧
    ∀ f : Flag, (u8 t.body 1).toNat = f.number →
      (f.subjectCount ≠ 0 → 2 ^ f.subjectCount ≤ (u32 t.body 2).toNat →
        exec .clearFlags s = .next ((s.popped rest).reply t { result := .badValue })) ∧
      ((f.subjectCount = 0 ∨ (u32 t.body 2).toNat < 2 ^ f.subjectCount) →
        ∃ u : State, exec .clearFlags s = .next (u.reply t { result := .ok }) ∧
          (f.subjectCount = 0 → u.flag f = { s.flag f with latched := false }) ∧
          (f.subjectCount ≠ 0 → u.flag f = { s.flag f with
            subjects := (s.flag f).subjects &&& ~~~(u32 t.body 2)
            latched := (s.flag f).latched && decide ((s.flag f).subjects &&& ~~~(u32 t.body 2) ≠ 0) }) ∧
          (∀ g, g ≠ f → u.flag g = s.flag g) ∧ u.pins.alarmLow = u.alarmLevel ∧
          u = { s.popped rest with
            sfu := { s.sfu with flags := u.sfu.flags }
            pins := { s.pins with alarmLow := u.pins.alarmLow } })

/-- A setting event of a flag (R184, R185): the record, the NOTICE and its drop (R48), the pulse and the pin, and
nothing else. -/
def Obligations.SettingEventLatchesAndNotices : Prop :=
  ∀ (f : Flag) (n : Nat) (s : State), f ≠ .noticeDropped →
    let t := s.raise f n
    let r := s.flag f
    let fresh : Prop := r.latched = false ∧ r.masked = false
    let word : Word := BitVec.ofNat 32 n
    t.flag f = { latched := true, masked := r.masked, subject := word, tick := s.clock,
                 subjects := if f.subjectCount = 0 then r.subjects else r.subjects ||| BitVec.twoPow 32 (word.toNat - 1) } ∧
    (∀ g, g ≠ f → g ≠ .noticeDropped → t.flag g = s.flag g) ∧
    (¬ fresh → t.ltu = s.ltu ∧ t.sfu.pulse = s.sfu.pulse ∧ t.flag .noticeDropped = s.flag .noticeDropped) ∧
    (fresh → s.sfu.collector = 0 → t.ltu = s.ltu ∧ t.flag .noticeDropped = s.flag .noticeDropped) ∧
    (fresh → s.sfu.collector ≠ 0 → s.ltu.upper.length < 32 →
      t.ltu = { s.ltu with upper := s.ltu.upper ++
        [⟨s.sfu.collector, s.ownAddr, 0x63, [BitVec.ofNat 8 f.number] ++ beWord word ++ beWord s.clock⟩] } ∧
      t.flag .noticeDropped = s.flag .noticeDropped) ∧
    (fresh → s.sfu.collector ≠ 0 → 32 ≤ s.ltu.upper.length →
      t.ltu = s.ltu ∧ (t.flag .noticeDropped).latched = true ∧
      (t.flag .noticeDropped).subject =
        (if (s.flag .noticeDropped).latched = false ∧ (s.flag .noticeDropped).masked = false then 30
          else BitVec.ofNat 32 f.number)) ∧
    (fresh → f.severe = false → t.sfu.pulse = 2) ∧
    (fresh → f.severe = true →
      let dropped : Prop := s.sfu.collector ≠ 0 ∧ 32 ≤ s.ltu.upper.length ∧
        (s.flag .noticeDropped).latched = false ∧ (s.flag .noticeDropped).masked = false
      (¬ dropped → t.sfu.pulse = s.sfu.pulse) ∧ (dropped → t.sfu.pulse = 2)) ∧
    (¬ fresh → t.pins = s.pins) ∧
    (fresh → t.pins.alarmLow = (!s.pins.rstLow && t.alarmLevel)) ∧
    t = { s with
      ltu := t.ltu
      sfu := { s.sfu with flags := t.sfu.flags, pulse := t.sfu.pulse }
      pins := { s.pins with alarmLow := t.pins.alarmLow } }

/-! ### Telegram transit -/

/-- A receive is good exactly when it is, without stray bits, the bytes of a telegram whose body is at most 60 bytes:
six bytes more than the body, LEN naming its length and CHECK the CRC of what goes before (R29, R30, R31). -/
def Obligations.GoodReceiveIsATelegram : Prop :=
  ∀ (rx : Receive) (t : Telegram),
    rx.judge = some t ↔ rx.stray = 0 ∧ t.body.length ≤ 60 ∧ rx.bytes = t.bytes

/-- A bad receive is dropped, its port's counter rises up to 65,535 and LINE-CHECK names the port (R31); a receive
that is good is taken as a telegram of its port, whichever of the two rows carries it, which is the model's choice
(log 2). A row that carries a telegram does what its port does with the receive of that telegram's bytes: the row adds
nothing to the telegram (R28 to R39, R42), which for BAD_RECEIVE with a good receive is the model's choice (log 2). -/
def Obligations.ReceivesAreJudgedAndTaken : Prop :=
  ((∀ (rx : Receive) (s : State), s.pins.rstLow = false → rx.judge = none →
     exec (.badReceive .upper rx) s = .next (State.raise .lineCheck 1
       { s with ltu := { s.ltu with upperErrors := min 65535 (s.ltu.upperErrors + 1) } }) ∧
     exec (.badReceive .floor rx) s = .next (State.raise .lineCheck 2
       { s with ltu := { s.ltu with floorErrors := min 65535 (s.ltu.floorErrors + 1) } })) ∧
   ∀ (rx : Receive) (t : Telegram) (s : State), rx.judge = some t →
     exec (.badReceive .upper rx) s = exec (.upperForward t) s ∧
     exec (.badReceive .floor rx) s = exec (.floorUnacted t) s) ∧
  ∀ (rx : Receive) (dst src : Byte) (s : State),
    let good (cls : Byte) (body : List Byte) : Prop := rx.judge = some ⟨dst, src, cls, body⟩
    let upper (c : Instr) : Prop := exec (.badReceive .upper rx) s = exec c s
    let floor (c : Instr) : Prop := exec (.badReceive .floor rx) s = exec c s
    (∀ rest, good 0x11 (1 :: rest) → upper (.moveNew dst src rest)) ∧
    (∀ rest, good 0x11 (2 :: rest) → upper (.moveCancel dst src rest)) ∧
    (∀ (press edition : Byte) (run : Half),
      (good 0x12 (runBody press 1 run edition) → upper (.runStart dst src press run edition)) ∧
      (good 0x12 (runBody press 2 run edition) → upper (.runGood dst src press run edition)) ∧
      (good 0x12 (runBody press 3 run edition) → upper (.runEdition dst src press run edition)) ∧
      (good 0x12 (runBody press 4 run edition) → upper (.runEnd dst src press run edition))) ∧
    (∀ segment motion load request, good 0x21 (vposBody segment motion load request) →
      floor (.vpos dst src segment motion load request)) ∧
    (∀ kind number roll,
      (good 0x22 (vloadBody 1 kind number roll) → floor (.vloadPick dst src kind number roll)) ∧
      (good 0x22 (vloadBody 2 kind number roll) → floor (.vloadDrop dst src kind number roll))) ∧
    (∀ tag outcome, good 0x23 [tag, outcome] → floor (.vdone dst src tag outcome)) ∧
    (∀ diameter active other, good 0x31 (standBody diameter active other) →
      floor (.standReport dst src diameter active other)) ∧
    (∀ old new,
      (good 0x32 (spliceBody 1 old new) → floor (.spliceMade dst src old new)) ∧
      (good 0x32 (spliceBody 2 old new) → floor (.spliceMissed dst src old new))) ∧
    (∀ roll, good 0x33 (beWord roll) → floor (.webBreak dst src roll)) ∧
    (∀ press speed, good 0x41 (driveBody press speed) → floor (.drive dst src press speed)) ∧
    ∀ press good' waste reason, good 0x42 (countBody press good' waste reason) →
      floor (.count dst src press good' waste reason)

/-- A good Upper telegram restarts link supervision (R51); one to the part joins the MGA queue or is dropped with
MGMT-OVERFLOW (R37); one of a class that no block takes, and in START-UP every other one, goes unchanged to Floor
normal (R36). That a MOVE is among these in START-UP is the model's choice (log 56). The Floor telegrams that no block
acts on (R38): one to the part is dropped with FLOOR-MGMT; in START-UP every other is forwarded; one from an unknown
node, of a class its node may not send, or not well-formed sets NODE-MISMATCH and is forwarded; in CONFIG a
well-formed one is forwarded. Telegrams whose code byte no table lists, and RUNs of another form, which the spec
leaves to the model: a well-formed MOVE of such a kind is refused by the mode or with BAD-FORMAT (R96, R178, R191; log
9), a VLOAD or SPLICE of such an action is forwarded (log 9), but for the ARM-MISMATCH that R107 sets for any report of
a stand without a press, an ill-formed RUN sets NODE-MISMATCH in every mode and an undefined one where it is watched
(R42, R149; log 33), each before it is forwarded. -/
def Obligations.PortsForwardWhatNoBlockTakes : Prop :=
  (∀ (t : Telegram) (s : State), s.pins.rstLow = false → t.wf = true →
     let u : State := { s with sfu := { s.sfu with linkCount := 0 } }
     (t.dst = s.ownAddr → s.mga.queue.length < 4 →
       exec (.mgmtRequestReceived t) s = .next { u with mga := { s.mga with queue := s.mga.queue ++ [t] } }) ∧
     (t.dst = s.ownAddr → 4 ≤ s.mga.queue.length →
       exec (.mgmtRequestReceived t) s = .next (u.raise .mgmtOverflow t.src.toNat)) ∧
     (t.dst ≠ s.ownAddr → (s.sfu.mode = .startUp ∨ (t.cls ≠ clsMove ∧ t.cls ≠ clsRun)) →
       (s.ltu.normal.length < 24 →
         exec (.upperForward t) s = .next { u with ltu := { s.ltu with normal := s.ltu.normal ++ [t] } }) ∧
       (24 ≤ s.ltu.normal.length → exec (.upperForward t) s = .next (u.raise .queueOverflow 2)))) ∧
  (∀ (t : Telegram) (s : State), s.pins.rstLow = false → t.wf = true →
     (t.dst = s.ownAddr → exec (.floorUnacted t) s = .next (s.raise .floorMgmt t.src.toNat)) ∧
     (t.dst ≠ s.ownAddr → s.sfu.mode = .startUp → exec (.floorUnacted t) s = .next (s.placeUpper t)) ∧
     (t.dst ≠ s.ownAddr → s.sfu.mode ≠ .startUp →
       (s.node? t.src = none →
         exec (.floorUnacted t) s = .next ((s.raise .nodeMismatch t.src.toNat).placeUpper t)) ∧
       ∀ e, s.node? t.src = some e →
         ((e.kind.allows t.cls = false ∨ floorLength t.cls ≠ some t.body.length) →
           exec (.floorUnacted t) s = .next ((s.raise .nodeMismatch t.src.toNat).placeUpper t)) ∧
         (e.kind.allows t.cls = true → floorLength t.cls = some t.body.length → s.sfu.mode = .config →
           exec (.floorUnacted t) s = .next (s.placeUpper t)))) ∧
  (∀ (dst src kind : Byte) (rest : List Byte) (s : State), Passed dst s → kind ≠ 1 → kind ≠ 2 → rest.length < 60 →
    let u := s.setLinkCount 0
    let tag := u8 rest 0
    let answer (t : State) : Prop := exec (.upperForward ⟨dst, src, 0x11, kind :: rest⟩) s = .next t
    (rest.length ≠ 12 ∨ dst ≠ u8 rest 1 →
      answer ((u.refuseTo src tag (u8 rest 1) .badFormat).raise .nodeMismatch src.toNat)) ∧
    (rest.length = 12 → dst = u8 rest 1 →
      (s.sfu.mode = .config → answer (u.refuseTo src tag dst .notRunning)) ∧
      (s.sfu.mode = .autonomous → answer (u.refuseTo src tag dst .autonomous)) ∧
      (s.sfu.mode = .normal → answer (u.refuseTo src tag dst .badFormat)))) ∧
  (∀ (dst src : Byte) (body : List Byte) (s : State), Passed dst s → body.length ≤ 60 →
    let t : Telegram := ⟨dst, src, 0x12, body⟩
    let u := s.setLinkCount 0
    (body.length ≠ 5 → exec (.upperForward t) s = .next ((u.raise .nodeMismatch src.toNat).placeNormal t)) ∧
    (body.length = 5 → (u8 body 1 = 0 ∨ 4 < (u8 body 1).toNat) →
      (s.running = true → exec (.upperForward t) s = .next ((u.raise .nodeMismatch src.toNat).placeNormal t)) ∧
      (s.running = false → exec (.upperForward t) s = .next (u.placeNormal t)))) ∧
  ∀ (dst src code : Byte) (rest : List Byte) (s : State), code ≠ 1 → code ≠ 2 →
    (∀ v : VehicleIx, Heard .vehicle (num v) dst src s → rest.length = 7 →
      exec (.floorUnacted ⟨dst, src, 0x22, code :: rest⟩) s = .next (s.placeUpper ⟨dst, src, 0x22, code :: rest⟩)) ∧
    ∀ st : StandIx, Heard .stand (num st) dst src s → rest.length = 8 →
      let t : Telegram := ⟨dst, src, 0x32, code :: rest⟩
      ((s.stand st).press = none → exec (.floorUnacted t) s = .next ((s.raise .armMismatch (num st)).placeUpper t)) ∧
      ((s.stand st).press ≠ none → exec (.floorUnacted t) s = .next (s.placeUpper t))

/-- A telegram joins the tail of its queue, or finds it full and is dropped with the flag of its class (R45, R47,
R48). A RESTART HOLD that waits has been placed before (log 31). A port begins to send the head of its queue, Floor
urgent ahead of Floor normal, and changes nothing else (R46); a waiting RESTART HOLD takes a free slot of Floor
urgent, in order (R50). That the port is idle and keeps the telegram it sends (log 5), and that a command with nothing
to place changes nothing (log 2), is the model's choice. The telegrams that the part makes for a vehicle's orders and
halts: REFUSE, RELEASE, HOLD and the VDONE on behalf (R32, R44, R85, R92), none of them to an absent address, and the
codes they carry. -/
def Obligations.TransmitQueuesKeepTheirSlots : Prop :=
  (∀ (t : Telegram) (s : State),
     (s.ltu.restartHolds = [] → s.ltu.urgent.length < 8 →
       s.placeUrgent t = { s with ltu := { s.ltu with urgent := s.ltu.urgent ++ [t] } }) ∧
     (s.ltu.restartHolds = [] → 8 ≤ s.ltu.urgent.length → s.placeUrgent t = s.raise .queueOverflow 1) ∧
     (s.ltu.normal.length < 24 → s.placeNormal t = { s with ltu := { s.ltu with normal := s.ltu.normal ++ [t] } }) ∧
     (24 ≤ s.ltu.normal.length → s.placeNormal t = s.raise .queueOverflow 2) ∧
     (s.ltu.upper.length < 32 →
       s.placeUpper t = { s with ltu := { s.ltu with upper := s.ltu.upper ++ [t] } } ∧
       s.placeAnswer t = { s with ltu := { s.ltu with upper := s.ltu.upper ++ [t] } }) ∧
     (32 ≤ s.ltu.upper.length →
       s.placeUpper t = s.raise .queueOverflow 3 ∧ s.placeAnswer t = s.raise .upperOverflow t.dst.toNat)) ∧
  (∀ (s : State), s.pins.rstLow = false →
     (∀ t rest, s.ltu.upper = t :: rest →
       exec (.transmitStart .upper) s = .next { s with ltu := { s.ltu with upper := rest, upperSending := some t } }) ∧
     (∀ t rest, s.ltu.urgent = t :: rest →
       exec (.transmitStart .floor) s = .next { s with ltu := { s.ltu with urgent := rest, floorSending := some t } }) ∧
     (∀ t rest, s.ltu.urgent = [] → s.ltu.normal = t :: rest →
       exec (.transmitStart .floor) s = .next { s with ltu := { s.ltu with normal := rest, floorSending := some t } }) ∧
     (∀ t rest, s.ltu.restartHolds = t :: rest → s.ltu.urgent.length < 8 →
       exec .restartHoldPlaced s = .next { s with ltu := { s.ltu with urgent := s.ltu.urgent ++ [t], restartHolds := rest } }) ∧
     ((s.ltu.restartHolds = [] ∨ 8 ≤ s.ltu.urgent.length) → exec .restartHoldPlaced s = .next s)) ∧
  (∀ (dst tag addr : Byte) (r : Reason) (s : State),
    s.refuseTo 0 tag addr r = s ∧
    (dst ≠ 0 → s.refuseTo dst tag addr r = s.placeAnswer ⟨dst, s.ownAddr, 0x62, [0x11, tag, addr, r.code]⟩)) ∧
  (∀ (v : VehicleIx) (o : Order) (s : State),
    (o.reply = 0 → s.vdoneOnBehalf v o = s) ∧
    (o.reply ≠ 0 → ∀ e, s.vehicleEntry? v = some e →
      s.vdoneOnBehalf v o = s.placeUpper ⟨o.reply, s.ownAddr, 0x23, [o.tag, 4, e.addr]⟩)) ∧
  (∀ (v : VehicleIx) (s : State),
    (s.vehicleEntry? v = none → s.sendRelease v = s ∧ s.sendHold v = s ∧ s.sendHoldLost v = s) ∧
    ∀ e, s.vehicleEntry? v = some e →
      s.sendRelease v = s.placeUrgent ⟨e.addr, s.ownAddr, 0x53, []⟩ ∧
      s.sendHold v = s.placeUrgent ⟨e.addr, s.ownAddr, 0x52, [(s.vehicle v).causes.byte]⟩ ∧
      s.sendHoldLost v = s.placeUrgent ⟨e.addr, s.ownAddr, 0x52, [0x10 ||| (s.vehicle v).causes.byte]⟩) ∧
  (∀ c : Causes,
    c.byte.getLsbD 0 = c.zone ∧ c.byte.getLsbD 1 = c.deadlock ∧ c.byte.getLsbD 2 = c.management ∧
    c.byte.getLsbD 3 = c.intrusion ∧ c.byte.toNat < 16) ∧
  [Reason.notRunning, .autonomous, .unknownVehicle, .vehicleOff, .vehicleLost, .badTag, .tagInUse, .queueFull, .badLocation,
    .rollState, .reservedRoll, .locationOccupied, .locationClaimed, .routeMissing, .routeBlocked, .notFound, .badFormat].map
    Reason.code = (List.range 17).map fun k => BitVec.ofNat 8 (k + 1)

/-! ### Move orders -/

/-- A MOVE is refused by its form (R40) and then by the first of checks 1 to 9 that fails (R77), with one REFUSE to
its sender; an ill-formed one, NEW or CANCEL, also sets NODE-MISMATCH. -/
def Obligations.MoveChecksInOrder : Prop :=
  ∀ (dst src : Byte) (rest : List Byte) (s : State), Passed dst s → rest.length < 60 →
    let u := s.setLinkCount 0
    let tag := u8 rest 0
    let refused (r : Reason) : Prop := exec (.moveNew dst src rest) s = .next (u.refuseTo src tag dst r)
    ((rest.length ≠ 12 ∨ dst ≠ u8 rest 1) →
      exec (.moveNew dst src rest) s =
        .next ((u.refuseTo src (u8 rest 0) (u8 rest 1) .badFormat).raise .nodeMismatch src.toNat) ∧
      exec (.moveCancel dst src rest) s =
        .next ((u.refuseTo src (u8 rest 0) (u8 rest 1) .badFormat).raise .nodeMismatch src.toNat)) ∧
    (rest.length = 12 → dst = u8 rest 1 →
      (s.sfu.mode = .config → refused .notRunning) ∧
      (s.sfu.mode = .autonomous → refused .autonomous) ∧
      (s.sfu.mode = .normal →
        (s.vehicleAt? dst = none → refused .unknownVehicle) ∧
        ∀ v, s.vehicleAt? dst = some v →
          let x := s.vehicle v
          (x.status = .off → refused .vehicleOff) ∧
          (x.status = .lost → refused .vehicleLost) ∧
          (x.status = .idle ∨ x.status = .busy →
            (tag = 0 ∨ 200 ≤ tag.toNat → refused .badTag) ∧
            (tag ≠ 0 → tag.toNat < 200 →
              ((∃ o ∈ x.outstanding ++ x.queue, o.tag = tag) → refused .tagInUse) ∧
              ((∀ o ∈ x.outstanding ++ x.queue, o.tag ≠ tag) →
                (4 ≤ x.queue.length → refused .queueFull) ∧
                (x.queue.length < 4 →
                  (locAt rest 2 = none ∨ locAt rest 5 = none → refused .badLocation) ∧
                  ∀ pickup drop, locAt rest 2 = some pickup → locAt rest 5 = some drop →
                    s.locationsOk (u32 rest 8) pickup drop = false → refused .badLocation))))))

/-- Checks 10 to 15 of a MOVE NEW in their order (R77, R78), and its admission when it passes them, over records with
good parity. An admitted order joins the tail of its vehicle's hold queue (R78); while the vehicle is halted it waits
there, with the drop claim it takes at a place: nothing else changes. Here the records have good parity. What checks 9
to 15 look at (R77, R57, R78): the kinds and ranges of the two locations, where the roll stands and whose it is, what
stands at the drop and who has claimed it, the route of each leg and its segments, and where a leg starts. Here the
records have good parity and one call at most names the roll. -/
def Obligations.MoveChecksTenToFifteenAdmit : Prop :=
  (∀ (v : VehicleIx) (dst src : Byte) (rest : List Byte) (pickup drop : Loc) (s : State),
     MoveAllowed v dst rest pickup drop s → s.noParity →
     let u := s.setLinkCount 0
     let tag := u8 rest 0
     let roll := u32 rest 8
     let legs := s.lookupLegs (s.plannedStart v) pickup drop
     let refused (r : Reason) : Prop := exec (.moveNew dst src rest) s = .next (u.refuseTo src tag dst r)
     let byRoute : Prop :=
       (legs.1 = .missing ∨ legs.2.1 = .missing → refused .routeMissing) ∧
       (legs.1 ≠ .missing → legs.2.1 ≠ .missing →
         (legs.1.clear? = none ∨ legs.2.1.clear? = none ∨ s.dropBlocked drop = true → refused .routeBlocked) ∧
         (legs.1.clear? ≠ none → legs.2.1.clear? ≠ none → s.dropBlocked drop = false →
           exec (.moveNew dst src rest) s = .next (u.accept v .upper src tag pickup drop roll)))
     (roll = 0 → byRoute) ∧
     (roll ≠ 0 →
       (s.rollOk v roll pickup = false → refused .rollState) ∧
       (s.rollOk v roll pickup = true →
         (s.reservedElsewhere roll drop = true → refused .reservedRoll) ∧
         (s.reservedElsewhere roll drop = false →
           (s.dropOccupied drop = true → refused .locationOccupied) ∧
           (s.dropOccupied drop = false →
             (s.dropClaimed drop = true → refused .locationClaimed) ∧
             (s.dropClaimed drop = false → byRoute)))))) ∧
  (∀ (v : VehicleIx) (src : Source) (reply tag : Byte) (pickup drop : Loc) (roll : RollId) (s : State),
     (s.vehicle v).causes.none = false → s.noParity →
     let o (claim : DropHold) : Order :=
       { tag := tag, source := src, reply := reply, pickup := pickup, drop := drop, roll := roll, claim := claim, link := none
         leg1 := [], leg2 := [], progress := if pickup.kind = .none then .toDrop else .toPickup }
     let queued (claim : DropHold) : State := s.setVehicle v { s.vehicle v with queue := (s.vehicle v).queue ++ [o claim] }
     (roll = 0 ∨ drop.kind = .dock ∨ drop.kind = .waste →
       s.accept v src reply tag pickup drop roll = queued .none) ∧
     (roll ≠ 0 → drop.kind = .place →
       s.accept v src reply tag pickup drop roll =
         (queued .held).setPlace drop.num { s.place drop.num with claim := some ⟨v, tag⟩ }) ∧
     (roll ≠ 0 → ∀ st, drop = standLoc st → s.call? st = none →
       ((s.stand st).other = .none → s.accept v src reply tag pickup drop roll =
         (queued .held).setStand st { s.stand st with claim := some ⟨v, tag⟩ }) ∧
       (∀ id, (s.stand st).other = .butt id → s.accept v src reply tag pickup drop roll = queued .pending))) ∧
  (∀ (roll : RollId) (pickup drop : Loc) (s : State),
    let within (l : Loc) : Prop := 1 ≤ l.num ∧ l.num ≤ match l.kind with
      | .place => s.tmc.sizes.places | .stand => 24 | .dock => 8 | .waste => 4 | .home => 16 | .segment => 255 | .none => 0
    s.locationsOk roll pickup drop = true ↔
      (pickup.kind = .none ∨
        ((pickup.kind = .place ∨ pickup.kind = .stand ∨ pickup.kind = .dock) ∧ roll ≠ 0 ∧ within pickup)) ∧
      (drop.kind = .place ∨ drop.kind = .stand ∨ drop.kind = .dock ∨ drop.kind = .waste ∨ (drop.kind = .home ∧ roll = 0)) ∧
      within drop) ∧
  (∀ (v : VehicleIx) (roll : RollId) (pickup : Loc) (s : State), s.rollOk v roll pickup = true ↔
    ∃ k r, s.findRoll roll = some (k, r) ∧
      ((∃ d, r.status = .announced d ∧ pickup = ⟨.dock, d⟩) ∨
        (∃ p, (r.status = .stored p ∨ ∃ o, r.status = .reserved p o) ∧ pickup = ⟨.place, p⟩) ∨
        (∃ st, r.status = .butt st ∧ pickup = ⟨.stand, num st⟩) ∨ (r.status = .carried (some v) ∧ pickup.kind = .none)) ∧
      ∀ w, ∀ o ∈ (s.vehicle w).outstanding ++ (s.vehicle w).queue, ¬ (o.roll = roll ∧ o.progress = .toPickup)) ∧
  (∀ (roll : RollId) (drop : Loc) (s : State),
    let names (c : Call) : Prop := c.phase = .selected roll ∨ ∃ l, c.phase = .ordered roll l
    (∀ c ∈ s.fdu.calls, ∀ d ∈ s.fdu.calls, names c → names d → c = d) →
    (s.reservedElsewhere roll drop = true ↔
      (∃ c ∈ s.fdu.calls, names c ∧ drop ≠ ⟨.stand, num c.stand⟩) ∨
        ∃ k r p st, s.findRoll roll = some (k, r) ∧ r.status = .reserved p (.call st) ∧ drop ≠ ⟨.stand, num st⟩)) ∧
  (∀ (drop : Loc) (s : State),
    let anyOrder (f : Order → Prop) : Prop := ∃ w, ∃ o ∈ (s.vehicle w).outstanding ++ (s.vehicle w).queue, f o
    let pending : Prop := anyOrder fun o => o.claim = .pending ∧ o.drop = drop
    (∀ p, drop = ⟨.place, p⟩ →
      (s.dropOccupied drop = true ↔ (s.place p).occupant ≠ none) ∧
      (s.dropClaimed drop = true ↔ (s.place p).claim ≠ none ∨ pending) ∧
      (s.dropBlocked drop = true ↔ (s.place p).blocked = true)) ∧
    (∀ st : StandIx, drop = ⟨.stand, num st⟩ →
      (s.dropOccupied drop = true ↔ (∃ id, (s.stand st).other = .standby id) ∨
        ((∃ id, (s.stand st).other = .butt id) ∧ ¬ anyOrder fun o => o.pickup = drop ∧ o.progress = .toPickup)) ∧
      (s.dropClaimed drop = true ↔ (s.stand st).claim ≠ none ∨ pending) ∧ s.dropBlocked drop = false) ∧
    (drop.kind = .dock ∨ drop.kind = .waste →
      s.dropOccupied drop = false ∧ (s.dropClaimed drop = true ↔ pending) ∧ s.dropBlocked drop = false)) ∧
  (∀ (v : VehicleIx) (s : State),
    ((s.vehicle v).queue = [] → s.plannedStart v = (s.vehicle v).endLoc) ∧
    ∀ before o, (s.vehicle v).queue = before ++ [o] → s.plannedStart v = o.drop) ∧
  (∀ (a b : Loc) (s : State), s.noParity →
    let cut (l : Loc) : Prop := l.kind = .place ∧ (s.place l.num).access = 0
    (s.lookup a b).2 = s ∧
    (a = b → (s.lookup a b).1 = .clear []) ∧
    (a ≠ b → cut a ∨ cut b → (s.lookup a b).1 = .missing) ∧
    (a ≠ b → ¬ cut a → ¬ cut b →
      ((∀ e ∈ s.tmc.routes, ¬ (e.2.start = a ∧ e.2.goal = b)) → (s.lookup a b).1 = .missing) ∧
      ∀ e ∈ s.tmc.routes, e.2.start = a → e.2.goal = b →
        (∀ f ∈ s.tmc.routes, f.2.start = a → f.2.goal = b → f = e) →
        let free : Prop := ∀ n ∈ e.2.leg, (s.seg n).capacity ≠ 0 ∧ (s.seg n).blocked = false
        (free → (s.lookup a b).1 = .clear e.2.leg) ∧ (¬ free → (s.lookup a b).1 = .blocked e.2.leg))) ∧
  (∀ (start pickup drop : Loc) (s : State), s.noParity →
    (pickup.kind = .none → s.lookupLegs start pickup drop = (.clear [], (s.lookup start drop).1, s)) ∧
    (pickup.kind ≠ .none →
      s.lookupLegs start pickup drop = ((s.lookup start pickup).1, (s.lookup pickup drop).1, s))) ∧
  ∀ l : List Nat, (Leg.clear l).clear? = some l ∧ (Leg.blocked l).clear? = none ∧ Leg.missing.clear? = none

/-- A travel order for an IDLE vehicle with nothing on its path is forwarded at once (R80, R41): it becomes
outstanding, its leg becomes the path, the vehicle is seated, becomes BUSY and ends at the drop, and the MOVE with
both legs joins Floor normal. An order with a roll for a free IDLE vehicle is forwarded at once with both legs (R78,
R80, R41), its drop claimed: HELD at a place and on an empty arm, PENDING on an arm that holds a BUTT, none at a dock
or a waste bay. Here no call is open for the stand. The vehicle takes its occupied claim on its current segment, when
that has room, at the path pointer when the entry there is that segment (R59, R58). The failure of a forwarding (R80,
R49). Floor normal full, the forwarded MOVE is dropped and the order undone: the vehicle is IDLE again, ends on its
current segment or at home, and a REFUSE with QUEUE-FULL follows. A queued order whose leg is missing or blocked when
the halt cause set empties leaves the queue with a REFUSE and nothing else; a head that may not be forwarded stays.
Here the vehicle's current segment is not configured, it waits nowhere, and the records have good parity. -/
def Obligations.OrderIsForwardedOrFails : Prop :=
  (∀ (v : VehicleIx) (dst src : Byte) (rest : List Byte) (pickup drop : Loc) (leg : List Nat) (e : NodeEntry) (s : State),
     MoveAllowed v dst rest pickup drop s → s.noParity → u32 rest 8 = 0 →
     let x := s.vehicle v
     x.status = .idle → x.causes.none = true → x.queue = [] → x.outstanding = [] → x.path = [] → x.claims = [] →
     0 < x.window → s.vehicleEntry? v = some e → s.ltu.normal.length < 24 →
     pickup.kind = .none → (s.lookup x.endLoc drop).1 = .clear leg → s.dropBlocked drop = false →
     let o : Order :=
       { tag := u8 rest 0, source := .upper, reply := src, pickup := pickup, drop := drop, roll := 0, claim := .none
         link := none, leg1 := [], leg2 := leg, progress := .toDrop }
     let u := (s.setLinkCount 0).setVehicle v
       { x with outstanding := [o], path := leg.map fun n => ⟨n, o.tag⟩, pointer := 0 }
     ∃ t, exec (.moveNew dst src rest) s = .next t ∧
       t = (((u.seat v).updVehicle v fun y => { y with endLoc := drop, status := .busy }).placeNormal
         ⟨e.addr, src, 0x11, forwardedMoveBody o e.addr⟩) ∧
       t.ltu.normal = s.ltu.normal ++ [⟨e.addr, src, 0x11, forwardedMoveBody o e.addr⟩] ∧
       (t.vehicle v).status = .busy ∧ (t.vehicle v).outstanding = [o] ∧ (t.vehicle v).queue = []) ∧
  ((∀ (v : VehicleIx) (dst src : Byte) (rest : List Byte) (pickup drop : Loc) (leg1 leg2 : List Nat) (e : NodeEntry) (s : State),
     MoveAllowed v dst rest pickup drop s → s.noParity → u32 rest 8 ≠ 0 →
     let x := s.vehicle v
     x.status = .idle → x.causes = ⟨false, false, false, false⟩ → x.queue = [] → x.outstanding = [] → x.path = [] →
     x.claims = [] → 0 < x.window → s.vehicleEntry? v = some e → s.ltu.normal.length < 24 →
     s.refusedRoll v (u32 rest 8) pickup drop = none → (∀ st, drop = standLoc st → s.call? st = none) →
     (s.lookupLegs x.endLoc pickup drop).1 = .clear leg1 → (s.lookupLegs x.endLoc pickup drop).2.1 = .clear leg2 →
     s.dropBlocked drop = false →
     let o (claim : DropHold) : Order :=
       { tag := u8 rest 0, source := .upper, reply := src, pickup := pickup, drop := drop, roll := u32 rest 8, claim := claim
         link := none, leg1 := leg1, leg2 := leg2, progress := if pickup.kind = .none then .toDrop else .toPickup }
     let answer (claim : DropHold) (claimed : State → State) : Prop :=
       exec (.moveNew dst src rest) s = .next (State.placeNormal ⟨e.addr, src, 0x11, forwardedMoveBody (o claim) e.addr⟩
         ((((claimed (s.setLinkCount 0)).setVehicle v
             { x with outstanding := [o claim], path := (leg1 ++ leg2).map fun n => ⟨n, u8 rest 0⟩, pointer := 0 }).seat v).updVehicle v
           fun y => { y with endLoc := drop, status := .busy }))
     (drop.kind = .dock ∨ drop.kind = .waste → answer .none id) ∧
     (drop.kind = .place →
       answer .held fun u => u.setPlace drop.num { s.place drop.num with claim := some ⟨v, u8 rest 0⟩ }) ∧
     ∀ st, drop = standLoc st →
       ((s.stand st).other = .none →
         answer .held fun u => u.setStand st { s.stand st with claim := some ⟨v, u8 rest 0⟩ }) ∧
       (∀ b, (s.stand st).other = .butt b → answer .pending id)) ∧
   ∀ (v : VehicleIx) (s : State),
     let x := s.vehicle v
     let c := x.currentSeg
     ((s.seg c).capacity ≤ (s.seg c).holders.length → s.seat v = s) ∧
     ((s.seg c).holders.length < (s.seg c).capacity → x.claims = [] →
       let seated (pos : Option Nat) : State :=
         (s.setSeg c { s.seg c with
           holders := (s.seg c).holders ++ [v], waiters := (s.seg c).waiters.filter (· ≠ v) }).setVehicle v
           { x with claims := [⟨c, pos⟩] }
       (∀ e, x.path[x.pointer]? = some e → e.seg = c → s.seat v = seated (some x.pointer)) ∧
       ((∀ e, x.path[x.pointer]? = some e → e.seg ≠ c) → s.seat v = seated none))) ∧
  (∀ (v : VehicleIx) (dst src : Byte) (rest : List Byte) (pickup drop : Loc) (leg : List Nat) (e : NodeEntry) (s : State),
    MoveAllowed v dst rest pickup drop s → s.noParity → u32 rest 8 = 0 →
    let x := s.vehicle v
    x.status = .idle → x.causes.none = true → x.queue = [] → x.outstanding = [] → x.path = [] → x.claims = [] →
    x.pointer = 0 → 0 < x.window → s.vehicleEntry? v = some e → 24 ≤ s.ltu.normal.length → s.waitsFor? v = none →
    (s.seg x.currentSeg).capacity = 0 →
    pickup.kind = .none → (s.lookup x.endLoc drop).1 = .clear leg → s.dropBlocked drop = false →
    exec (.moveNew dst src rest) s = .next
      ((((s.setLinkCount 0).raise .queueOverflow 2).setVehicle v
        { x with endLoc := if x.currentSeg = 0 then ⟨.home, x.home⟩ else ⟨.segment, x.currentSeg⟩ }).refuseTo src (u8 rest 0)
          e.addr .queueFull)) ∧
  (∀ (v : VehicleIx) (t : Telegram) (rest : List Telegram) (o : Order) (e : NodeEntry) (s : State),
    Ready .mwriteVehicles t rest s → reqCount t = 1 → reqIndex t = num v → s.sfu.mode = .normal → s.noParity →
    let x := s.vehicle v
    u8 t.body 4 = 5 → u16 t.body 5 = x.home → 1 ≤ x.home → x.home ≤ 16 → (u8 t.body 7).toNat = x.window → 1 ≤ x.window →
    x.window ≤ 3 → (u8 t.body 8).getLsbD 2 = false → x.causes = ⟨false, false, true, false⟩ → x.status = .idle →
    x.outstanding = [] → x.queue = [o] → s.vehicleEntry? v = some e → s.waitsFor? v = none → o.link = none →
    o.claim ≠ .held →
    let released := ((s.popped rest).setVehicle v { x with causes := ⟨false, false, false, false⟩ }).sendRelease v
    let legs := s.lookupLegs x.endLoc o.pickup o.drop
    let failed (reason : Reason) : Prop := exec .mwriteVehicles s = .next (State.reply t { result := .ok }
      ((released.setVehicle v { x with causes := ⟨false, false, false, false⟩, queue := [] }).refuseTo o.reply o.tag e.addr
        reason))
    (legs.1 = .missing ∨ legs.2.1 = .missing → failed .routeMissing) ∧
    (legs.1 ≠ .missing → legs.2.1 ≠ .missing → legs.1.clear? = none ∨ legs.2.1.clear? = none ∨ s.dropBlocked o.drop = true →
      failed .routeBlocked)) ∧
  ∀ (v : VehicleIx) (s : State), (s.running = false ∨ (s.vehicle v).causes.none = false ∨ (s.vehicle v).status = .lost ∨
      (s.vehicle v).status = .off ∨ (s.vehicle v).window ≤ (s.vehicle v).outstanding.length) →
    s.forwardAndTell v = s

/-- A CANCEL is refused by the first of its five checks that fails (R85); a queued order ends by R83, its forwarding
too, and then its VDONE is made on behalf of the vehicle, which is the model's reading of the order (log 45); for an
outstanding one the CANCEL is passed on unchanged, or refused when Floor normal is full (R49). -/
def Obligations.CancelEndsOrPassesOn : Prop :=
  ∀ (dst src : Byte) (rest : List Byte) (s : State), Passed dst s → rest.length = 12 → dst = u8 rest 1 →
    let u := s.setLinkCount 0
    let tag := u8 rest 0
    let answer (t : State) : Prop := exec (.moveCancel dst src rest) s = .next t
    let refused (r : Reason) : Prop := answer (u.refuseTo src tag dst r)
    (s.sfu.mode = .config → refused .notRunning) ∧
    (s.sfu.mode = .autonomous → refused .autonomous) ∧
    (s.sfu.mode = .normal →
      (s.vehicleAt? dst = none → refused .unknownVehicle) ∧
      ∀ v, s.vehicleAt? dst = some v →
        let x := s.vehicle v
        (tag = 0 → refused .badTag) ∧
        (tag ≠ 0 → (∀ o ∈ x.outstanding ++ x.queue, o.tag ≠ tag) → refused .notFound) ∧
        (tag ≠ 0 → ∀ o, (x.queue.find? fun o => o.tag = tag) = some o →
          answer ((u.endQueuedOrder v o).vdoneOnBehalf v o) ∧
          (x.causes.none = false → o.link = none → o.claim ≠ .held →
            u.endQueuedOrder v o = u.setVehicle v { x with queue := x.queue.filter fun y => y.tag ≠ tag })) ∧
        (tag ≠ 0 → (∀ o ∈ x.queue, o.tag ≠ tag) → (∃ o ∈ x.outstanding, o.tag = tag) →
          (s.ltu.normal.length < 24 →
            answer { u with ltu := { s.ltu with normal := s.ltu.normal ++ [⟨dst, src, 0x11, 2 :: rest⟩] } }) ∧
          (24 ≤ s.ltu.normal.length → answer ((u.raise .queueOverflow 2).refuseTo src tag dst .queueFull))))

/-! ### Runs -/

/-- RUN START for a press in use (R150): an open run is closed first, by START; then a new run of the body's number
and edition is open in phase START-UP with every counter 0, and the block and the monitor start afresh. The windows
and everything else stay, and the telegram is forwarded (R42). -/
def Obligations.RunStartOpensRun : Prop :=
  ∀ (p : PressIx) (dst src press : Byte) (run : Half) (edition : Byte) (s : State),
    Passed dst s → s.running = true → press.toNat = num p → s.inUse p = true →
    let opened (u : State) : State := { u with scu := { u.scu with
      runs := u.scu.runs.set p (some
        { number := run.toNat, edition := edition.toNat, phase := .startUp, startTick := s.clock, good := 0
          wasteStartUp := 0, wasteSplice := 0, wasteBreak := 0, wastePlate := 0, wasteOther := 0, butt := 0, made := 0
          missed := 0, breaks := 0 })
      presses := u.scu.presses.set p { s.press p with blockCopies := 0, blockWaste := 0, monitor := .ok } } }
    let t : Telegram := ⟨dst, src, 0x12, [press, 1] ++ be16 run.toNat ++ [edition]⟩
    let u := s.setLinkCount 0
    (s.run? p = none → exec (.runStart dst src press run edition) s = .next (State.placeNormal t (opened u))) ∧
    ∀ r, s.run? p = some r →
      let c : ClosedRun := { press := p, run := r, endTick := s.clock, cause := .started }
      exec (.runStart dst src press run edition) s = .next (State.placeNormal t (opened (u.pushClosed c))) ∧
      (s.scu.closed.length < 8 → u.pushClosed c = { u with scu := { s.scu with closed := s.scu.closed ++ [c] } }) ∧
      ∀ old rest, s.scu.closed = old :: rest → rest.length = 7 →
        u.pushClosed c =
          (({ u with scu := { s.scu with closed := rest } } : State).raise .runLost (num old.press)).setClosed (rest ++ [c])

/-- RUN GOOD and RUN EDITION change the phase of an open run, and RUN END closes it by END (R151, R152); without an
open run they change no count. RUN EDITION then asks for the plan swap (R170). Each is forwarded (R42). A RUN that no
watcher acts on is forwarded all the same: in CONFIG, and for a press not in use, unchanged and without effect; with a
press byte outside 1 to 4 it sets NODE-MISMATCH (R42, R149). -/
def Obligations.RunPhasesEndAndForwarding : Prop :=
  (∀ (p : PressIx) (dst src press : Byte) (run : Half) (edition : Byte) (s : State),
     Passed dst s → s.running = true → press.toNat = num p → s.inUse p = true →
     let sent (action : Byte) : Telegram := ⟨dst, src, 0x12, [press, action] ++ be16 run.toNat ++ [edition]⟩
     let u := s.setLinkCount 0
     let good := exec (.runGood dst src press run edition) s
     let plate := exec (.runEdition dst src press run edition) s
     let ended := exec (.runEnd dst src press run edition) s
     (s.run? p = none →
       good = .next (u.placeNormal (sent 2)) ∧ plate = .next ((u.askSwap p).placeNormal (sent 3)) ∧
       ended = .next (u.placeNormal (sent 4))) ∧
     (∀ r, s.run? p = some r →
       good = .next (State.placeNormal (sent 2) { u with scu := { s.scu with
         runs := s.scu.runs.set p (some { r with phase := .good })
         presses := s.scu.presses.set p { s.press p with blockCopies := 0, blockWaste := 0 } } }) ∧
       plate = .next ((State.askSwap p { u with scu := { s.scu with
         runs := s.scu.runs.set p (some { r with phase := .plateChange, edition := edition.toNat }) } }).placeNormal (sent 3)) ∧
       ended = .next (((u.pushClosed { press := p, run := r, endTick := s.clock, cause := .ended }).setRun p none).placeNormal
         (sent 4))) ∧
     (s.pls.ready[p] = false → u.askSwap p = u.raise .planNotReady (num p))) ∧
  ∀ (dst src press : Byte) (run : Half) (edition : Byte) (s : State), Passed dst s →
    let sent (action : Byte) : Telegram := ⟨dst, src, 0x12, [press, action] ++ be16 run.toNat ++ [edition]⟩
    let u := s.setLinkCount 0
    let all (f : Telegram → State) : Prop :=
      exec (.runStart dst src press run edition) s = .next (f (sent 1)) ∧
      exec (.runGood dst src press run edition) s = .next (f (sent 2)) ∧
      exec (.runEdition dst src press run edition) s = .next (f (sent 3)) ∧
      exec (.runEnd dst src press run edition) s = .next (f (sent 4))
    (s.sfu.mode = .config → all fun t => u.placeNormal t) ∧
    (∀ p : PressIx, press.toNat = num p → s.inUse p = false → all fun t => u.placeNormal t) ∧
    (s.running = true → (press.toNat = 0 ∨ 4 < press.toNat) →
      all fun t => (u.raise .nodeMismatch src.toNat).placeNormal t)

/-! ### Track claims and position reports -/

/-- A request for segment n by vehicle v (R62): the first of the seven cases that applies. A granted claim joins the
holder list and the claim list, at the tail when no claim of the list was granted for a later entry of the path; ahead
of such claims it keeps the order of R58, which is the model's choice (log 50). A vehicle that waited for n waits for
it no longer (R65). -/
def Obligations.RequestDecidedByFirstCase : Prop :=
  (∀ (v : VehicleIx) (n : Nat) (s : State),
    let x := s.vehicle v
    (x.causes ≠ ⟨false, false, false, false⟩ → s.request v n = s.sendGrant v n .halted) ∧
    (x.causes = ⟨false, false, false, false⟩ →
      (x.outstanding = [] →
        (n = x.currentSeg → s.request v n = s.sendGrant v n .granted) ∧
        (n ≠ x.currentSeg → s.request v n = s.sendGrant v n .idle)) ∧
      (x.outstanding ≠ [] →
        ((∀ i e, x.pointer ≤ i → x.path[i]? = some e → e.seg ≠ n) → s.request v n = s.sendGrant v n .offRoute) ∧
        ∀ i e, x.pointer ≤ i → x.path[i]? = some e → e.seg = n →
          (∀ j f, x.pointer ≤ j → j < i → x.path[j]? = some f → f.seg ≠ n) →
          ((∃ c ∈ x.claims, c.seg = n) → s.request v n = s.sendGrant v n .granted) ∧
          ((∀ c ∈ x.claims, c.seg ≠ n) →
            (s.tcu.claimDepth ≤ x.claims.length → s.request v n = s) ∧
            (x.claims.length < s.tcu.claimDepth →
              let open' : Prop := (s.seg n).holders.length < (s.seg n).capacity ∧ (s.seg n).blocked = false ∧
                ∀ z : ZoneIx, (s.seg n).capacity ≠ 0 → (s.seg n).zone = num z →
                  (s.zone z).lost = 0 ∧ (s.zone z).intruders = 0
              (open' → s.request v n =
                (((s.setSeg n { s.seg n with
                    holders := (s.seg n).holders ++ [v], waiters := (s.seg n).waiters.filter (· ≠ v) }).setVehicle v
                  { x with claims := insertClaim ⟨n, some i⟩ x.claims }).sendGrant v n .granted)) ∧
              (¬ open' → s.request v n = s.waitCheck v n)))))) ∧
  ∀ (n i : Nat) (before after : List TrackClaim),
    (∀ c ∈ before, ∀ j, c.pos = some j → j ≤ i) →
    (after = [] → insertClaim ⟨n, some i⟩ (before ++ after) = before ++ [⟨n, some i⟩]) ∧
    ∀ d rest j, after = d :: rest → d.pos = some j → i < j →
      insertClaim ⟨n, some i⟩ (before ++ after) = before ++ ⟨n, some i⟩ :: after

/-- The wait check (R63) and the GRANT that answers (R60): one already waiting is told again; one that would close a
wait cycle is told DEADLOCK and halted; any other leaves the list it was in and joins the tail of this one. The
wait-cycle test (R64) answers whether some chain of waits leads from the segment to one that the vehicle holds; 16
visits reach every segment of every chain. Claims that a vehicle releases leave the holder lists with the claim list,
and each freed segment is served, then the list in which the vehicle waits (R65, R66): a waiter is granted when it is
eligible, the segment has room and is not blocked, and its zone is not halted. When one event frees several claims the
vehicle's own list is served once, after all of them, and a vehicle that waits for a segment it has passed leaves that
list, which are the model's choices (log 52, log 53). Service of a waiting list (R65): from its head the eligible
waiters are granted, as many as there is room for, and the others keep their places. A zone is halted while its lost
or its intruder set has a member (R68), and a claim is granted at the first entry of the path from the pointer on
(R62). -/
def Obligations.WaitCheckAndService : Prop :=
  ((∀ (v : VehicleIx) (n : Nat) (s : State),
     (v ∈ (s.seg n).waiters → s.waitCheck v n = s.sendGrant v n .wait) ∧
     (v ∉ (s.seg n).waiters → s.closesCycle v n = true →
       let u := (s.sendGrant v n .deadlock).raise .deadlock (num v)
       s.waitCheck v n = u.setVehicle v { s.vehicle v with causes := { (s.vehicle v).causes with deadlock := true } }) ∧
     (v ∉ (s.seg n).waiters → s.closesCycle v n = false →
       (s.waitsFor? v = none → s.waitCheck v n =
         (s.setSeg n { s.seg n with waiters := (s.seg n).waiters ++ [v] }).sendGrant v n .wait) ∧
       ∀ m, s.waitsFor? v = some m → m ≠ n → s.waitCheck v n =
         ((s.setSeg m { s.seg m with waiters := (s.seg m).waiters.filter (· ≠ v) }).setSeg n
           { s.seg n with waiters := (s.seg n).waiters ++ [v] }).sendGrant v n .wait)) ∧
   ∀ (v : VehicleIx) (n : Nat) (r : GrantResult) (s : State),
     (∀ e, s.vehicleEntry? v = some e →
       s.sendGrant v n r = s.placeUrgent ⟨e.addr, s.ownAddr, 0x51, [BitVec.ofNat 8 n, r.code]⟩) ∧
     (s.vehicleEntry? v = none → s.sendGrant v n r = s)) ∧
  (∀ (v : VehicleIx) (n : Nat) (s : State),
     s.closesCycle v n = true ↔ ∃ m, s.WaitChain n m ∧ v ∈ (s.seg m).holders) ∧
  ((∀ (v : VehicleIx) (keep : List TrackClaim) (s : State),
     s.releaseClaims v [] keep = s.setVehicle v { s.vehicle v with claims := keep }) ∧
   (∀ (v : VehicleIx) (c : TrackClaim) (keep : List TrackClaim) (s : State),
     let u := (s.setVehicle v { s.vehicle v with claims := keep }).setSeg c.seg
       { s.seg c.seg with holders := (s.seg c.seg).holders.filter (· ≠ v) }
     s.releaseClaims v [c] keep = (u.serve c.seg).serveWaiting v) ∧
   (∀ (v : VehicleIx) (c d : TrackClaim) (keep : List TrackClaim) (s : State), c.seg ≠ d.seg →
     let u := ((s.setVehicle v { s.vehicle v with claims := keep }).setSeg c.seg
       { s.seg c.seg with holders := (s.seg c.seg).holders.filter (· ≠ v) }).setSeg d.seg
       { s.seg d.seg with holders := (s.seg d.seg).holders.filter (· ≠ v) }
     s.releaseClaims v [c, d] keep = ((u.serve c.seg).serve d.seg).serveWaiting v) ∧
   (∀ (v : VehicleIx) (s : State),
     let ahead (n : Nat) : Prop := ∃ i e, (s.vehicle v).pointer ≤ i ∧ (s.vehicle v).path[i]? = some e ∧ e.seg = n
     (s.waitsFor? v = none → s.leavePassed v = s) ∧
     ∀ n, s.waitsFor? v = some n →
       (ahead n → s.leavePassed v = s) ∧
       (¬ ahead n → s.leavePassed v = s.setSeg n { s.seg n with waiters := (s.seg n).waiters.filter (· ≠ v) })) ∧
   (∀ (v : VehicleIx) (s : State),
     (s.waitsFor? v = none → s.serveWaiting v = s) ∧ ∀ n, s.waitsFor? v = some n → s.serveWaiting v = s.serve n) ∧
   ∀ (n : Nat) (s : State),
     ((s.seg n).waiters = [] ∨ (s.seg n).blocked = true ∨ s.segHalted n = true → s.serve n = s) ∧
     ((s.seg n).blocked = false → s.segHalted n = false → ∀ w, (s.seg n).waiters = [w] →
       let free : Prop := (s.seg n).holders.length < (s.seg n).capacity ∧
         (s.vehicle w).causes = ⟨false, false, false, false⟩ ∧ (s.vehicle w).status ≠ .lost ∧
         (s.vehicle w).claims.length < s.tcu.claimDepth
       (free → s.serve n = s.grantClaim w n) ∧ (¬ free → s.serve n = s))) ∧
  (∀ (n : Nat) (s : State), (s.seg n).waiters.Nodup → (s.seg n).blocked = false → s.segHalted n = false →
    let eligible (w : VehicleIx) : Bool := decide ((s.vehicle w).causes = ⟨false, false, false, false⟩ ∧
      (s.vehicle w).status ≠ .lost ∧ (s.vehicle w).claims.length < s.tcu.claimDepth)
    s.serve n = (((s.seg n).waiters.filter eligible).take ((s.seg n).capacity - (s.seg n).holders.length)).foldl
      (fun u w => u.grantClaim w n) s) ∧
  (∀ (n : Nat) (s : State), s.segHalted n = true ↔ (s.seg n).capacity ≠ 0 ∧
    ∃ z : ZoneIx, (s.seg n).zone = num z ∧ ((s.zone z).lost ≠ 0 ∨ (s.zone z).intruders ≠ 0)) ∧
  ∀ (v : VehicleIx) (n : Nat) (s : State),
    let x := s.vehicle v
    let granted (pos : Option Nat) : State :=
      ((s.setSeg n { s.seg n with
          holders := (s.seg n).holders ++ [v], waiters := (s.seg n).waiters.filter (· ≠ v) }).setVehicle v
        { x with claims := insertClaim ⟨n, pos⟩ x.claims }).sendGrant v n .granted
    (∀ i e, x.pointer ≤ i → x.path[i]? = some e → e.seg = n →
      (∀ j f, x.pointer ≤ j → j < i → x.path[j]? = some f → f.seg ≠ n) → s.grantClaim v n = granted (some i)) ∧
    ((∀ i e, x.pointer ≤ i → x.path[i]? = some e → e.seg ≠ n) → s.grantClaim v n = granted none)

/-- A VPOS of vehicle v (R61, R88): of an OFF vehicle it records the report and, when it is configured, the segment;
of any other it also starts supervision again, and with the segment not configured or held and no loss it judges
nothing: the pointer moves forward to the held claim's entry, the claims behind it are released and the request is
decided. A vehicle that has passed the segment it waits for leaves that list, which is the model's choice (log 53).
Each is forwarded (R38). -/
def Obligations.VposRecordsAndReleases : Prop :=
  ∀ (v : VehicleIx) (dst src segment motion : Byte) (load : Word) (req : Byte) (s : State),
    Heard .vehicle (num v) dst src s →
    let x := s.vehicle v
    let c := segment.toNat
    let sent : Telegram := ⟨dst, src, 0x21, [segment, motion] ++ beWord load ++ [req]⟩
    let answer (t : State) : Prop := exec (.vpos dst src segment motion load req) s = .next (t.placeUpper sent)
    let asked (t : State) : State := if req = 0 then t else t.request v req.toNat
    let seen : Vehicle := { x with motion := motion, repLoad := load, lastReport := s.clock }
    (x.status = .off →
      answer (s.setVehicle v { seen with currentSeg := if (s.seg c).capacity = 0 then x.currentSeg else c })) ∧
    (x.status ≠ .off → (s.seg c).capacity = 0 → answer (asked (s.setVehicle v { seen with supCount := 0 }))) ∧
    (x.status = .idle ∨ x.status = .busy → (s.seg c).capacity ≠ 0 →
      ∀ gone keep k, x.claims = gone ++ k :: keep → k.seg = c → (∀ g ∈ gone, g.seg ≠ c) →
        let moved := (s.setVehicle v { seen with supCount := 0, pointer := max x.pointer (k.pos.getD 0) }).leavePassed v
        let u := moved.releaseClaims v gone (k :: keep)
        answer (asked (u.setVehicle v { u.vehicle v with currentSeg := c }))) ∧
    (x.status = .idle ∨ x.status = .busy → (s.seg c).capacity ≠ 0 → x.claims = [] → (x.currentSeg = 0 ∨ x.currentSeg = c) →
      answer (asked (s.setVehicle v { seen with supCount := 0, currentSeg := c })))

/-- A vehicle seen off its claims is an intruder (R88, R90): INTRUSION is set, the zone joins its intrusion zones, it
is halted and, unless it was already, sent a HOLD. Here the zone's policy halts one vehicle only and the vehicle is in
no lost set. Under the whole-zone policy an intruder joins the zone's intruder set (R68, R90); a zone that was not
halted is, and every vehicle with a claim there gains ZONE and a HOLD. The intruder gains INTRUSION and its own HOLD.
The telegrams are stated where no vehicle has a claim in the zone; here the vehicle is IDLE or BUSY and in no lost
set. A LOST vehicle seen on a claim of its own returns (R89): it takes its state before loss, its supervision starts
from 0 and it is sent a RELEASE. Its stopped retry count reads 0 by the model's choice (log 38). Here it is in no lost
set, waits nowhere, has no queued order and the mode is NORMAL. A LOST vehicle found intruding has returned (R90,
R68): it takes its state before loss and passes from the zone's lost set to its intruder set, so that the halt stays.
Its retry count reads 0, which is the model's choice (log 38). Here it was lost in the zone in which it intrudes,
waits nowhere, and the mode is NORMAL. -/
def Obligations.VposOfIntruderAndOfLostVehicle : Prop :=
  (∀ (v : VehicleIx) (z : ZoneIx) (dst src segment motion : Byte) (load : Word) (s : State),
     Heard .vehicle (num v) dst src s →
     let x := s.vehicle v
     let c := segment.toNat
     let sent : Telegram := ⟨dst, src, 0x21, [segment, motion] ++ beWord load ++ [0]⟩
     (s.seg c).capacity ≠ 0 → (s.seg c).zone = num z → (s.zone z).haltOne = true →
     (∀ y, (s.zone y).lost.getLsbD v.val = false) →
     (x.status = .idle ∨ x.status = .busy) → (∀ k ∈ x.claims, k.seg ≠ c) →
     (x.claims ≠ [] ∨ (x.currentSeg ≠ 0 ∧ x.currentSeg ≠ c)) →
     let seen : Vehicle := { x with
       motion := motion, repLoad := load, lastReport := s.clock, supCount := 0
       intrusionZones := x.intrusionZones ||| BitVec.twoPow 8 z.val }
     let halted : Vehicle := { seen with causes := { x.causes with intrusion := true } }
     let u := s.raise .intrusion (num v)
     (x.causes.intrusion = true →
       exec (.vpos dst src segment motion load 0) s =
         .next ((u.setVehicle v { seen with currentSeg := c }).placeUpper sent)) ∧
     (x.causes.intrusion = false →
       exec (.vpos dst src segment motion load 0) s =
         .next ((((u.setVehicle v halted).sendHold v).setVehicle v { halted with currentSeg := c }).placeUpper sent))) ∧
  (∀ (v : VehicleIx) (z : ZoneIx) (dst src segment motion : Byte) (load : Word) (s : State),
     Heard .vehicle (num v) dst src s →
     let x := s.vehicle v
     let c := segment.toNat
     (s.seg c).capacity ≠ 0 → (s.seg c).zone = num z → (s.zone z).haltOne = false →
     (∀ y, (s.zone y).lost.getLsbD v.val = false) → (x.status = .idle ∨ x.status = .busy) → x.causes.intrusion = false →
     (∀ k ∈ x.claims, k.seg ≠ c) → (x.claims ≠ [] ∨ (x.currentSeg ≠ 0 ∧ x.currentSeg ≠ c)) →
     let sent : Telegram := ⟨dst, src, 0x21, [segment, motion] ++ beWord load ++ [0]⟩
     let inZone (y : VehicleIx) : Prop := ∃ k ∈ (s.vehicle y).claims, (s.seg k.seg).capacity ≠ 0 ∧ (s.seg k.seg).zone = num z
     let free : Prop := (s.zone z).lost = 0 ∧ (s.zone z).intruders = 0
     let seen : Vehicle := { x with
       motion := motion, repLoad := load, lastReport := s.clock, supCount := 0
       intrusionZones := x.intrusionZones ||| BitVec.twoPow 8 z.val
       causes := { x.causes with intrusion := true } }
     let joined : Zone := { s.zone z with intruders := (s.zone z).intruders ||| BitVec.twoPow 16 v.val }
     (∃ t : State, exec (.vpos dst src segment motion load 0) s = .next (t.placeUpper sent) ∧
       (∀ y, t.vehicle y = { (if y = v then { seen with currentSeg := c } else s.vehicle y) with
           causes := { (s.vehicle y).causes with
             zone := (t.vehicle y).causes.zone, intrusion := (s.vehicle y).causes.intrusion || decide (y = v) } } ∧
         (free → inZone y → (t.vehicle y).causes.zone = true) ∧
         (¬ (free ∧ inZone y) → (t.vehicle y).causes.zone = (s.vehicle y).causes.zone)) ∧
       t.zone z = joined ∧ (∀ y, y ≠ z → t.zone y = s.zone y) ∧
       t = { s with
         pins := { s.pins with alarmLow := t.pins.alarmLow }
         ltu := t.ltu
         sfu := { s.sfu with flags := t.sfu.flags, pulse := t.sfu.pulse }
         vou := { s.vou with vehicles := t.vou.vehicles }
         tcu := { s.tcu with zones := t.tcu.zones } }) ∧
     ((∀ y, ¬ inZone y) ∨ ¬ free → exec (.vpos dst src segment motion load 0) s = .next
       (((((((s.raise .intrusion (num v)).updZone z fun _ => joined).setVehicle v seen).sendHold v).setVehicle v
         { seen with currentSeg := c })).placeUpper sent))) ∧
  (∀ (v : VehicleIx) (dst src segment motion : Byte) (load : Word) (k : TrackClaim) (keep : List TrackClaim) (s : State),
     Heard .vehicle (num v) dst src s → s.sfu.mode = .normal →
     let x := s.vehicle v
     let c := segment.toNat
     let sent : Telegram := ⟨dst, src, 0x21, [segment, motion] ++ beWord load ++ [0]⟩
     (s.seg c).capacity ≠ 0 → x.status = .lost → x.claims = k :: keep → k.seg = c → x.queue = [] → s.waitsFor? v = none →
     (∀ y, (s.zone y).lost.getLsbD v.val = false) → x.causes = ⟨false, false, false, false⟩ →
     let back : Vehicle := { x with
       motion := motion, repLoad := load, lastReport := s.clock, supCount := 0, retryCount := 0
       pointer := max x.pointer (k.pos.getD 0), status := if x.beforeLoss = .busy then .busy else .idle }
     exec (.vpos dst src segment motion load 0) s =
       .next ((((s.setVehicle v back).sendRelease v).setVehicle v { back with currentSeg := c }).placeUpper sent)) ∧
  ∀ (v : VehicleIx) (z : ZoneIx) (dst src segment motion : Byte) (load : Word) (s : State),
    Heard .vehicle (num v) dst src s → s.sfu.mode = .normal →
    let x := s.vehicle v
    let c := segment.toNat
    (s.seg c).capacity ≠ 0 → (s.seg c).zone = num z → x.status = .lost → x.causes.intrusion = false → s.waitsFor? v = none →
    (∀ k ∈ x.claims, k.seg ≠ c) → (x.claims ≠ [] ∨ (x.currentSeg ≠ 0 ∧ x.currentSeg ≠ c)) →
    (∀ y, y ≠ z → (s.zone y).lost.getLsbD v.val = false) →
    let sent : Telegram := ⟨dst, src, 0x21, [segment, motion] ++ beWord load ++ [0]⟩
    let back : Vehicle := { x with
      motion := motion, repLoad := load, lastReport := s.clock, supCount := 0, retryCount := 0
      status := if x.beforeLoss = .busy then .busy else .idle
      intrusionZones := x.intrusionZones ||| BitVec.twoPow 8 z.val
      causes := { x.causes with intrusion := true } }
    let found (u : State) : State := ((u.setVehicle v back).sendHold v).setVehicle v { back with currentSeg := c }
    let flagged := s.raise .intrusion (num v)
    ((s.zone z).haltOne = false → (s.zone z).lost.getLsbD v.val = true →
      exec (.vpos dst src segment motion load 0) s = .next ((found (flagged.updZone z fun a => { a with
        lost := a.lost &&& ~~~(BitVec.twoPow 16 v.val), intruders := a.intruders ||| BitVec.twoPow 16 v.val })).placeUpper sent)) ∧
    ((s.zone z).haltOne = true → (s.zone z).lost.getLsbD v.val = false →
      exec (.vpos dst src segment motion load 0) s = .next ((found flagged).placeUpper sent))

/-- A VDONE (R84): a tag that is not outstanding, or an outcome that is not listed, ends nothing and sets
STRAY-REPORT; otherwise the order ends by R83. Here it is the vehicle's only order, links no call, and the vehicle
holds no claim, waits nowhere and is BUSY without DEADLOCK in NORMAL, and the records have good parity. The end of an
order of a vehicle with claims or with further orders (R83, R59): its entries leave the path, the claims that stand on
them and those behind are released, the occupied claim stays, and the vehicle stays BUSY; after its only order every
claim is released and it is IDLE, which takes its DEADLOCK from it, with a RELEASE when that was its last cause (R91).
The pointer goes to the next entry that remains (R59); that it stands one past the last entry when none remains behind
it, so that the occupied claim has no position then, is the model's choice (log 10). Here the order links no call and holds no drop claim, the mode is NORMAL, and the vehicle waits nowhere and has no
queued order. -/
def Obligations.VdoneEndsOrder : Prop :=
  (∀ (v : VehicleIx) (dst src tag outcome : Byte) (s : State), Heard .vehicle (num v) dst src s →
     let x := s.vehicle v
     let sent : Telegram := ⟨dst, src, 0x23, [tag, outcome]⟩
     let listed : Prop := 1 ≤ outcome.toNat ∧ outcome.toNat ≤ 4
     (¬ listed ∨ (∀ o ∈ x.outstanding, o.tag ≠ tag) →
       exec (.vdone dst src tag outcome) s = .next ((s.raise .strayReport (num v)).placeUpper sent)) ∧
     (listed → s.noParity → s.sfu.mode = .normal → x.status = .busy → x.causes.deadlock = false → x.claims = [] → x.queue = [] →
       s.waitsFor? v = none → ∀ o, x.outstanding = [o] → o.tag = tag → o.link = none →
       let ended : Vehicle := { x with
         outstanding := [], path := [], pointer := 0, status := .idle
         endLoc := if outcome = 1 then x.endLoc else if x.currentSeg = 0 then ⟨.home, x.home⟩ else ⟨.segment, x.currentSeg⟩ }
       let u := s.setVehicle v ended
       (o.claim ≠ .held → exec (.vdone dst src tag outcome) s = .next (u.placeUpper sent)) ∧
       (o.claim = .held → ∀ p, o.drop = ⟨.place, p⟩ →
         ((s.place p).claim = some ⟨v, tag⟩ → exec (.vdone dst src tag outcome) s =
           .next ((u.setPlace p { s.place p with claim := none }).placeUpper sent)) ∧
         ((s.place p).claim ≠ some ⟨v, tag⟩ → exec (.vdone dst src tag outcome) s = .next (u.placeUpper sent))))) ∧
  ∀ (v : VehicleIx) (dst src tag outcome : Byte) (o : Order) (before after : List Order) (s : State),
    Heard .vehicle (num v) dst src s → s.sfu.mode = .normal →
    let x := s.vehicle v
    1 ≤ outcome.toNat → outcome.toNat ≤ 4 → x.status = .busy → x.queue = [] → s.waitsFor? v = none →
    x.outstanding = before ++ o :: after → o.tag = tag → (∀ q ∈ before ++ after, q.tag ≠ tag) → o.link = none →
    o.claim ≠ .held →
    let answer (t : State) : Prop :=
      exec (.vdone dst src tag outcome) s = .next (t.placeUpper ⟨dst, src, 0x23, [tag, outcome]⟩)
    let stop : Loc := if x.currentSeg = 0 then ⟨.home, x.home⟩ else ⟨.segment, x.currentSeg⟩
    (before ++ after = [] →
      let u := (s.setVehicle v { x with outstanding := [], path := [], pointer := 0 }).releaseClaims v x.claims []
      let idle (causes : Causes) : State := u.setVehicle v { x with
        outstanding := [], path := [], pointer := 0, claims := [], status := .idle, causes := causes
        endLoc := if outcome = 1 then x.endLoc else stop }
      (x.causes.deadlock = false → answer (idle x.causes)) ∧
      (x.causes = ⟨false, true, false, false⟩ → answer ((idle ⟨false, false, false, false⟩).sendRelease v)) ∧
      (x.causes.deadlock = true → x.causes ≠ ⟨false, true, false, false⟩ →
        answer (idle { x.causes with deadlock := false }))) ∧
    (before ++ after ≠ [] → ∀ (first : TrackClaim) (kept gone : List TrackClaim), x.claims = first :: (kept ++ gone) →
      let stays (k : TrackClaim) : Prop := k.pos = none ∨ ∃ i e, k.pos = some i ∧ x.path[i]? = some e ∧ e.tag ≠ tag
      let left (i : Nat) : Nat := ((x.path.take i).filter fun e => e.tag ≠ tag).length
      let path := x.path.filter fun e => e.tag ≠ tag
      (∀ k ∈ kept, stays k) → (∀ g rest, gone = g :: rest → ¬ stays g) →
      let ended (pos : Option Nat) : Prop :=
        let claims := { first with pos := pos } :: kept.map fun k => { k with pos := k.pos.map left }
        let u := (s.setVehicle v { x with outstanding := before ++ after, path := path, pointer := left x.pointer }).releaseClaims v
          gone claims
        answer (u.setVehicle v { x with
          outstanding := before ++ after, path := path, pointer := left x.pointer, claims := claims
          endLoc := if after = [] ∧ outcome ≠ 1 then stop else x.endLoc })
      (∀ i, first.pos = some i → stays first → ended (some (left i))) ∧
      (first.pos = none ∨ ¬ stays first →
        (∀ e, path[left x.pointer]? = some e → e.seg = first.seg → ended (some (left x.pointer))) ∧
        ((∀ e, path[left x.pointer]? = some e → e.seg ≠ first.seg) → ended none)))

/-- A vehicle whose supervision period has expired becomes LOST (R86, R87): the flag, a HOLD, and the retry count from
0; with the zone's policy halting one vehicle only, nothing else. At each retry interval it is sent a HOLD again. An
event that is not due, or whose condition has passed, changes no more than the due list, which is the model's (log 7),
as are the interval held until the next retry (log 15) and the supervision count kept while LOST (log 38). -/
def Obligations.LostVehicleIsHeld : Prop :=
  ∀ (v : VehicleIx) (e : NodeEntry) (s : State), s.pins.rstLow = false → s.running = true → s.vehicleEntry? v = some e →
    let x := s.vehicle v
    let taken (d : Due) : State := { s with due := s.due.filter (· ≠ d) }
    (.vehicleLost v ∈ s.due → (x.status = .idle ∨ x.status = .busy) → e.period ≤ x.supCount →
      (∀ z : ZoneIx, (s.seg x.currentSeg).zone = num z → (s.zone z).haltOne = true) →
      let lost : Vehicle := { x with
        beforeLoss := if x.status = .busy then .busy else .idle, status := .lost, retryCount := 0
        retryLimit := s.vou.retryInterval }
      exec (.vehicleLost v) s =
        .next (((((taken (.vehicleLost v)).setVehicle v lost).raise .vehicleLost (num v)).placeUrgent
          ⟨e.addr, s.ownAddr, 0x52, [0x10 ||| x.causes.byte]⟩))) ∧
    (.vehicleLost v ∈ s.due → (x.status = .off ∨ x.status = .lost ∨ x.supCount < e.period) →
      exec (.vehicleLost v) s = .next (taken (.vehicleLost v))) ∧
    (.lostRetry v ∈ s.due → x.status = .lost → x.retryLimit ≤ x.retryCount →
      ∃ t, exec (.lostRetryHold v) s = .next t ∧
        t = (((taken (.lostRetry v)).placeUrgent ⟨e.addr, s.ownAddr, 0x52, [0x10 ||| x.causes.byte]⟩).setVehicle v
          { x with retryCount := 0, retryLimit := s.vou.retryInterval })) ∧
    (.lostRetry v ∈ s.due → x.status ≠ .lost → exec (.lostRetryHold v) s = .next (taken (.lostRetry v))) ∧
    (.vehicleLost v ∉ s.due → exec (.vehicleLost v) s = .next s) ∧
    (.lostRetry v ∉ s.due → exec (.lostRetryHold v) s = .next s)

/-- Under the whole-zone policy a vehicle that becomes LOST halts the zone of its current segment (R68): it joins the
lost set, every vehicle with a claim in the zone gains ZONE, and nothing else of any vehicle changes. Each is sent a
HOLD; the telegrams are stated for one other vehicle with a claim there. The due list (log 7) and the retry interval
held (log 15) are the model's choice. The halt of a zone is lifted when its lost and intruder sets are empty (R69): by
the VPOS of its LOST vehicle on a claim of its own (R89), or by a CLEAR-ZONE, after which it lasts while a vehicle is
in the lost set. A vehicle whose last cause was ZONE is sent a RELEASE. The stopped retry count reads 0 by the model's
choice (log 38). Here one vehicle has ZONE and no other cause, no other zone is halted, nobody waits for a segment,
and the vehicle has no queued order. -/
def Obligations.ZonesHaltAndAreLifted : Prop :=
  (∀ (v : VehicleIx) (e : NodeEntry) (z : ZoneIx) (s : State), s.pins.rstLow = false → s.running = true →
     s.vehicleEntry? v = some e → .vehicleLost v ∈ s.due →
     let x := s.vehicle v
     (x.status = .idle ∨ x.status = .busy) → e.period ≤ x.supCount →
     (s.seg x.currentSeg).capacity ≠ 0 → (s.seg x.currentSeg).zone = num z → (s.zone z).haltOne = false →
     (s.zone z).lost = 0 → (s.zone z).intruders = 0 →
     let inZone (y : VehicleIx) : Prop := ∃ c ∈ (s.vehicle y).claims, (s.seg c.seg).capacity ≠ 0 ∧ (s.seg c.seg).zone = num z
     let lost : Vehicle := { x with
       beforeLoss := if x.status = .busy then .busy else .idle, status := .lost, retryCount := 0
       retryLimit := s.vou.retryInterval }
     (∃ t : State, exec (.vehicleLost v) s = .next t ∧
       (∀ y, (inZone y → (t.vehicle y).causes.zone = true) ∧
         t.vehicle y = { (if y = v then lost else s.vehicle y) with
           causes := { (s.vehicle y).causes with zone := (t.vehicle y).causes.zone } } ∧
         (¬ inZone y → (t.vehicle y).causes = (s.vehicle y).causes)) ∧
       t.zone z = { s.zone z with lost := BitVec.twoPow 16 v.val } ∧ (∀ y, y ≠ z → t.zone y = s.zone y) ∧
       t = { s with
         pins := { s.pins with alarmLow := t.pins.alarmLow }
         ltu := t.ltu
         sfu := { s.sfu with flags := t.sfu.flags, pulse := t.sfu.pulse }
         vou := { s.vou with vehicles := t.vou.vehicles }
         tcu := { s.tcu with zones := t.tcu.zones }
         due := t.due }) ∧
     ∀ y, y ≠ v → (∀ a, inZone a ↔ a = y) → (s.vehicle y).causes.zone = false → (s.vehicle y).status ≠ .lost →
       let told : State := (((({ s with due := s.due.filter (· ≠ Due.vehicleLost v) } : State).setVehicle v lost).raise .vehicleLost
         (num v)).placeUrgent ⟨e.addr, s.ownAddr, 0x52, [0x10 ||| x.causes.byte]⟩)
       exec (.vehicleLost v) s = .next
         (((told.updZone z fun a => { a with lost := BitVec.twoPow 16 v.val }).setVehicle y
           { s.vehicle y with causes := { (s.vehicle y).causes with zone := true } }).sendHold y)) ∧
  ∀ (z : ZoneIx) (v : VehicleIx) (s : State),
    let x := s.vehicle v
    s.sfu.mode = .normal → (∀ y, y ≠ z → (s.zone y).lost = 0 ∧ (s.zone y).intruders = 0) → (∀ e ∈ s.tcu.segments, e.2.waiters = []) →
    (∀ y, y ≠ v → (s.vehicle y).causes.zone = false) → x.causes = ⟨true, false, false, false⟩ → x.queue = [] →
    let zones (a : Zone) (u : State) : State := { u with tcu := { s.tcu with zones := s.tcu.zones.set z a } }
    (∀ (dst src segment motion : Byte) (load : Word) (k : TrackClaim) (keep : List TrackClaim),
      Heard .vehicle (num v) dst src s → (s.zone z).lost = BitVec.twoPow 16 v.val → (s.zone z).intruders = 0 →
      let c := segment.toNat
      (s.seg c).capacity ≠ 0 → x.status = .lost → x.claims = k :: keep → k.seg = c →
      let back : Vehicle := { x with
        motion := motion, repLoad := load, lastReport := s.clock, supCount := 0, retryCount := 0
        pointer := max x.pointer (k.pos.getD 0), status := if x.beforeLoss = .busy then .busy else .idle
        causes := ⟨false, false, false, false⟩ }
      exec (.vpos dst src segment motion load 0) s =
        .next (((((zones { s.zone z with lost := 0 } s).setVehicle v back).sendRelease v).setVehicle v
          { back with currentSeg := c }).placeUpper ⟨dst, src, 0x21, [segment, motion] ++ beWord load ++ [0]⟩)) ∧
    ∀ (t : Telegram) (rest : List Telegram), Ready .clearZone t rest s → (u8 t.body 1).toNat = num z →
      (s.zone z).intruders ≠ 0 → (∀ y, (s.vehicle y).intrusionZones.getLsbD z.val = false) →
      let answer (u : State) : Prop := exec .clearZone s = .next (u.reply t { result := .ok })
      ((s.zone z).lost ≠ 0 → answer (zones { s.zone z with intruders := 0 } (s.popped rest))) ∧
      ((s.zone z).lost = 0 → x.status = .idle ∨ x.status = .busy →
        answer (((zones { s.zone z with intruders := 0 } (s.popped rest)).setVehicle v
          { x with causes := ⟨false, false, false, false⟩ }).sendRelease v))

/-! ### Picks and drops -/

/-- A PICK of a known roll (R16, R17), over records with good parity: one that its vehicle carries already changes
nothing, and so moves no order (log 30); one lifted where it is recorded, or from where it is not, leaves its recorded
location and is CARRIED on the vehicle, whose load it becomes, and the second sets ROLL-MISPLACED. Here no call names
the roll, the vehicle carried no roll and has no order to pick up there. A PICK moves the order that was to pick up
there to TO-DROP (R81); a roll that the vehicle had in its load stays CARRIED with no carrier and gains LOST-TRACK
(R16). Here the roll comes from its dock, the call list is empty and the tables are in their canonical form. Picks
from the arms of a stand (R17, R106): a STANDBY or a RUNNING roll is lifted with ROLL-MISPLACED, the arm is empty and
the FDU is told, with the starvation test and the call test for the other arm. An order whose drop claim is PENDING on
the arm then takes it (R81, R104). Here the records have good parity, no call names the roll and the vehicle carried
none. A PICK or DROP of a roll without a record (R18, R21), and one at a location that the part does not keep (R15):
the vehicle's load changes as stated, the flag names the vehicle, and no location changes. Here the vehicle carried no
roll. -/
def Obligations.PickMovesRollAndOrder : Prop :=
  (∀ (v : VehicleIx) (dst src kind : Byte) (number : Half) (id : Word) (l : Loc) (k : Nat) (r : Roll) (s : State),
     Heard .vehicle (num v) dst src s → s.noParity → s.keptLoc? kind number = some l → s.findRoll id = some (k, r) →
     let x := s.vehicle v
     let sent : Telegram := ⟨dst, src, 0x22, [1, kind] ++ be16 number.toNat ++ beWord id⟩
     let answer (t : State) : Prop := exec (.vloadPick dst src kind number id) s = .next (t.placeUpper sent)
     (r.status = .carried (some v) → answer s) ∧
     (x.load = .empty ∨ x.load = .unknown → s.callNaming? id = none →
       (∀ o ∈ x.outstanding, ¬ (o.progress = .toPickup ∧ o.pickup = l)) →
       let lifted (t : State) : State :=
         (t.setSlot k { r with status := .carried (some v) }).setVehicle v { x with load := .roll id }
       (∀ d, r.status = .announced d →
         (l = ⟨.dock, d⟩ → answer (lifted s)) ∧
         (l ≠ ⟨.dock, d⟩ → answer ((lifted s).raiseField .rollMisplaced id id))) ∧
       (∀ p, (r.status = .stored p ∨ ∃ o, r.status = .reserved p o) →
         let left := s.setPlace p { s.place p with occupant := none }
         (l = ⟨.place, p⟩ → answer (lifted left)) ∧
         (l ≠ ⟨.place, p⟩ → answer ((lifted left).raiseField .rollMisplaced id id))) ∧
       (r.status = .carried none → answer ((lifted s).raiseField .rollMisplaced id id)) ∧
       (∀ w, w ≠ v → r.status = .carried (some w) →
         answer ((lifted (s.setVehicle w { s.vehicle w with load := .empty })).raiseField .rollMisplaced id id)) ∧
       ∀ st, r.status = .butt st → l = standLoc st → (s.stand st).state ≠ .armed →
         answer ((lifted (s.setStand st { s.stand st with other := .none })).armEmptied st))) ∧
  (∀ (v : VehicleIx) (dst src kind : Byte) (number : Half) (id : Word) (d k : Nat) (r : Roll) (s : State),
     Heard .vehicle (num v) dst src s → s.noParity → s.keptLoc? kind number = some ⟨.dock, d⟩ →
     s.findRoll id = some (k, r) → r.status = .announced d → s.fdu.calls = [] → s.tablesWf = true →
     let x := s.vehicle v
     ∃ t : State, exec (.vloadPick dst src kind number id) s =
         .next (t.placeUpper ⟨dst, src, 0x22, [1, kind] ++ be16 number.toNat ++ beWord id⟩) ∧
       t.slot? k = some { r with status := .carried (some v) } ∧ (t.vehicle v).load = .roll id ∧
       (∀ o, x.outstanding = [o] → o.progress = .toPickup → o.pickup = ⟨.dock, d⟩ →
         (t.vehicle v).outstanding = [{ o with progress := .toDrop }]) ∧
       ∀ z m q, x.load = .roll z → z ≠ id → s.findRoll z = some (m, q) →
         t.slot? m = some { q with status := .carried none, holds := { q.holds with lostTrack := true } }) ∧
  ((∀ (v : VehicleIx) (st : StandIx) (dst src kind : Byte) (number : Half) (id : Word) (l : Loc) (k : Nat) (r : Roll) (s : State),
     Heard .vehicle (num v) dst src s → s.noParity → s.keptLoc? kind number = some l → s.findRoll id = some (k, r) →
     let x := s.vehicle v
     let y := s.stand st
     x.load = .empty ∨ x.load = .unknown → s.callNaming? id = none →
     (∀ o ∈ x.outstanding, ¬ (o.progress = .toPickup ∧ o.pickup = l)) →
     let answer (t : State) : Prop := exec (.vloadPick dst src kind number id) s =
       .next (t.placeUpper ⟨dst, src, 0x22, [1, kind] ++ be16 number.toNat ++ beWord id⟩)
     let lifted (t : State) : State := State.raiseField .rollMisplaced id id
       ((t.setSlot k { r with status := .carried (some v) }).setVehicle v { x with load := .roll id })
     (r.status = .standby st → answer ((((lifted (s.setStand st { y with
       other := .none, state := if y.state = .armed then .feeding else y.state })).armEmptied st).starveTest st).callTest st)) ∧
     (r.status = .running st → answer ((lifted (s.setStand st { y with
       active := none, lr := 0, carry := 0, lres := 0, implausible := 0, deadReckon := false, late := false, ts := 65535
       state := if y.state = .out then .out else .idle })).stateChanged st))) ∧
   ∀ (st : StandIx) (s : State),
     let asks (w : VehicleIx) (o : Order) : Prop := o ∈ (s.vehicle w).outstanding ++ (s.vehicle w).queue ∧
       o.claim = .pending ∧ o.drop = standLoc st
     ((∀ w o, ¬ asks w o) → s.armEmptied st = s) ∧
     ∀ w o, asks w o → (∀ w' o', asks w' o' → w' = w ∧ o' = o) →
       s.armEmptied st = (s.setStand st { s.stand st with claim := some ⟨w, o.tag⟩ }).updOrder ⟨w, o.tag⟩
         fun q => { q with claim := .held }) ∧
  ∀ (v : VehicleIx) (dst src kind : Byte) (number : Half) (id : Word) (s : State),
    Heard .vehicle (num v) dst src s → s.noParity →
    let x := s.vehicle v
    let pick (t : State) : Prop := exec (.vloadPick dst src kind number id) s =
      .next (t.placeUpper ⟨dst, src, 0x22, [1, kind] ++ be16 number.toNat ++ beWord id⟩)
    let drop (t : State) : Prop := exec (.vloadDrop dst src kind number id) s =
      .next (t.placeUpper ⟨dst, src, 0x22, [2, kind] ++ be16 number.toNat ++ beWord id⟩)
    let loaded (l : Load) : State := s.setVehicle v { x with load := l }
    (s.keptLoc? kind number = none →
      pick (s.raise .placeConflict (num v)) ∧
      (x.load = .empty ∨ x.load = .unknown → drop ((loaded .empty).raise .placeConflict (num v)))) ∧
    (∀ l, s.keptLoc? kind number = some l → s.findRoll id = none → x.load = .empty ∨ x.load = .unknown →
      ((∀ o ∈ x.outstanding, ¬ (o.progress = .toPickup ∧ o.pickup = l)) →
        pick ((loaded .unknown).raise .unknownRoll (num v))) ∧
      (x.load = .unknown → (id = 0 ∨ id = 0xFFFFFFFF#32) → drop (loaded .empty)) ∧
      (x.load = .empty ∨ (id ≠ 0 ∧ id ≠ 0xFFFFFFFF#32) → drop ((loaded .empty).raise .unknownRoll (num v))))

/-- A DROP at a place by the vehicle that carries the roll (R19, R9): recorded on an empty place that is not blocked,
where a claim of its own is consumed and another vehicle's is cancelled with PLACE-CONFLICT; else nothing is recorded
and PLACE-CONFLICT names the vehicle. Here the call list is empty and no search runs. A DROP of a roll that is
recorded elsewhere is applied after the records are corrected (R22): here a roll with no carrier is set down on a free
place. -/
def Obligations.DropAtPlaceIsRecorded : Prop :=
  (∀ (v : VehicleIx) (p : Nat) (dst src : Byte) (number : Half) (id : Word) (k : Nat) (r : Roll) (s : State),
     Heard .vehicle (num v) dst src s → s.noParity → number.toNat = p → 1 ≤ p → p ≤ s.tmc.sizes.places →
     s.findRoll id = some (k, r) → r.status = .carried (some v) → s.fdu.calls = [] → s.fdu.search = none →
     let sent : Telegram := ⟨dst, src, 0x22, [2, 1] ++ be16 number.toNat ++ beWord id⟩
     let answer (t : State) : Prop := exec (.vloadDrop dst src 1 number id) s = .next (t.placeUpper sent)
     ((s.place p).occupant ≠ none ∨ (s.place p).blocked = true → answer (s.raise .placeConflict (num v))) ∧
     ((s.place p).occupant = none → (s.place p).blocked = false →
       let put := ((s.setSlot k { r with status := .stored p }).setVehicle v { s.vehicle v with load := .empty }).setPlace p
         { s.place p with occupant := some id, claim := none }
       ((s.place p).claim = none → answer put) ∧
       (∀ tag, (s.place p).claim = some ⟨v, tag⟩ → answer (put.updOrder ⟨v, tag⟩ fun o => { o with claim := .consumed })) ∧
       ∀ w tag, w ≠ v → (s.place p).claim = some ⟨w, tag⟩ →
         answer ((put.updOrder ⟨w, tag⟩ fun o => { o with claim := .none }).raise .placeConflict (num w)))) ∧
  ∀ (v : VehicleIx) (p : Nat) (dst src : Byte) (number : Half) (id : Word) (k : Nat) (r : Roll) (s : State),
    Heard .vehicle (num v) dst src s → s.noParity → number.toNat = p → 1 ≤ p → p ≤ s.tmc.sizes.places →
    s.findRoll id = some (k, r) → r.status = .carried none → s.fdu.calls = [] → s.fdu.search = none →
    (s.place p).occupant = none → (s.place p).claim = none → (s.place p).blocked = false →
    (s.vehicle v).load = .empty ∨ (s.vehicle v).load = .unknown →
    exec (.vloadDrop dst src 1 number id) s = .next
      ((((s.raiseField .rollMisplaced id id).setSlot k { r with status := .stored p }).setVehicle v
          { s.vehicle v with load := .empty }).setPlace p { s.place p with occupant := some id }
        |>.placeUpper ⟨dst, src, 0x22, [2, 1] ++ be16 number.toNat ++ beWord id⟩)

/-- A DROP of a carried roll on a stand's other arm (R20, R105), at a dock and at a waste bay (R21, R160). A drop claim on
the arm ends with the drop, before the check of the plan: the vehicle's own is consumed, another vehicle's is
cancelled with PLACE-CONFLICT (R9, R104). Here the call list is empty and no search runs. -/
def Obligations.DropAtStandDockOrWaste : Prop :=
  ∀ (v : VehicleIx) (dst src : Byte) (number : Half) (id : Word) (k : Nat) (r : Roll) (s : State),
    Heard .vehicle (num v) dst src s → s.noParity → s.findRoll id = some (k, r) → r.id = id →
    r.status = .carried (some v) → s.fdu.calls = [] → s.fdu.search = none →
    let answer (kind : Byte) (t : State) : Prop := exec (.vloadDrop dst src kind number id) s =
      .next (t.placeUpper ⟨dst, src, 0x22, [2, kind] ++ be16 number.toNat ++ beWord id⟩)
    let emptied (t : State) : State := t.setVehicle v { s.vehicle v with load := .empty }
    (∀ st : StandIx, number.toNat = num st →
      ((s.stand st).other ≠ .none → answer 2 (s.raise .placeConflict (num v))) ∧
      ((s.stand st).other = .none →
        let armed := (emptied (s.setSlot k { r with status := .standby st })).setStand st { s.stand st with
          other := .standby id, claim := none
          state := if (s.stand st).state = .feeding ∨ (s.stand st).state = .starved then .armed else (s.stand st).state }
        let recorded (u : State) : Prop :=
          (s.inLead st = true → (r.grade ≠ (s.activeStand st).grade ∨ r.width ≠ (s.activeStand st).width) →
            answer 2 (u.raise .planMismatch (num st))) ∧
          (s.inLead st = false ∨ (r.grade = (s.activeStand st).grade ∧ r.width = (s.activeStand st).width) →
            answer 2 u)
        ((s.stand st).claim = none → recorded armed) ∧
        (∀ tag, (s.stand st).claim = some ⟨v, tag⟩ →
          recorded (armed.updOrder ⟨v, tag⟩ fun o => { o with claim := .consumed })) ∧
        ∀ w tag, w ≠ v → (s.stand st).claim = some ⟨w, tag⟩ →
          recorded ((armed.updOrder ⟨w, tag⟩ fun o => { o with claim := .none }).raise .placeConflict (num w)))) ∧
    (1 ≤ number.toNat → number.toNat ≤ 8 →
      answer 3 (emptied (s.setSlot k { r with status := .announced number.toNat }))) ∧
    (1 ≤ number.toNat → number.toNat ≤ 4 →
      let gone : State := emptied (s.freeSlot k)
      (r.hasRun = false → answer 4 { gone with scu := { s.scu with scrapped := min 4294967295 (s.scu.scrapped + r.lr) } }) ∧
      ∀ p, r.hasRun = true → r.lastPress = some p →
        (∀ u, s.run? p = some u → answer 4 { gone with scu := { s.scu with
          runs := s.scu.runs.set p (some { u with butt := min 4294967295 (u.butt + r.lr) }) } }) ∧
        (s.run? p = none → answer 4 { gone with scu := { s.scu with
          presses := s.scu.presses.set p { s.press p with
            unassigned := min 4294967295 ((s.press p).unassigned + r.lr) } } }))

/-! ### Reel stands -/

/-- A STAND report whose two rolls agree with the record judges its diameter (R108 to R110): accepted, it writes the
roll and the mirror with L(D) of the clamped diameter; above Dcur by more than the tolerance it only counts, and at
the limit it turns to dead reckoning with a DIAMETER hold and the flag, which is set also for a roll that carries
DIAMETER already by the model's choice (log 58). Here the stand is out of the lead and the mode
NORMAL. An accepted diameter of any stand of a press (R109): the roll and the mirror take L(D), the count of
implausible reports ends, a STARVED stand with paper feeds again, and Ts, the starvation test and, when Lr has
changed, the late test follow in that order (log 18). A reported roll id agrees with the record when it is the
recorded one, 0 for none, or unknown roll (R108). Here the records have good parity. A report whose rolls disagree
with the record, or of a stand without a press, sets ARM-MISMATCH and changes nothing more than the report tick of a
STAND report (R107, R108, R112, R113). -/
def Obligations.StandReportsAreJudged : Prop :=
  (∀ (st : StandIx) (p : PressIx) (dst src : Byte) (diameter : Half) (other : Word) (id : RollId) (k : Nat) (r : Roll)
     (s : State), Heard .stand (num st) dst src s → s.noParity →
     let x := s.stand st
     x.press = some p → x.active = some id → s.findRoll id = some (k, r) → r.id = id → otherAgrees x.other other = true →
     s.inLead st = false → x.state = .out →
     let sent : Telegram := ⟨dst, src, 0x31, be16 diameter.toNat ++ beWord id ++ beWord other⟩
     let answer (t : State) : Prop := exec (.standReport dst src diameter id other) s = .next (t.placeUpper sent)
     let D := if r.dann < diameter.toNat then r.dann else if diameter.toNat < r.core then r.core else diameter.toNat
     let seen : Stand := { x with lastTick := s.clock }
     (x.deadReckon = true → answer (s.setStand st seen)) ∧
     (x.deadReckon = false →
       (D ≤ r.dcur + s.fdu.tolerance → s.call? st = none →
         let L := if D ≤ r.core then 0 else (D * D - r.core * r.core) * 32170 / (4096 * r.caliper)
         answer ((s.setSlot k { r with dcur := D, lr := L }).setStand st
           { seen with lr := L, implausible := 0, ts := 65535 })) ∧
       (r.dcur + s.fdu.tolerance < D →
         let n := min 15 (x.implausible + 1)
         (n < s.fdu.implausibleLimit → answer (s.setStand st { seen with implausible := n })) ∧
         (s.fdu.implausibleLimit ≤ n →
           answer (((s.setStand st { seen with implausible := n, deadReckon := true }).addHold id .diameter).raise
             .diameterImplausible (num st)))))) ∧
  ((∀ (st : StandIx) (p : PressIx) (dst src : Byte) (diameter : Half) (active other : Word) (id : RollId) (k : Nat) (r : Roll)
     (s : State), Heard .stand (num st) dst src s → s.noParity →
     let x := s.stand st
     x.press = some p → x.active = some id → s.findRoll id = some (k, r) → activeAgrees x.active active = true →
     otherAgrees x.other other = true → x.deadReckon = false →
     let D := if r.dann < diameter.toNat then r.dann else if diameter.toNat < r.core then r.core else diameter.toNat
     D ≤ r.dcur + s.fdu.tolerance →
     let L := if D ≤ r.core then 0 else (D * D - r.core * r.core) * 32170 / (4096 * r.caliper)
     let u := (((s.setSlot k { r with dcur := D, lr := L }).setStand st { x with
       lastTick := s.clock, lr := L, implausible := 0
       state := if x.state = .starved ∧ L ≠ 0 then .feeding else x.state }).computeTs st).starveTest st
     exec (.standReport dst src diameter active other) s = .next (State.placeUpper
       ⟨dst, src, 0x31, be16 diameter.toNat ++ beWord active ++ beWord other⟩ (if L = x.lr then u else u.lateTest st))) ∧
   (∀ (a id : RollId), (activeAgrees (some a) id = true ↔ id = a ∨ id = 0xFFFFFFFF#32) ∧
     (activeAgrees none id = true ↔ id = 0)) ∧
   ∀ (a id : RollId), (otherAgrees .none id = true ↔ id = 0) ∧
     (otherAgrees (.standby a) id = true ↔ id = a ∨ id = 0xFFFFFFFF#32) ∧
     (otherAgrees (.butt a) id = true ↔ id = a ∨ id = 0xFFFFFFFF#32)) ∧
  ∀ (st : StandIx) (dst src : Byte) (s : State), Heard .stand (num st) dst src s →
    let x := s.stand st
    let flagged := s.raise .armMismatch (num st)
    (∀ (diameter : Half) (active other : Word),
      let answer (t : State) : Prop := exec (.standReport dst src diameter active other) s =
        .next (t.placeUpper ⟨dst, src, 0x31, be16 diameter.toNat ++ beWord active ++ beWord other⟩)
      (x.press = none → answer flagged) ∧
      (∀ p, x.press = some p → activeAgrees x.active active = false ∨ otherAgrees x.other other = false →
        answer (flagged.setStand st { x with lastTick := s.clock })) ∧
      (∀ p, x.press = some p → x.active = none → active = 0 → otherAgrees x.other other = true →
        answer (s.setStand st { x with lastTick := s.clock }))) ∧
    (∀ old new : Word,
      let made (t : State) : Prop := exec (.spliceMade dst src old new) s =
        .next (t.placeUpper ⟨dst, src, 0x32, [1] ++ (beWord old ++ beWord new)⟩)
      let missed (t : State) : Prop := exec (.spliceMissed dst src old new) s =
        .next (t.placeUpper ⟨dst, src, 0x32, [2] ++ (beWord old ++ beWord new)⟩)
      (x.press = none ∨ x.other ≠ .standby new ∨ (∃ o, x.active = some o ∧ o ≠ old) ∨ (x.active = none ∧ old ≠ 0) →
        made flagged) ∧
      (x.press = none ∨ x.other ≠ .standby new ∨ x.active ≠ some old → missed flagged)) ∧
    ∀ roll : Word, x.press = none ∨ x.active ≠ some roll →
      exec (.webBreak dst src roll) s = .next (flagged.placeUpper ⟨dst, src, 0x33, beWord roll⟩)

/-- An accepted SPLICE MADE (R23, R112, R156, R158): the old roll is the BUTT of the other arm, or that arm is empty;
the new one is RUNNING on the active arm with its has-run mark and last press; the stand's figures start afresh; the
splice is counted in the open run and opens the splice window. Here the stand is out of the lead, the other arm does
not become empty, and the new roll has no hold. An accepted SPLICE MADE on any stand of a press (R112), the one that
threads a stand without an active roll too: after the arms and the figures comes Ts, the count and the window, for an
arm left empty the claim that waits for it (R104), the starvation test, the late test when Lres has changed, and the
early call of a roll with a hold (R13). That the late test is made only when Lres differs from the one before, and comes
after the starvation test, is the model's choice (log 18). Here the records have good parity. An accepted BREAK or SPLICE MISSED (R113,
R156, R158, R159): counted in the open run, with the miss beside the break; the roll's break count rises up to 7; the
break window opens on it; at the plan's limit the roll takes the BREAKS hold and ROLL-BREAK-HOLD names it. Here no
call is open for the stand's roll and the hold, where it comes, is not the roll's first. The BREAKS hold as a roll's
first hold (R159, R13): it joins when the break count reaches the plan's limit, before ROLL-BREAK-HOLD, and makes the
stand's call early, or opens it. Here the records have good parity. -/
def Obligations.SplicesAndBreaksAreTaken : Prop :=
  (∀ (st : StandIx) (p : PressIx) (dst src : Byte) (old new : Word) (j k : Nat) (q r : Roll) (s : State),
     Heard .stand (num st) dst src s → s.noParity →
     let x := s.stand st
     x.press = some p → x.active = some old → x.other = .standby new → old ≠ new → s.findRoll old = some (j, q) →
     s.findRoll new = some (k, r) → q.id = old → r.id = new → j ≠ k → s.inLead st = false → x.state = .out →
     s.call? st = none → r.holds = ⟨false, false, false, false, false⟩ →
     let n := if s.inUse p = true then (s.activePress p).spliceLen else 0
     ∃ t : State, exec (.spliceMade dst src old new) s =
         .next (t.placeUpper ⟨dst, src, 0x32, [1] ++ (beWord old ++ beWord new)⟩) ∧
       t.slot? j = some { q with status := .butt st } ∧
       t.slot? k = some { r with status := .running st, hasRun := true, lastPress := some p } ∧
       t.stand st = { x with
         active := some new, other := .butt old, lr := r.lr, carry := 0, lres := 0, implausible := 0, deadReckon := false
         late := false, ts := 65535 } ∧
       t.run? p = (s.run? p).map (fun u => { u with made := min 65535 (u.made + 1) }) ∧
       t.press p = { s.press p with splice := { remaining := n, stand := some st, roll := some new } } ∧
       t = { s with
         tmc := { s.tmc with rolls := t.tmc.rolls }
         fdu := { s.fdu with stands := t.fdu.stands }
         scu := { s.scu with runs := t.scu.runs, presses := t.scu.presses } }) ∧
  (∀ (st : StandIx) (p : PressIx) (dst src : Byte) (old new : Word) (k : Nat) (r : Roll) (s : State),
     Heard .stand (num st) dst src s → s.noParity →
     let x := s.stand st
     x.press = some p → x.other = .standby new → s.findRoll new = some (k, r) → r.id = new →
     let D := (s.activeStand st).splice
     let lres := if s.inLead st = true then (if D ≤ r.core then 0 else (D * D - r.core * r.core) * 32170 / (4096 * r.caliper)) else 0
     let turned (other : Arm) (u : State) : State :=
       (u.setSlot k { r with status := .running st, hasRun := true, lastPress := some p }).setStand st { x with
         active := some new, other := other, lr := r.lr, carry := 0, lres := lres, implausible := 0, deadReckon := false
         late := false, state := if x.state = .out then .out else .feeding }
     let counted (u : State) : State := { u with scu := { u.scu with
       runs := u.scu.runs.set p ((u.run? p).map fun a => { a with made := min 65535 (a.made + 1) })
       presses := u.scu.presses.set p { u.press p with splice :=
         { remaining := if s.inUse p = true then (s.activePress p).spliceLen else 0, stand := some st, roll := some new } } } }
     let answer (u : State) : Prop :=
       let v := u.starveTest st
       let w := if lres = x.lres then v else v.lateTest st
       exec (.spliceMade dst src old new) s = .next (State.placeUpper ⟨dst, src, 0x32, [1] ++ (beWord old ++ beWord new)⟩
         (if w.activeHeld st = true then w.heldRunning st else w))
     (∀ j q, x.active = some old → old ≠ new → s.findRoll old = some (j, q) → q.id = old → j ≠ k →
       answer (counted ((turned (.butt old) (s.setSlot j { q with status := .butt st })).computeTs st))) ∧
     (x.active = none → old = 0 → answer ((counted ((turned .none s).computeTs st)).armEmptied st))) ∧
  (∀ (st : StandIx) (p : PressIx) (dst src : Byte) (roll other : Word) (k : Nat) (r : Roll) (s : State),
     Heard .stand (num st) dst src s → s.noParity →
     let x := s.stand st
     x.press = some p → x.active = some roll → s.findRoll roll = some (k, r) → r.id = roll →
     let n := if s.inUse p = true then (s.activePress p).breakLen else 0
     let b := min 7 (r.breaks + 1)
     let limited : Prop := s.inUse p = true ∧ (s.activePress p).breakLimit ≤ b ∧ r.holds.breaks = false
     let counted (missed : Nat) (holds : Holds) : State :=
       { s.setSlot k { r with breaks := b, holds := holds } with scu := { s.scu with
         runs := s.scu.runs.set p ((s.run? p).map fun u =>
           { u with missed := min 65535 (u.missed + missed), breaks := min 65535 (u.breaks + 1) })
         presses := s.scu.presses.set p { s.press p with brk := { remaining := n, stand := none, roll := some roll } } } }
     let broken (t : State) : Prop :=
       exec (.webBreak dst src roll) s = .next (t.placeUpper ⟨dst, src, 0x33, beWord roll⟩)
     let missed (t : State) : Prop := exec (.spliceMissed dst src roll other) s =
       .next (t.placeUpper ⟨dst, src, 0x32, [2] ++ (beWord roll ++ beWord other)⟩)
     (¬ limited → (∀ u, s.run? p = some u → u.missed ≤ 65535) → broken (counted 0 r.holds)) ∧
     (¬ limited → x.other = .standby other → missed (counted 1 r.holds)) ∧
     (limited → r.holds ≠ ⟨false, false, false, false, false⟩ → (∀ u, s.run? p = some u → u.missed ≤ 65535) →
       broken ((counted 0 { r.holds with breaks := true }).raiseField .rollBreakHold roll roll)) ∧
     (limited → r.holds ≠ ⟨false, false, false, false, false⟩ → x.other = .standby other →
       missed ((counted 1 { r.holds with breaks := true }).raiseField .rollBreakHold roll roll))) ∧
  ∀ (st : StandIx) (p : PressIx) (dst src : Byte) (roll other : Word) (k : Nat) (r : Roll) (s : State),
    Heard .stand (num st) dst src s → s.noParity →
    let x := s.stand st
    x.press = some p → x.active = some roll → s.findRoll roll = some (k, r) → r.id = roll → r.status = .running st →
    r.holds = ⟨false, false, false, false, false⟩ → s.inUse p = true →
    let b := min 7 (r.breaks + 1)
    (s.activePress p).breakLimit ≤ b →
    let held (missed : Nat) : State :=
      let u : State := { s.setSlot k { r with breaks := b, holds := ⟨false, true, false, false, false⟩ } with scu := { s.scu with
        runs := s.scu.runs.set p ((s.run? p).map fun a =>
          { a with missed := min 65535 (a.missed + missed), breaks := min 65535 (a.breaks + 1) }) } }
      (u.heldRunning st).raiseField .rollBreakHold roll roll
    let opened (u : State) : State := { u with scu := { u.scu with
      presses := u.scu.presses.set p { s.press p with
        brk := { remaining := (s.activePress p).breakLen, stand := none, roll := some roll } } } }
    ((∀ a, s.run? p = some a → a.missed ≤ 65535) →
      exec (.webBreak dst src roll) s = .next ((opened (held 0)).placeUpper ⟨dst, src, 0x33, beWord roll⟩)) ∧
    (x.other = .standby other → exec (.spliceMissed dst src roll other) s =
      .next ((opened (held 1)).placeUpper ⟨dst, src, 0x32, [2] ++ (beWord roll ++ beWord other)⟩))

/-! ### Time to splice, starvation and calls -/

/-- A computed Ts of a FEEDING stand in the lead (R131), over records with good parity, and what it does to the call
list (R135, R136): a call with a clear early mark moves to its new due second, and a stand without call and standby
opens one when its active roll is held or Ts is within the call lead; when both hold the call is early, which is the
model's choice (log 16). In START-UP and CONFIG only Ts is written. Ts of any stand (R131), the call test (R135,
R136), what follows a change of a stand's state (R132, R136) or a hold on its roll (R13), and the test for a search
start (R137), over records with good parity. A held FEEDING roll makes its call early (log 16). Starvation (R102,
R103): a FEEDING stand whose roll has run out while its press runs becomes STARVED with Ts unbounded, sets
STAND-STARVED, is the last-starved report and joins the starved set, and its call is due now: opened, or made early.
The late-splice test (R134): once for a roll, when the paper has run a late margin below the reserve or is gone. -/
def Obligations.TimeToSpliceStarvationAndLateness : Prop :=
  (∀ (st : StandIx) (p : PressIx) (s : State),
     let x := s.stand st
     let E := (s.speed p).estimate
     let T := if (s.speedSettings p).floor ≤ E then min 65535 ((x.lr - x.lres) * 6 / E) else 65535
     let timed := s.setStand st { x with ts := T }
     let opened (due : Nat) (early : Bool) : State :=
       (timed.putCall { stand := st, phase := .opened, noRoll := false, due := due, early := early, overdue := false }).startSearch
     s.noParity → x.press = some p → s.inLead st = true → x.state = .feeding →
     (s.running = false → s.computeTs st = timed) ∧
     (s.running = true →
       (∀ c, s.call? st = some c →
         s.computeTs st = if c.early then timed else timed.putCall { c with due := s.clock.toNat / 10 + T }) ∧
       (s.call? st = none → (∀ id, x.other ≠ .standby id) →
         (s.activeHeld st = true → s.computeTs st = opened (s.clock.toNat / 10) true) ∧
         (s.activeHeld st = false → T ≤ (s.activeStand st).callLead →
           s.computeTs st = opened (s.clock.toNat / 10 + T) false) ∧
         (s.activeHeld st = false → (s.activeStand st).callLead < T → s.computeTs st = timed)) ∧
       (s.call? st = none → (∃ id, x.other = .standby id) → s.computeTs st = timed))) ∧
  (∀ (st : StandIx) (s : State), s.noParity →
     let x := s.stand st
     let now := s.clock.toNat / 10
     let opened (u : State) (due : Nat) (early : Bool) : State :=
       (u.putCall { stand := st, phase := .opened, noRoll := false, due := due, early := early, overdue := false }).startSearch
     let may : Prop := s.running = true ∧ s.inLead st = true ∧ s.call? st = none ∧ ∀ id, x.other ≠ .standby id
     let unbounded := s.setStand st { x with ts := 65535 }
     (∀ T : Nat,
       ((∀ p, x.press = some p → s.inLead st = true → (x.state = .feeding ∨ x.state = .armed) →
         (s.speedSettings p).floor ≤ (s.speed p).estimate →
         T = min 65535 ((x.lr - x.lres) * 6 / (s.speed p).estimate)) ∧
       ((∀ p, x.press = some p → ¬ (s.inLead st = true ∧ (x.state = .feeding ∨ x.state = .armed) ∧
         (s.speedSettings p).floor ≤ (s.speed p).estimate)) → T = 65535)) →
       let timed := s.setStand st { x with ts := T }
       (s.running = false → s.computeTs st = timed) ∧
       (s.running = true →
         (s.call? st = none → s.computeTs st = timed.callTest st) ∧
         ∀ c, s.call? st = some c →
           s.computeTs st = if c.early then timed else timed.putCall { c with due := now + T })) ∧
     (¬ may → s.callTest st = s) ∧
     (may →
       (x.state = .idle ∨ x.state = .starved → s.callTest st = opened s now true) ∧
       (x.state = .armed ∨ x.state = .out → s.callTest st = s) ∧
       (x.state = .feeding →
         (s.activeHeld st = true → s.callTest st = opened s now true) ∧
         (s.activeHeld st = false → x.ts ≤ (s.activeStand st).callLead → s.callTest st = opened s (now + x.ts) false) ∧
         (s.activeHeld st = false → (s.activeStand st).callLead < x.ts → s.callTest st = s))) ∧
     (x.state = .out → s.stateChanged st = unbounded) ∧
     (x.state = .idle ∨ x.state = .starved →
       (s.running = false → s.stateChanged st = unbounded) ∧
       (s.running = true →
         (∀ c, s.call? st = some c → s.stateChanged st = unbounded.putCall { c with due := now, early := true }) ∧
         (s.call? st = none → s.stateChanged st = unbounded.callTest st))) ∧
     (x.state = .feeding ∨ x.state = .armed → s.stateChanged st = s.callTest st) ∧
     (s.running = false → s.heldRunning st = s) ∧
     (s.running = true →
       (∀ c, s.call? st = some c → s.heldRunning st = s.putCall { c with due := now, early := true }) ∧
       (s.call? st = none → s.heldRunning st = s.callTest st)) ∧
     (∀ id, x.active = some id → (s.activeHeld st = true ↔
       ∃ k r, s.findRoll id = some (k, r) ∧ r.holds ≠ ⟨false, false, false, false, false⟩)) ∧
     (s.running = false ∨ s.fdu.search ≠ none ∨ (∀ c ∈ s.fdu.calls, c.phase ≠ .opened ∨ c.noRoll = true) → s.startSearch = s) ∧
     ∀ before c after, s.running = true → s.fdu.search = none → s.fdu.calls = before ++ c :: after → c.phase = .opened →
       c.noRoll = false → (∀ b ∈ before, b.phase ≠ .opened ∨ b.noRoll = true) → s.callsOrdered →
       s.startSearch = { s with fdu := { s.fdu with
         calls := before ++ { c with phase := .searching } :: after
         search := some { stand := c.stand, next := 1, best := none, noticed := false } } }) ∧
  (∀ (st : StandIx) (p : PressIx) (s : State),
     let x := s.stand st
     x.press = some p →
     let starves : Prop := s.running = true ∧ x.state = .feeding ∧ x.lr = 0 ∧ 0 < (s.speed p).estimate
     let now := s.clock.toNat / 10
     let u := s.raise .standStarved (num st)
     let starved : State := { u with fdu := { s.fdu with
       stands := s.fdu.stands.set st { x with state := .starved, ts := 65535 }
       lastStarved := num st, lastStarvedTick := s.clock, starved := s.fdu.starved ||| BitVec.twoPow 32 st.val } }
     (¬ starves → s.starveTest st = s) ∧
     (starves → ∀ c, s.call? st = some c → s.starveTest st = starved.putCall { c with due := now, early := true }) ∧
     (starves → s.call? st = none → s.inLead st = true → (∀ id, x.other ≠ .standby id) →
       s.starveTest st = (starved.putCall
         { stand := st, phase := .opened, noRoll := false, due := now, early := true, overdue := false }).startSearch)) ∧
  ∀ (st : StandIx) (s : State),
    let x := s.stand st
    let late : Prop := s.running = true ∧ s.inLead st = true ∧ x.active ≠ none ∧ x.late = false ∧
      (x.lr + 10 * s.fdu.lateMargin ≤ x.lres ∨ x.lr = 0)
    (late → s.lateTest st = (s.setStand st { x with late := true }).raise .spliceLate (num st)) ∧
    (¬ late → s.lateTest st = s)

/-! ### Press speed -/

/-- The slew limiter (R120): the estimate moves toward a sample by at most the step, LIMITING says whether it was cut
short, the update age is 0, and a changed estimate is handed to the stands (R121). -/
def Obligations.SlewLimiterBoundsSample : Prop :=
  ∀ (p : PressIx) (sample : Nat) (s : State),
    let x := s.speed p
    let E := x.estimate
    let step := max 1 ((s.speedSettings p).slew * x.age / 10)
    let moved (e : Nat) (limiting : Bool) : State :=
      (s.setSpeed p { x with estimate := e, limiting := limiting, age := 0 }).handOver p E
    (E ≤ sample + step → sample ≤ E + step → s.applySample p sample = moved sample false) ∧
    (E + step < sample → s.applySample p sample = moved (E + step) true) ∧
    (sample + step < E → s.applySample p sample = moved (E - step) true) ∧
    (E ≤ 1500 → sample ≤ 1500 → ((s.applySample p sample).speed p).estimate ≤ 1500) ∧
    ((s.applySample p sample).speed p).age = 0

/-- A DRIVE of the press its node stands for, whatever its press byte (R118): ticks and silence are taken, and outside
FORCED the state is TRACK-PRIMARY and the sample, at most 1,500, goes through the limiter. A change of the estimate is
handed to the press's stands in number order, for each stand Ts before the starvation test (R121; the interleaving is
the model's reading, log 19). -/
def Obligations.DriveGivesPrimarySample : Prop :=
  (∀ (p : PressIx) (dst src press : Byte) (speed : Half) (s : State), Heard .drive (num p) dst src s →
    let x := s.speed p
    let sent : Telegram := ⟨dst, src, 0x41, [press] ++ be16 speed.toNat⟩
    (x.source = .forced → exec (.drive dst src press speed) s =
      .next ((s.setSpeed p { x with lastDrive := s.clock, driveSilence := 0 }).placeUpper sent)) ∧
    (x.source ≠ .forced → exec (.drive dst src press speed) s =
      .next (((s.setSpeed p { x with lastDrive := s.clock, driveSilence := 0, source := .trackPrimary }).applySample p
        (min 1500 speed.toNat)).placeUpper sent))) ∧
  ∀ (p : PressIx) (old : Nat) (s : State),
    ((s.speed p).estimate = old → s.handOver p old = s) ∧
    ((s.speed p).estimate ≠ old → s.handOver p old =
      ((List.finRange 24).filter fun st => (s.stand st).press = some p).foldl
        (fun s st => (s.computeTs st).starveTest st) s)

/-- Silence and holdover (R122, R123): a silent drive leaves TRACK-PRIMARY for TRACK-SECONDARY or HOLD, a silent
folder closes the interval and leaves TRACK-SECONDARY for HOLD, and a HOLD at its limit becomes NOMINAL at the plan's
speed. HOLD and NOMINAL set their flags. SPEED-FORCE sets the estimate at once, and SPEED-FREE ends FORCED alone
(R125). The event is struck from the due list (log 7), and SPEED-NOMINAL comes before the hand-over (log 19), by the
model's choice. -/
def Obligations.SilenceHoldoverAndForce : Prop :=
  (∀ (p : PressIx) (s : State), s.pins.rstLow = false → s.running = true → s.inUse p = true →
    let x := s.speed p
    let q := (s.speedSettings p).silence
    let taken (d : Due) : State := { s with due := s.due.filter (· ≠ d) }
    let held (y : Speed) (t : State) : State :=
      (t.setSpeed p { y with source := .hold, holdover := 0 }).raise .speedHoldover (num p)
    (.driveSilent p ∈ s.due → x.source = .trackPrimary → q ≤ x.driveSilence →
      (x.interval = none → exec (.driveSilent p) s = .next (held x (taken (.driveSilent p)))) ∧
      (x.interval ≠ none → exec (.driveSilent p) s =
        .next ((taken (.driveSilent p)).setSpeed p { x with source := .trackSecondary }))) ∧
    (.countSilent p ∈ s.due → q ≤ x.countSilence →
      (x.source = .trackSecondary → exec (.countSilent p) s =
        .next (held { x with interval := none } (taken (.countSilent p)))) ∧
      (x.source ≠ .trackSecondary → x.source ≠ .forced → x.interval ≠ none → exec (.countSilent p) s =
        .next ((taken (.countSilent p)).setSpeed p { x with interval := none }))) ∧
    (.holdover p ∈ s.due → x.source = .hold → 10 * (s.speedSettings p).holdover ≤ x.holdover →
      exec (.holdoverLimit p) s = .next
        ((((taken (.holdover p)).setSpeed p
          { x with source := .nominal, estimate := (s.activePress p).nominal, age := 0, limiting := false }).raise
            .speedNominal (num p)).handOver p x.estimate))) ∧
  ∀ (p : PressIx) (t : Telegram) (rest : List Telegram) (s : State), (u8 t.body 1).toNat = num p →
    let x := s.speed p
    let q := (s.speedSettings p).silence
    let w := s.popped rest
    (Ready .speedForce t rest s →
      exec .speedForce s = .next (State.reply t { result := if 1500 < u16 t.body 2 then .clamped else .ok }
        ((w.setSpeed p { x with source := .forced, estimate := min 1500 (u16 t.body 2), age := 0, limiting := false }).handOver p
          x.estimate))) ∧
    (Ready .speedFree t rest s →
      (x.source ≠ .forced → exec .speedFree s = .next (w.reply t { result := .ok })) ∧
      (x.source = .forced → x.driveSilence < q ∨ x.countSilence < q →
        exec .speedFree s = .next (State.reply t { result := .ok } (w.setSpeed p { x with source := .trackPrimary }))) ∧
      (x.source = .forced → q ≤ x.driveSilence → q ≤ x.countSilence →
        exec .speedFree s = .next (State.reply t { result := .ok }
          ((w.setSpeed p { x with source := .hold, holdover := 0, interval := none }).raise .speedHoldover (num p)))))

/-! ### Copies -/

/-- The class of a waste increment (R155): the reason's own, or for UNCLASSED and undefined codes the first of the
windows and the phases that holds. -/
def Obligations.WasteClassByFirstCase : Prop :=
  ∀ (p : PressIx) (reason : Byte) (s : State),
    (reason = 1 → s.wasteClass p reason = .startUp) ∧ (reason = 2 → s.wasteClass p reason = .splice) ∧
    (reason = 3 → s.wasteClass p reason = .brk) ∧ (reason = 4 → s.wasteClass p reason = .plateChange) ∧
    (reason = 5 → s.wasteClass p reason = .other) ∧
    ((reason = 0 ∨ 5 < reason.toNat) →
      (0 < (s.press p).brk.remaining → s.wasteClass p reason = .brk) ∧
      ((s.press p).brk.remaining = 0 →
        (0 < (s.press p).splice.remaining → s.wasteClass p reason = .splice) ∧
        ((s.press p).splice.remaining = 0 →
          (∀ r, s.run? p = some r →
            (r.phase = .startUp → s.wasteClass p reason = .startUp) ∧
            (r.phase = .plateChange → s.wasteClass p reason = .plateChange) ∧
            (r.phase = .good → s.wasteClass p reason = .other)) ∧
          (s.run? p = none → s.wasteClass p reason = .other))))

/-- A COUNT of the press its node stands for, whatever its press byte (R154, R157): the SCU adds the copies to the run
or the idle counters, charges the waste to the rolls of its class, runs the windows down and, in phase GOOD on a press
in use, counts the block (R161); then the FDU takes it (log 20). Here the records have good parity. A COUNT's part for
the press speed (R119): the first of an interval opens it, one in the same tick is added to the pending increment, a
later one forms the secondary sample, which moves the estimate in TRACK-SECONDARY, HOLD and NOMINAL alone. -/
def Obligations.CountIsTakenByScuAndFdu : Prop :=
  (∀ (p : PressIx) (dst src press : Byte) (good waste : Half) (reason : Byte) (s : State),
     Heard .folder (num p) dst src s → s.noParity →
     let g := good.toNat
     let w := waste.toNat
     let x := s.press p
     let c := s.wasteClass p reason
     let sent : Telegram := ⟨dst, src, 0x42, [press] ++ (be16 g ++ be16 w ++ [reason])⟩
     let answer (t : State) : Prop := exec (.count dst src press good waste reason) s =
       .next ((t.countSpeed p (g + w)).placeUpper sent)
     let cap (n : Nat) : Nat := min 4294967295 n
     let fallen : PressRec := { x with
       splice := { x.splice with remaining := x.splice.remaining - (g + w) }
       brk := { x.brk with remaining := x.brk.remaining - (g + w) } }
     let rolls : List RollId :=
       if c = .splice then x.splice.roll.toList else if c = .brk then x.brk.roll.toList
       else ((List.finRange 24).filter fun st => (s.stand st).press = some p).filterMap
         fun st => if s.inLead st then (s.stand st).active else none
     let charged (t : State) : State :=
       if w = 0 then t
       else rolls.foldl (fun t id => t.updRoll id fun r => { r with waste := min 16777215 (r.waste + w) }) t
     (s.run? p = none →
       answer (charged { s with scu := { s.scu with
         presses := s.scu.presses.set p
           { fallen with idleGood := cap (x.idleGood + g), idleWaste := cap (x.idleWaste + w) } } })) ∧
     ∀ r, s.run? p = some r →
       let counted : State := charged { s with scu := { s.scu with
         presses := s.scu.presses.set p fallen
         runs := s.scu.runs.set p (some { r with
           good := cap (r.good + g)
           wasteStartUp := if c = .startUp then cap (r.wasteStartUp + w) else r.wasteStartUp
           wasteSplice := if c = .splice then cap (r.wasteSplice + w) else r.wasteSplice
           wasteBreak := if c = .brk then cap (r.wasteBreak + w) else r.wasteBreak
           wastePlate := if c = .plateChange then cap (r.wastePlate + w) else r.wastePlate
           wasteOther := if c = .other then cap (r.wasteOther + w) else r.wasteOther }) } }
       (r.phase ≠ .good ∨ s.inUse p = false → answer counted) ∧
       (r.phase = .good → s.inUse p = true → answer (counted.countBlock p g w))) ∧
  ∀ (p : PressIx) (inc : Nat) (s : State),
    let x := s.speed p
    let taken (src : SpeedSource) (pending : Nat) : State :=
      s.setSpeed p { x with lastCount := s.clock, countSilence := 0, interval := some 0, pendingInc := pending, source := src }
    let after : SpeedSource := if x.source = .hold ∨ x.source = .nominal then .trackSecondary else x.source
    (x.interval = none → s.countSpeed p inc = taken after 0) ∧
    (x.interval = some 0 → s.countSpeed p inc = taken after (min 16777215 (x.pendingInc + inc))) ∧
    ∀ k, x.interval = some (k + 1) →
      let sample := min 1500 ((inc + x.pendingInc) * (s.activePress p).cutoff * 3 / (5 * (k + 1)))
      (x.source = .trackPrimary ∨ x.source = .forced ∨ s.inUse p = false → s.countSpeed p inc = taken after 0) ∧
      (after = .trackSecondary → s.inUse p = true →
        s.countSpeed p inc = (taken .trackSecondary 0).applySample p sample)

/-- The block and the monitor (R161, R162): a COUNT in phase GOOD on a press in use is added to the block; at the
plan's size the ratio is stored, the block starts anew and the monitor moves by the first row that holds, setting the
flag of the state it enters. -/
def Obligations.BlockMovesMonitor : Prop :=
  (∀ (m : Monitor) (r warn alarm h : Nat),
    (m = .ok → m.next r warn alarm h = if alarm ≤ r then .alarm else if warn ≤ r then .warn else .ok) ∧
    (m = .warn → m.next r warn alarm h =
      if alarm ≤ r then .alarm else if (r : Int) < (warn : Int) - h then .ok else .warn) ∧
    (m = .alarm → m.next r warn alarm h =
      if (r : Int) < (warn : Int) - h then .ok else if (r : Int) < (alarm : Int) - h then .warn else .alarm)) ∧
  ∀ (p : PressIx) (g w : Nat) (run : Run) (s : State), s.run? p = some run →
    let x := s.press p
    let plan := s.activePress p
    let copies := min 4294967295 (x.blockCopies + (g + w))
    let waste := min 4294967295 (x.blockWaste + w)
    let r := waste * 1000 / copies
    let m := x.monitor.next r plan.warn plan.alarm plan.hyst
    let written (y : PressRec) : State := { s with scu := { s.scu with presses := s.scu.presses.set p y } }
    let done := written { x with lastRatio := r, blockCopies := 0, blockWaste := 0, monitor := m }
    (run.phase ≠ .good ∨ s.inUse p = false → s.countBlock p g w = s) ∧
    (run.phase = .good → s.inUse p = true →
      (copies < plan.block → s.countBlock p g w = written { x with blockCopies := copies, blockWaste := waste }) ∧
      (plan.block ≤ copies →
        (m = x.monitor ∨ m = .ok → s.countBlock p g w = done) ∧
        (m ≠ x.monitor → m = .warn → s.countBlock p g w = done.raise .wasteWarn (num p)) ∧
        (m ≠ x.monitor → m = .alarm → s.countBlock p g w = done.raise .wasteAlarm (num p))))

/-! ### The prediction tick, the roll search and autonomous running -/

/-- The prediction tick (R133, R142): the stands in number order each judge their call, lower their roll by the press
speed, make the late test and compute Ts. The dead reckoning is stated over records with good parity. A tick that fell
due twice before it is taken is taken once, and the interleaving of the stands' steps is the model's (log 7, log 19).
-/
def Obligations.PredictionTickDeadReckons : Prop :=
  (∀ s : State, s.pins.rstLow = false → s.running = true → .prediction ∈ s.due →
    exec .predictionTick s = .next ((List.finRange 24).foldl
      (fun s st => (((s.judgeOverdue st).deadReckon st).lateTest st).computeTs st)
      { s with due := s.due.filter (· ≠ .prediction) })) ∧
  (∀ s : State, .prediction ∉ s.due → exec .predictionTick s = .next s) ∧
  (∀ (st : StandIx) (p : PressIx) (id : RollId) (k : Nat) (r : Roll) (s : State),
    let x := s.stand st
    s.noParity → x.press = some p → x.active = some id → s.findRoll id = some (k, r) →
    let sum := (s.speed p).estimate + x.carry
    let u := (s.setSlot k { r with lr := x.lr - sum / 6 }).setStand st { x with lr := x.lr - sum / 6, carry := sum % 6 }
    (s.inLead st = false → s.deadReckon st = s) ∧
    (s.inLead st = true → x.lr = 0 ∨ x.lr - sum / 6 ≠ 0 → s.deadReckon st = u) ∧
    (s.inLead st = true → x.lr ≠ 0 → x.lr - sum / 6 = 0 → s.deadReckon st = u.starveTest st)) ∧
  (∀ (st : StandIx) (s : State), (s.stand st).active = none → s.deadReckon st = s) ∧
  ∀ (st : StandIx) (c : Call) (s : State), s.call? st = some c →
    (∀ id, c.phase = .selected id → c.overdue = false → c.due < s.clock.toNat / 10 →
      s.judgeOverdue st = (s.putCall { c with overdue := true }).raise .callOverdue (num st)) ∧
    ((∀ id, c.phase ≠ .selected id) ∨ c.overdue = true ∨ s.clock.toNat / 10 ≤ c.due → s.judgeOverdue st = s)

/-- One slot of the roll search (R137): a STORED roll with no hold, that no call names, of the plan's grade, width and
length, at a place that is not blocked is a candidate, and it replaces a worse one, and no other. A step past the last
slot changes nothing, which is the model's choice (log 2). Here the records have good parity. -/
def Obligations.SearchStepKeepsBest : Prop :=
  (∀ (x : Search) (s : State), s.pins.rstLow = false → s.running = true → s.noParity → s.fdu.search = some x →
    (x.next ≤ s.tmc.sizes.rolls → exec .searchStep s = .next { s with fdu := { s.fdu with
      search := some { x with next := x.next + 1, best := State.bestOf x.best (s.candidate? x.stand x.next) } } }) ∧
    (s.tmc.sizes.rolls < x.next → exec .searchStep s = .next s)) ∧
  (∀ (st : StandIx) (k : Nat) (s : State),
    let plan := s.activeStand st
    (s.slot? k = none → s.candidate? st k = none) ∧
    ∀ r, s.slot? k = some r →
      let fit : Prop := r.holds = ⟨false, false, false, false, false⟩ ∧ s.callNaming? r.id = none ∧
        r.grade = plan.grade ∧ r.width = plan.width ∧ 10 * plan.minLength ≤ r.lr
      ((∀ p, r.status ≠ .stored p) → s.candidate? st k = none) ∧
      ∀ p, r.status = .stored p →
        (fit → (s.place p).blocked = false → s.candidate? st k =
          some { slot := k, roll := r.id, hasRun := r.hasRun, announced := r.announced, place := p }) ∧
        (¬ fit ∨ (s.place p).blocked = true → s.candidate? st k = none)) ∧
  ∀ a b : Candidate,
    State.bestOf none (some a) = some a ∧ State.bestOf (some b) none = some b ∧ State.bestOf none none = none ∧
    State.bestOf (some b) (some a) = (if a.better b = true then some a else some b) ∧
    (a.better b = true ↔
      (a.hasRun = true ∧ b.hasRun = false) ∨
      (a.hasRun = b.hasRun ∧ (a.announced.toNat < b.announced.toNat ∨
        (a.announced = b.announced ∧ a.place < b.place))))

/-- The completion of a search (R138, R140): a candidate still eligible is reserved for the call, which is SELECTED
and, in NORMAL, announced; one that is not, or a notice taken during an empty scan, starts the scan anew; an empty
scan leaves the call OPEN with its no-roll mark and NO-ROLL. Here the records have good parity, the call is the only
one, and a CALL goes to the collector when one is set. The availability notice (R11, R138): every call's no-roll mark
is cleared, a scan in flight notes it, and the next search starts for the first OPEN call. -/
def Obligations.SearchCompletesAndStartsAgain : Prop :=
  (∀ (x : Search) (c : Call) (s : State), s.pins.rstLow = false → s.sfu.mode = .normal → s.noParity →
     s.fdu.search = some x → s.fdu.calls = [c] → c.stand = x.stand → s.tmc.sizes.rolls < x.next →
     let anew : State := { s with fdu := { s.fdu with search := some { stand := x.stand, next := 1, best := none, noticed := false } } }
     (∀ b r, x.best = some b → s.candidate? x.stand b.slot = some b → s.slot? b.slot = some r →
       let chosen : State := { s with
         tmc := { s.tmc with rolls := Table.insert b.slot { r with status := .reserved b.place (.call x.stand) } s.tmc.rolls }
         fdu := { s.fdu with search := none, calls := [{ c with phase := .selected r.id }] } }
       (s.sfu.collector = 0 → exec .searchComplete s = .next chosen) ∧
       (s.sfu.collector ≠ 0 → s.findRoll r.id = some (b.slot, r) →
         exec .searchComplete s = .next (chosen.placeUpper
           ⟨s.sfu.collector, s.ownAddr, 0x61, be8 (num x.stand) ++ beWord r.id ++ be16 b.place ++ be32 c.due⟩))) ∧
     (∀ b, x.best = some b → s.candidate? x.stand b.slot = none → exec .searchComplete s = .next anew) ∧
     (x.best = none → x.noticed = true → exec .searchComplete s = .next anew) ∧
     (x.best = none → x.noticed = false → exec .searchComplete s = .next (State.raise .noRoll (num x.stand)
       { s with fdu := { s.fdu with search := none, calls := [{ c with phase := .opened, noRoll := true }] } }))) ∧
  ∀ s : State,
    let unmarked := s.fdu.calls.map fun c => { c with noRoll := false }
    (∀ x, s.fdu.search = some x → s.availability =
      { s with fdu := { s.fdu with calls := unmarked, search := some { x with noticed := true } } }) ∧
    (s.fdu.search = none →
      (s.running = false ∨ (∀ c ∈ s.fdu.calls, c.phase ≠ .opened) →
        s.availability = { s with fdu := { s.fdu with calls := unmarked } }) ∧
      ∀ before c after, s.running = true → s.fdu.calls = before ++ c :: after → (∀ b ∈ before, b.phase ≠ .opened) →
        c.phase = .opened → s.callsOrdered →
        s.availability = { s with fdu := { s.fdu with
          calls := unmarked.map fun d => if d.stand = c.stand then { d with phase := .searching } else d
          search := some { stand := c.stand, next := 1, best := none, noticed := false } } })

/-- What becomes of a call (R143). With its roll's pick, and with the end of its order (R83): a pick by a vehicle
whose outstanding order is linked to the call leaves it ORDERED, any other pick reopens it, and the search starts;
an order's end returns it to SELECTED when its roll has no hold and is RESERVED for it or CARRIED on the vehicle,
and reopens it else. Here it is the only call, without no-roll mark, no search runs, the mode is NORMAL without a
collector and the records have good parity. The usual pick of a call's roll (R81, R143): the vehicle lifts it for
the order that is linked to the call, which moves to TO-DROP; the call stays ORDERED. Here it is the only call, and
the records have good parity. The other rows of R143, each of which reopens the call so that the search starts: a
first hold, of whichever kind, on the roll of a call in SELECTED, RESERVED for it and then STORED again, or CARRIED
(R13); the removal of the roll in SELECTED or ORDERED, by MROLL REMOVE or at a waste bay (R25, R21); its drop at a
place, at a dock or on another stand's arm in SELECTED (R19 to R21). A hold or such a drop leaves an ORDERED call as
it is. That the call reopened by a drop at a place takes the availability notice of that drop is the model's choice
(log 49). Here the call is without no-roll mark, no search runs, the tables are in canonical form with good parity,
one record has the roll's id, and no drop claim is on the place or the arm. -/
def Obligations.CallsReopenAndRevert : Prop :=
  (∀ (v : VehicleIx) (c : Call) (id : Word) (k : Nat) (r : Roll) (dst src : Byte) (s : State),
     Heard .vehicle (num v) dst src s → s.noParity → s.sfu.mode = .normal → s.sfu.collector = 0 → s.fdu.calls = [c] →
     s.fdu.search = none → c.noRoll = false → s.findRoll id = some (k, r) →
     let x := s.vehicle v
     let calls (phase : CallPhase) (search : Option Search) (u : State) : State :=
       { u with fdu := { u.fdu with calls := [{ c with phase := phase }], search := search } }
     let reopened (u : State) : State :=
       calls .searching (some { stand := c.stand, next := 1, best := none, noticed := false }) u
     (∀ p (number : Half), r.status = .reserved p (.call c.stand) → number.toNat = p → 1 ≤ p → p ≤ s.tmc.sizes.places →
       x.load = .empty → (∀ o ∈ x.outstanding, o.progress ≠ .toPickup) →
       let answer (u : State) : Prop := exec (.vloadPick dst src 1 number id) s =
         .next (u.placeUpper ⟨dst, src, 0x22, [1, 1] ++ be16 number.toNat ++ beWord id⟩)
       let picked := ((s.setPlace p { s.place p with occupant := none }).setSlot k
         { r with status := .carried (some v) }).setVehicle v { x with load := .roll id }
       (c.phase = .selected id → answer (reopened picked)) ∧
       (∀ l, c.phase = .ordered id l → l.vehicle = v → (∃ o ∈ x.outstanding, o.tag = l.tag) → answer picked) ∧
       (∀ l, c.phase = .ordered id l → l.vehicle ≠ v ∨ (∀ o ∈ x.outstanding, o.tag ≠ l.tag) →
         answer (reopened (picked.updOrder l fun o => { o with link := none })))) ∧
     ∀ (tag outcome : Byte) (o : Order), 1 ≤ outcome.toNat → outcome.toNat ≤ 4 → x.status = .busy →
       x.causes.deadlock = false → x.claims = [] → x.queue = [] → s.waitsFor? v = none → x.outstanding = [o] → o.tag = tag →
       o.claim ≠ .held → o.link = some c.stand → c.phase = .ordered id ⟨v, tag⟩ →
       let answer (u : State) : Prop :=
         exec (.vdone dst src tag outcome) s = .next (u.placeUpper ⟨dst, src, 0x23, [tag, outcome]⟩)
       let ended := s.setVehicle v { x with
         outstanding := [], path := [], pointer := 0, status := .idle
         endLoc := if outcome = 1 then x.endLoc else if x.currentSeg = 0 then ⟨.home, x.home⟩ else ⟨.segment, x.currentSeg⟩ }
       (r.holds = ⟨false, false, false, false, false⟩ →
         (∃ p, r.status = .reserved p (.call c.stand)) ∨ r.status = .carried (some v) →
         answer (calls (.selected id) none ended)) ∧
       ((∀ p, r.status ≠ .reserved p (.call c.stand)) →
         r.holds ≠ ⟨false, false, false, false, false⟩ ∨ r.status ≠ .carried (some v) →
         answer (reopened ended)) ∧
       ∀ p, r.status = .reserved p (.call c.stand) → r.holds ≠ ⟨false, false, false, false, false⟩ →
         answer (reopened (ended.setSlot k { r with status := .stored p }))) ∧
  (∀ (v : VehicleIx) (c : Call) (id : Word) (k p : Nat) (r : Roll) (o : Order) (owner : Owner) (dst src : Byte) (number : Half)
    (s : State), Heard .vehicle (num v) dst src s → s.noParity → s.fdu.calls = [c] → s.findRoll id = some (k, r) →
    r.status = .reserved p owner → number.toNat = p → 1 ≤ p → p ≤ s.tmc.sizes.places →
    let x := s.vehicle v
    x.load = .empty ∨ x.load = .unknown → x.outstanding = [o] → o.progress = .toPickup → o.pickup = ⟨.place, p⟩ →
    c.phase = .ordered id ⟨v, o.tag⟩ → (∀ q ∈ x.queue, q.tag ≠ o.tag) →
    exec (.vloadPick dst src 1 number id) s = .next (State.placeUpper ⟨dst, src, 0x22, [1, 1] ++ be16 number.toNat ++ beWord id⟩
      (((s.setPlace p { s.place p with occupant := none }).setSlot k { r with status := .carried (some v) }).setVehicle v
        { x with load := .roll id, outstanding := [{ o with progress := .toDrop }] }))) ∧
  ∀ (c : Call) (id : Word) (k : Nat) (r : Roll) (s : State), s.noParity → s.tablesWf = true → s.running = true →
    s.fdu.calls = [c] → s.fdu.search = none → c.noRoll = false → c.phase.roll? = some id → s.findRoll id = some (k, r) →
    (∀ e ∈ s.tmc.rolls, e.2.id = id → e.1 = k) →
    let reopened (noticed : Bool) (u : State) : State := { u with fdu := { u.fdu with
      calls := [{ c with phase := .searching }]
      search := some { stand := c.stand, next := 1, best := none, noticed := noticed } } }
    let unlinked (u : State) : State := match c.phase.link? with
      | some l => u.updOrder l fun o => { o with link := none }
      | none => u
    (∀ kind : HoldKind, r.holds = ⟨false, false, false, false, false⟩ →
      let held (status : RollStatus) : State := s.setSlot k { r with status := status, holds :=
        ⟨decide (kind = .parity), decide (kind = .breaks), decide (kind = .diameter), decide (kind = .lostTrack),
          decide (kind = .management)⟩ }
      (c.phase = .selected id →
        (∀ p, r.status = .reserved p (.call c.stand) → s.addHold id kind = reopened false (held (.stored p))) ∧
        (∀ w, r.status = .carried w → s.addHold id kind = reopened false (held r.status))) ∧
      (∀ l, c.phase = .ordered id l → (∃ p, r.status = .reserved p (.call c.stand)) ∨ (∃ w, r.status = .carried w) →
        s.addHold id kind = held r.status)) ∧
    (∀ (t : Telegram) (rest : List Telegram), u32 t.body 0 = id → id ≠ 0 → id ≠ 0xFFFFFFFF#32 → (u8 t.body 4).toNat ≤ 3 →
      let w := s.popped rest
      let answer (i : Instr) (u : State) : Prop :=
        ∃ data : List Byte, exec i s = .next (u.reply t { result := .ok, data := data })
      (Ready .mrollHold t rest s → answer .mrollHold (w.addHold id .management)) ∧
      (Ready .mrollRemove t rest s →
        (∀ d, r.status = .announced d → answer .mrollRemove (reopened false (unlinked (w.freeSlot k)))) ∧
        ∀ p, r.status = .stored p → answer .mrollRemove
          (reopened false (unlinked ((w.setPlace p { s.place p with occupant := none }).freeSlot k))))) ∧
    ∀ (v : VehicleIx) (dst src : Byte) (number : Half), Heard .vehicle (num v) dst src s → r.status = .carried (some v) →
      let n := number.toNat
      let drop (kind : Byte) (u : State) : Prop := exec (.vloadDrop dst src kind number id) s =
        .next (u.placeUpper ⟨dst, src, 0x22, [2, kind] ++ be16 n ++ beWord id⟩)
      let emptied (u : State) : State := u.setVehicle v { s.vehicle v with load := .empty }
      let down (status : RollStatus) : State := emptied (s.setSlot k { r with status := status })
      let told (noticed : Bool) (u : State) : State := if c.phase = .selected id then reopened noticed u else u
      (1 ≤ n → n ≤ 4 → drop 4 (reopened false (unlinked (emptied ((s.countWriteOff r).freeSlot k))))) ∧
      (1 ≤ n → n ≤ 8 → drop 3 (told false (down (.announced n)))) ∧
      (1 ≤ n → n ≤ s.tmc.sizes.places → (s.place n).occupant = none → (s.place n).blocked = false → (s.place n).claim = none →
        drop 1 (told (decide (r.holds = ⟨false, false, false, false, false⟩))
          ((down (.stored n)).setPlace n { s.place n with occupant := some id }))) ∧
      ∀ st, st ≠ c.stand → n = num st → (s.stand st).other = .none → (s.stand st).claim = none →
        (s.inLead st = true → r.differs (s.activeStand st) = false) →
        drop 2 (told false ((down (.standby st)).setStand st { s.stand st with
          other := .standby id
          state := if (s.stand st).state = .feeding ∨ (s.stand st).state = .starved then .armed else (s.stand st).state }))

/-- The link of a call to an admitted order (R78) and the removal of a call (R144). An order for the call's stand
makes it ORDERED; an order it was linked to before loses the link, and a roll RESERVED for it that the new order does
not carry is STORED again. A roll recorded STANDBY on the stand removes the call, DELIVERED or SUPERSEDED, with the
same two effects for an order and a roll other than the one set down. A plan swap that takes the stand out of the lead
removes it too. Here it is the only call, no search runs, and the records have good parity in canonical tables; the
order's vehicle is halted. -/
def Obligations.CallsAreLinkedAndRemoved : Prop :=
  ∀ (v : VehicleIx) (st : StandIx) (c : Call) (s : State), s.noParity → s.tablesWf = true → s.fdu.calls = [c] →
    c.stand = st → c.noRoll = false → s.fdu.search = none →
    let calls (l : List Call) (u : State) : State := { u with fdu := { u.fdu with calls := l } }
    let unlinked (u : State) : State := match c.phase.link? with
      | some l => u.updOrder l fun o => { o with link := none }
      | none => u
    let reserved (keep : Option RollId) (j : Nat) (q : Roll) (p : Nat) : Prop := ∃ old, c.phase.roll? = some old ∧
      some old ≠ keep ∧ s.findRoll old = some (j, q) ∧ q.status = .reserved p (.call st)
    let stored (j : Nat) (q : Roll) (p : Nat) (u : State) : State := u.setSlot j { q with status := .stored p }
    (∀ (src : Source) (reply tag : Byte) (pickup : Loc) (roll : RollId), (s.vehicle v).causes.none = false →
      (s.stand st).other = .none → roll ≠ 0 →
      let o : Order :=
        { tag := tag, source := src, reply := reply, pickup := pickup, drop := standLoc st, roll := roll, claim := .held
          link := some st, leg1 := [], leg2 := [], progress := if pickup.kind = .none then .toDrop else .toPickup }
      let linked (u : State) : State := calls [{ c with phase := .ordered roll ⟨v, tag⟩ }]
        ((u.setVehicle v { u.vehicle v with queue := (u.vehicle v).queue ++ [o] }).setStand st
          { s.stand st with claim := some ⟨v, tag⟩ })
      (∀ q ∈ (s.vehicle v).outstanding ++ (s.vehicle v).queue, q.tag ≠ tag) →
      let admitted := s.accept v src reply tag pickup (standLoc st) roll
      ((∀ j q p, ¬ reserved (some roll) j q p) → admitted = linked (unlinked s)) ∧
      ∀ j q p, reserved (some roll) j q p → admitted = linked (unlinked (stored j q p s))) ∧
    (∀ (dst src : Byte) (number : Half) (id : Word) (k : Nat) (r : Roll), Heard .vehicle (num v) dst src s →
      s.findRoll id = some (k, r) → r.status = .carried (some v) → number.toNat = num st → (s.stand st).other = .none →
      (s.stand st).claim = none → (s.inLead st = true → r.differs (s.activeStand st) = false) →
      let answer (u : State) : Prop := exec (.vloadDrop dst src 2 number id) s =
        .next ((calls [] u).placeUpper ⟨dst, src, 0x22, [2, 2] ++ be16 number.toNat ++ beWord id⟩)
      let armed := ((s.setSlot k { r with status := .standby st }).setVehicle v
        { s.vehicle v with load := .empty }).setStand st
        { s.stand st with
          other := .standby id
          state := if (s.stand st).state = .feeding ∨ (s.stand st).state = .starved then .armed else (s.stand st).state }
      ((∀ j q p, ¬ reserved (some id) j q p) → answer (unlinked armed)) ∧
      ∀ j q p, reserved (some id) j q p → answer (unlinked (stored j q p armed))) ∧
    ∀ (p : PressIx) (t : Telegram) (rest : List Telegram), Ready .planSwap t rest s → (u8 t.body 1).toNat = num p →
      s.pls.ready[p] = true → (∀ r, (s.stand r).press = some p ↔ r = st) → s.inLead st = true →
      s.pls.nextStand[st].lead = false →
      let answer (u : State) : Prop := exec .planSwap s = .next (State.reply t { result := .ok } (calls []
        { u with
          pls := { s.pls with
            activePress := s.pls.activePress.set p s.pls.nextPress[p]
            activeStand := s.pls.activeStand.set st s.pls.nextStand[st], ready := s.pls.ready.set p false }
          fdu := { s.fdu with stands := s.fdu.stands.set st { s.stand st with state := .out, lres := 0, ts := 65535 } } }))
      ((∀ j q n, ¬ reserved none j q n) → answer (unlinked (s.popped rest))) ∧
      ∀ j q n, reserved none j q n → answer (unlinked (stored j q n (s.popped rest)))

/-- The choice of a vehicle for a call (R141) over records with good parity: of the vehicles with a VEHICLE entry that
are IDLE and not HALTED and whose two legs are clear, the one with the fewest segments, and of equals the lowest
number; a roll that is CARRIED leaves its carrier alone. On entering AUTONOMOUS the call in SELECTED is so tried; that
the silent link is taken from the due list is the model's choice (log 7). An order of the part in AUTONOMOUS (R180,
R141, R75): its MOVE takes the next part tag, which then moves on, is admitted with source PART and the collector for
its reply address, links the call, which becomes ORDERED, and is forwarded with the part's own address for SRC, which
makes the vehicle BUSY; refused, it leaves the call SELECTED. Here the vehicle is free, its current segment is not
configured, the arm is empty, the call is the only one, and the records have good parity. -/
def Obligations.VehiclesAreChosenInAutonomous : Prop :=
  ((∀ (pickup drop : Loc) (s : State), s.noParity →
     let legs (v : VehicleIx) : Leg × Leg × State := s.lookupLegs (s.vehicle v).endLoc pickup drop
     let segments (v : VehicleIx) : Nat := ((legs v).1.clear?.getD []).length + ((legs v).2.1.clear?.getD []).length
     let qualifies (v : VehicleIx) : Prop := s.vehicleEntry? v ≠ none ∧ (s.vehicle v).status = .idle ∧
       (s.vehicle v).causes = ⟨false, false, false, false⟩ ∧ (legs v).1.clear? ≠ none ∧ (legs v).2.1.clear? ≠ none
     (∃ best, s.chooseVehicle (List.finRange 16) pickup drop = (best, s) ∧
       (best = none ↔ ∀ v, ¬ qualifies v) ∧
       ∀ v, best = some v → qualifies v ∧
         ∀ w, qualifies w → segments v < segments w ∨ (segments v = segments w ∧ v.val ≤ w.val)) ∧
     ∀ v, (qualifies v → s.chooseVehicle [v] pickup drop = (some v, s)) ∧
       (¬ qualifies v → s.chooseVehicle [v] pickup drop = (none, s))) ∧
   ∀ (c : Call) (id : RollId) (k : Nat) (r : Roll) (s : State), s.pins.rstLow = false → .linkSilent ∈ s.due →
     s.sfu.mode = .normal → s.sfu.linkPeriod ≠ 0 → s.sfu.linkPeriod ≤ s.sfu.linkCount → s.noParity → s.fdu.calls = [c] →
     c.phase = .selected id → s.findRoll id = some (k, r) →
     let u := State.raise .autonomous 0
       { s with sfu := { s.sfu with mode := .autonomous }, due := s.due.filter (· ≠ .linkSilent) }
     let tried (vs : List VehicleIx) (pickup : Loc) : Prop :=
       ((u.chooseVehicle vs pickup (standLoc c.stand)).1 = none → exec .linkFallenSilent s = .next u) ∧
       ∀ v, (u.chooseVehicle vs pickup (standLoc c.stand)).1 = some v →
         exec .linkFallenSilent s = .next (u.originate v pickup (standLoc c.stand) id)
     (∀ p, r.status = .reserved p (.call c.stand) → tried (List.finRange 16) ⟨.place, p⟩) ∧
     (∀ v, r.status = .carried (some v) → tried [v] ⟨.none, 0⟩) ∧
     ((∀ p o, r.status ≠ .reserved p o) → (∀ v, r.status ≠ .carried (some v)) → exec .linkFallenSilent s = .next u)) ∧
  ∀ (v : VehicleIx) (e : NodeEntry) (c : Call) (st : StandIx) (pickup : Loc) (n : Nat) (id : RollId) (leg1 leg2 : List Nat) (s : State),
    s.noParity → s.sfu.mode = .autonomous → s.vehicleEntry? v = some e → s.vehicleAt? e.addr = some v →
    let x := s.vehicle v
    x.status = .idle → x.causes = ⟨false, false, false, false⟩ → x.outstanding = [] → x.queue = [] → x.path = [] →
    x.claims = [] → 0 < x.window → s.vou.nextTag = n → 200 ≤ n → n ≤ 255 → id ≠ 0 → c.stand = st →
    s.fdu.calls = [c] → s.fdu.search = none → c.phase = .selected id →
    let tag : Byte := BitVec.ofNat 8 n
    let drop := standLoc st
    let counted : State := { s with vou := { s.vou with nextTag := if n = 255 then 200 else n + 1 } }
    s.locationsOk id pickup drop = true →
    (∀ reason, s.refusedRoll v id pickup drop = some reason →
      s.originate v pickup drop id = counted.refuseTo s.sfu.collector tag e.addr reason) ∧
    (s.refusedRoll v id pickup drop = none → (s.stand st).other = .none → s.ltu.normal.length < 24 →
      (s.seg x.currentSeg).capacity = 0 → (s.lookupLegs x.endLoc pickup drop).1 = .clear leg1 →
      (s.lookupLegs x.endLoc pickup drop).2.1 = .clear leg2 →
      let o : Order :=
        { tag := tag, source := .part, reply := s.sfu.collector, pickup := pickup, drop := drop, roll := id, claim := .held
          link := some st, leg1 := leg1, leg2 := leg2, progress := if pickup.kind = .none then .toDrop else .toPickup }
      s.originate v pickup drop id = { s with
        ltu := { s.ltu with normal := s.ltu.normal ++ [⟨e.addr, s.ownAddr, 0x11, forwardedMoveBody o e.addr⟩] }
        vou := { s.vou with
          nextTag := if n = 255 then 200 else n + 1
          vehicles := s.vou.vehicles.set v { x with
            outstanding := [o], path := (leg1 ++ leg2).map fun m => ⟨m, tag⟩, pointer := 0, endLoc := drop, status := .busy } }
        fdu := { s.fdu with
          stands := s.fdu.stands.set st { s.stand st with claim := some ⟨v, tag⟩ }
          calls := [{ c with phase := .ordered id ⟨v, tag⟩ }] } })

/-- The upper link falls silent (R178) and is handed back by RESUME (R181): the mode changes, AUTONOMOUS is set;
RESUME restarts the link count and announces each call in SELECTED, in list order, before its reply, with the place at
which its roll stands RESERVED, or 0 for a CARRIED one (R140). Here no call is in SELECTED at the take-over, the list is
in its order, and the announced rolls' records have good parity. The due list (log 7) and the row that is not due (log
2) are the model's choice. -/
def Obligations.AutonomousRunning : Prop :=
  (∀ s : State, s.pins.rstLow = false → .linkSilent ∈ s.due → s.sfu.mode = .normal → s.sfu.linkPeriod ≠ 0 →
    s.sfu.linkPeriod ≤ s.sfu.linkCount → (∀ c ∈ s.fdu.calls, ∀ id, c.phase ≠ .selected id) →
    exec .linkFallenSilent s = .next (State.raise .autonomous 0
      { s with sfu := { s.sfu with mode := .autonomous }, due := s.due.filter (· ≠ .linkSilent) })) ∧
  (∀ s : State, .linkSilent ∉ s.due → exec .linkFallenSilent s = .next s) ∧
  ∀ (t : Telegram) (rest : List Telegram) (s : State), Ready .resume t rest s →
    let w := s.popped rest
    (s.sfu.mode ≠ .autonomous → exec .resume s = .next (w.reply t { result := .wrongMode })) ∧
    (s.sfu.mode = .autonomous →
      let u : State := { w with sfu := { s.sfu with mode := .normal, linkCount := 0 } }
      (∀ c ∈ s.fdu.calls, ∀ id, c.phase ≠ .selected id) → exec .resume s = .next (u.reply t { result := .ok })) ∧
    (s.sfu.mode = .autonomous → s.noParity → s.callsOrdered →
      let u : State := { w with sfu := { s.sfu with mode := .normal, linkCount := 0 } }
      let announced (a : State) (c : Call) : State := match c.phase with
        | .selected id => a.placeUpper
          ⟨s.sfu.collector, s.ownAddr, 0x61, be8 (num c.stand) ++ beWord id ++ be16 (s.callPlace id) ++ be32 c.due⟩
        | _ => a
      (s.sfu.collector = 0 → exec .resume s = .next (u.reply t { result := .ok })) ∧
      (s.sfu.collector ≠ 0 → exec .resume s = .next ((s.fdu.calls.foldl announced u).reply t { result := .ok }))) ∧
    ∀ id k r, s.findRoll id = some (k, r) →
      (∀ p o, r.status = .reserved p o → s.callPlace id = p) ∧ (∀ x, r.status = .carried x → s.callPlace id = 0)

/-! ### Management requests -/

/-- The MGA executes its oldest request by that request's row and answers it once (R187): NOT-READY in START-UP, the
first failure of the form check, BAD-ACTION for a class or an action it does not know. The MREPLY carries class,
result, the first four body bytes, for MREAD the records carried in the last of these, and the data. A row whose
request is not the oldest changes nothing, and no reply is made to address 0, which is the model's (log 2, log 28).
The form check (R187): class, table or action code, length, count, in that order. The row that a malformed request
belongs to (log 21), the record size of an index behind the last (log 23) and the code 00 of an empty body (log 62) are
the model's choice. -/
def Obligations.RequestsAreAnsweredOnce : Prop :=
  ((∀ (t : Telegram) (rest : List Telegram) (s : State), s.pins.rstLow = false → s.mga.queue = t :: rest →
     let w := s.popped rest
     (s.sfu.mode = .startUp → exec (rowOf t).command s = .next (w.reply t { result := .notReady })) ∧
     (s.sfu.mode ≠ .startUp → ∀ r, formCheck t = some r → exec (rowOf t).command s = .next (w.reply t { result := r })) ∧
     (s.sfu.mode ≠ .startUp → rowOf t = .badAction →
       exec .badActionRequest s = .next (w.reply t { result := .badAction })) ∧
     ∀ row, row ≠ rowOf t → exec row.command s = .next s) ∧
   (∀ (row : Row) (s : State), s.mga.queue = [] → exec row.command s = .next s) ∧
   ∀ (t : Telegram) (a : Answer) (s : State),
     (t.src = 0 → s.reply t a = s) ∧
     (t.src ≠ 0 → s.reply t a = s.placeAnswer ⟨t.src, s.ownAddr, 0x7F, [t.cls, a.result.code] ++
       [u8 t.body 0, u8 t.body 1, u8 t.body 2, if t.cls = 0x71 then BitVec.ofNat 8 a.carried else u8 t.body 3] ++ a.data⟩)) ∧
  ∀ t : Telegram,
    let code := (u8 t.body 0).toNat
    let n := t.body.length
    let count := (u8 t.body 3).toNat
    let size (i : Nat) : Nat :=
      match code with
      | 1 => 4 | 2 => 5 | 3 => 23 | 4 => 40 | 5 => 9 | 6 => 34 | 7 => 31 | 8 => 24 | 11 => 4 | 12 => 13 | 14 => 15
      | 13 => if i ≤ 4 then 43 else 36
      | _ => if i ≤ 4 then 18 else 10
    (t.cls ≠ 0x71 ∧ t.cls ≠ 0x72 ∧ t.cls ≠ 0x73 ∧ t.cls ≠ 0x74 → formCheck t = some .badAction) ∧
    (t.cls = 0x71 ∨ t.cls = 0x72 →
      (code = 0 ∨ 14 < code → formCheck t = some .badTable) ∧
      (1 ≤ code → code ≤ 14 →
        let form := if t.cls = 0x71 then 4 else 4 + ((List.range count).map fun k => size (u16 t.body 1 + k)).sum
        (n ≠ form → formCheck t = some .badValue) ∧
        (n = form → count = 0 → formCheck t = some .badIndex) ∧
        (n = form → count ≠ 0 → formCheck t = none))) ∧
    (t.cls = 0x73 →
      (code = 0 ∨ 20 < code → formCheck t = some .badAction) ∧
      (1 ≤ code → code ≤ 20 →
        let args := match code with
          | 4 => 6 | 8 => 5 | 9 | 10 | 20 => 4 | 11 | 12 | 17 => 3 | 6 | 7 | 13 | 14 | 15 | 16 | 18 => 1 | _ => 0
        (n ≠ 1 + args → formCheck t = some .badValue) ∧ (n = 1 + args → formCheck t = none))) ∧
    (t.cls = 0x74 → (n ≠ 6 → formCheck t = some .badValue) ∧ (n = 6 → formCheck t = none))

/-- A record read with a parity error (R14, R57, R194): a roll gains the PARITY hold, a place is blocked, a route slot
is freed; it is written back with good parity and MEMORY-PARITY names it, and an MREAD carries the record as read. A
roll so held is no candidate, a route so lost is missing, and a drop at a place so blocked is not recorded (R19). Here
the record is the only one with an error, and the roll has a hold already or is neither RUNNING, CARRIED nor RESERVED
for a call. Which records a step reads is the model's choice (log 6). -/
def Obligations.ParityErrorsHoldBlockAndFree : Prop :=
  let parity (code k : Nat) (u : State) : State :=
    u.raiseField .memoryParity (BitVec.ofNat 32 k) (BitVec.ofNat 32 (code * 65536 + k % 65536))
  let calm (r : Roll) : Prop := r.holds ≠ ⟨false, false, false, false, false⟩ ∨
    ((∀ st, r.status ≠ .running st) ∧ (∀ w, r.status ≠ .carried w) ∧ ∀ p st, r.status ≠ .reserved p (.call st))
  (∀ (t : Telegram) (rest : List Telegram) (k : Nat) (s : State), Ready .mread t rest s → reqIndex t = k → reqCount t = 1 →
    1 ≤ k →
    let w := s.popped rest
    let answer (data : List Byte) (u : State) : Prop :=
      exec .mread s = .next (u.reply t { result := .ok, data := data, carried := 1 })
    (∀ r, reqCode t = 6 → k ≤ s.tmc.sizes.rolls → s.tmc.badRolls = [k] → s.slot? k = some r →
      s.findRoll r.id = some (k, r) → r.holds.parity = false → calm r →
      answer r.bytes (parity 6 k { w with tmc := { s.tmc with
        rolls := Table.insert k { r with holds := { r.holds with parity := true } } s.tmc.rolls, badRolls := [] } })) ∧
    (reqCode t = 5 → k ≤ s.tmc.sizes.places → s.tmc.badPlaces = [k] →
      answer (s.place k).bytes (parity 5 k { w with tmc := { s.tmc with
        places := Table.put {} k { s.place k with blocked := true } s.tmc.places, badPlaces := [] } })) ∧
    (∀ e, reqCode t = 4 → k ≤ s.tmc.sizes.routes → s.tmc.badRoutes = [k] → s.route? k = some e →
      e.leg.length ≤ 16 → answer e.bytes (parity 4 k { w with tmc := { s.tmc with
        routes := Table.erase k s.tmc.routes, badRoutes := [] } }))) ∧
  (∀ (x : Search) (k : Nat) (r : Roll) (s : State), s.pins.rstLow = false → s.running = true → s.fdu.search = some x →
    x.next = k → k ≤ s.tmc.sizes.rolls → s.tmc.badRolls = [k] → s.tmc.badPlaces = [] → s.slot? k = some r →
    s.findRoll r.id = some (k, r) → r.holds.parity = false → calm r →
    let u := parity 6 k { s with tmc := { s.tmc with
      rolls := Table.insert k { r with holds := { r.holds with parity := true } } s.tmc.rolls, badRolls := [] } }
    exec .searchStep s = .next { u with fdu := { s.fdu with search := some { x with next := k + 1 } } }) ∧
  (∀ (a b : Loc) (k : Nat) (s : State), a ≠ b → a.kind ≠ .place → b.kind ≠ .place → s.tmc.badRoutes = [k] →
    (∀ e ∈ s.tmc.routes, e.2.start = a → e.2.goal = b → e.1 = k) →
    s.lookup a b =
      (.missing, parity 4 k { s with tmc := { s.tmc with routes := Table.erase k s.tmc.routes, badRoutes := [] } })) ∧
  ∀ (v : VehicleIx) (p : Nat) (dst src : Byte) (number : Half) (id : Word) (k : Nat) (r : Roll) (s : State),
    Heard .vehicle (num v) dst src s → s.tmc.badRolls = [] → s.tmc.badPlaces = [p] → number.toNat = p → 1 ≤ p →
    p ≤ s.tmc.sizes.places → s.findRoll id = some (k, r) → r.status = .carried (some v) →
    exec (.vloadDrop dst src 1 number id) s = .next
      (((parity 5 p { s with tmc := { s.tmc with
          places := Table.put {} p { s.place p with blocked := true } s.tmc.places, badPlaces := [] } }).raise
        .placeConflict (num v)).placeUpper ⟨dst, src, 0x22, [2, 1] ++ be16 number.toNat ++ beWord id⟩)

/-- MREAD answers the records from the index onward, as many whole ones as fit in 54 bytes, and changes no more than
its queue (R187, R188); CALLS checks its index alone (log 24). Here the records have good parity. Each table's record
has the size R188 gives it. The fields of the records on the line: those that R188 lays out by offsets, and the others
in the order of their record tables (R6, R33, R52, R55, R98, R116, R135, R147, R148, R165, R183). R188 names some fields
without their codes, and there the bytes are the model's choice (log 34): a drop claim or order link as vehicle and tag,
the other arm as a kind byte and a roll id, a count interval as 00 for open and 01 for closed with 0 for the ticks of a
closed one, the path pointer counted from 1, and a place's access segment in one byte. Which record each table code and
index reads: a free slot of NODES, ROUTES or ROLLS and a position of CALLS behind the last call read as zeros (R34, R55,
R5), and each field of HALL reads the setting, counter or mode that R189 gives it. -/
def Obligations.TableReadsCarryRecords : Prop :=
  ((∀ (t : Telegram) (rest : List Telegram) (s : State), Ready .mread t rest s → s.noParity →
     let code := reqCode t
     let i := reqIndex t
     let w := s.popped rest
     let answer (n : Nat) : Prop :=
       let records := fitting 54 ((List.range n).map fun k => recordBytes w code (i + k))
       exec .mread s = .next (w.reply t { result := .ok, data := records.flatten, carried := records.length })
     let refused : Prop := exec .mread s = .next (w.reply t { result := .badIndex })
     (code ≠ 14 →
       (1 ≤ i → i + reqCount t ≤ tableMax s code + 1 → answer (reqCount t)) ∧
       (i = 0 ∨ tableMax s code + 1 < i + reqCount t → refused)) ∧
     (code = 14 → (1 ≤ i → i ≤ 24 → answer (min (reqCount t) (25 - i))) ∧ (i = 0 ∨ 24 < i → refused))) ∧
   (∀ (room : Nat) (l : List (List Byte)),
     (fitting room l).flatten.length ≤ room ∧ ∃ rest, l = fitting room l ++ rest ∧
       ∀ r tail, rest = r :: tail → room < (fitting room l).flatten.length + r.length) ∧
   (∀ r : Roll, r.bytes.length = 34) ∧ (∀ x : Place, x.bytes.length = 9) ∧ (∀ x : Stand, x.bytes.length = 31) ∧
   (∀ x : Speed, x.bytes.length = 24) ∧ (∀ e : NodeEntry, e.bytes.length = 4) ∧ (∀ x : PressPart, x.bytes.length = 18) ∧
   (∀ x : StandPart, x.bytes.length = 10) ∧ (∀ c : Call, c.bytes.length = 15) ∧ (∀ x : PressRec, x.bytes.length = 36) ∧
   (∀ c : ClosedRun, c.bytes.length = 48) ∧ (∀ r, (runEntryBytes r).length = 43) ∧
   (∀ (s : State) (f : Flag), (flagBytes s f.number).length = 13) ∧
   (∀ x : Segment, x.holders.length ≤ 2 → x.waiters.length ≤ 16 → x.bytes.length = 23) ∧
   (∀ r : Route, r.leg.length ≤ 16 → r.bytes.length = 40) ∧
   (∀ (s : State) (v : VehicleIx), (s.vehicle v).claims.length ≤ 4 → (s.vehicle v).outstanding.length ≤ 3 →
     (s.vehicle v).queue.length ≤ 4 → (vehicleBytes s v).length = 52) ∧
   (∀ n : Nat, (be32 n).length = 4) ∧
   ∀ (s : State) (p : PressIx), (planBytes s true (num p)).length = 19) ∧
  let field (l : List Byte) (offset size : Nat) : List Byte := (l.drop offset).take size
  let mark (b : Bool) : Byte := if b then 1 else 0
  let loc (l : Loc) : List Byte := l.kind.byte :: be16 l.num
  let ref (r : Option OrderRef) : List Byte := match r with
    | some r => [BitVec.ofNat 8 (num r.vehicle), r.tag]
    | none => [0, 0]
  let roll (id : Option RollId) : List Byte := beWord (id.getD 0)
  (∀ r : Roll,
    let at' := field r.bytes
    (at' 0 4 = beWord r.id ∧ at' 4 1 = be8 r.grade ∧ at' 5 2 = be16 r.width ∧ at' 7 2 = be16 r.dann ∧ at' 9 1 = be8 r.core ∧
      at' 10 1 = be8 r.caliper ∧ at' 11 2 = be16 r.dcur ∧ at' 13 4 = be32 r.lr) ∧
    (at' 22 1 = [r.holds.byte] ∧ at' 23 1 = [mark r.hasRun] ∧ at' 24 1 = be8 (pressNumber r.lastPress) ∧
      at' 25 1 = be8 r.breaks ∧ at' 26 4 = be32 r.waste ∧ at' 30 4 = beWord r.announced) ∧
    (∀ d, r.status = .announced d → at' 17 5 = [0] ++ loc ⟨.dock, d⟩ ++ [0]) ∧
    (∀ p, r.status = .stored p → at' 17 5 = [1] ++ loc ⟨.place, p⟩ ++ [0]) ∧
    (∀ p st, r.status = .reserved p (.call st) → at' 17 5 = [2] ++ loc ⟨.place, p⟩ ++ be8 (num st)) ∧
    (∀ p, r.status = .reserved p .management → at' 17 5 = [2] ++ loc ⟨.place, p⟩ ++ [0xFF]) ∧
    (∀ v, r.status = .carried (some v) → at' 17 5 = [3, 7] ++ be16 (num v) ++ [0]) ∧
    (r.status = .carried none → at' 17 5 = [3, 0, 0, 0, 0]) ∧
    (∀ st, r.status = .standby st → at' 17 5 = [4] ++ loc ⟨.stand, num st⟩ ++ [0]) ∧
    (∀ st, r.status = .running st → at' 17 5 = [5] ++ loc ⟨.stand, num st⟩ ++ [0]) ∧
    (∀ st, r.status = .butt st → at' 17 5 = [6] ++ loc ⟨.stand, num st⟩ ++ [0]) ∧
    r.holds.byte.getLsbD 0 = r.holds.parity ∧ r.holds.byte.getLsbD 1 = r.holds.breaks ∧
    r.holds.byte.getLsbD 2 = r.holds.diameter ∧ r.holds.byte.getLsbD 3 = r.holds.lostTrack ∧
    r.holds.byte.getLsbD 4 = r.holds.management) ∧
  (∀ (s : State) (v : VehicleIx),
    let x := s.vehicle v
    let at' := field (vehicleBytes s v)
    let fill (n : Nat) (l : List Byte) : List Byte := l ++ List.replicate (n - l.length) 0
    let order (o : Order) : List Byte := [o.tag, (if o.source = .part then 1 else 0) ||| (if o.progress = .toDrop then 2 else 0)]
    x.claims.length ≤ 4 → x.outstanding.length ≤ 3 → x.queue.length ≤ 4 →
    (at' 0 1 = [s.vehicleAddr v] ∧ at' 1 3 = loc ⟨.home, x.home⟩ ∧ at' 4 1 = be8 x.window ∧ at' 5 1 = [x.status.code] ∧
      at' 6 1 = [mark (x.beforeLoss = .busy)] ∧ at' 7 1 = [x.causes.byte] ∧ at' 8 1 = [x.intrusionZones] ∧
      at' 9 3 = loc x.endLoc ∧ at' 12 1 = be8 x.currentSeg ∧ at' 13 1 = [x.motion] ∧ at' 14 4 = beWord x.repLoad ∧
      at' 18 4 = beWord x.load.word ∧ at' 22 4 = beWord x.lastReport ∧ at' 26 1 = be8 x.supCount) ∧
    (at' 27 1 = be8 x.retryCount ∧ at' 28 1 = be8 x.claims.length ∧
      at' 29 4 = fill 4 (x.claims.map fun c => BitVec.ofNat 8 c.seg) ∧ at' 33 1 = be8 ((s.waitsFor? v).getD 0) ∧
      at' 34 1 = be8 x.path.length ∧ at' 35 1 = be8 (if x.path = [] then 0 else x.pointer + 1) ∧
      at' 36 1 = be8 x.outstanding.length ∧ at' 37 6 = fill 6 (x.outstanding.flatMap order) ∧
      at' 43 1 = be8 x.queue.length ∧ at' 44 8 = fill 8 (x.queue.flatMap order))) ∧
  (∀ c : ClosedRun,
    let at' := field c.bytes
    let r := c.run
    (at' 0 1 = be8 (num c.press) ∧ at' 1 2 = be16 r.number ∧ at' 3 1 = be8 r.edition ∧ at' 4 1 = [r.phase.code] ∧
      at' 5 4 = beWord r.startTick ∧ at' 9 4 = beWord c.endTick ∧ at' 13 1 = [c.cause.code]) ∧
    (at' 14 4 = be32 r.good ∧ at' 18 4 = be32 r.wasteStartUp ∧ at' 22 4 = be32 r.wasteSplice ∧ at' 26 4 = be32 r.wasteBreak ∧
      at' 30 4 = be32 r.wastePlate ∧ at' 34 4 = be32 r.wasteOther ∧ at' 38 4 = be32 r.butt ∧ at' 42 2 = be16 r.made ∧
      at' 44 2 = be16 r.missed ∧ at' 46 2 = be16 r.breaks)) ∧
  (∀ x : Segment, x.bytes = be8 x.capacity ++ be8 x.zone ++ [mark x.blocked] ++
    (be8 x.holders.length ++ x.holders.map (fun v => BitVec.ofNat 8 (num v)) ++ List.replicate (2 - x.holders.length) 0) ++
    (be8 x.waiters.length ++ x.waiters.map (fun v => BitVec.ofNat 8 (num v)) ++ List.replicate (16 - x.waiters.length) 0)) ∧
  (∀ r : Route, r.bytes = [1] ++ loc r.start ++ loc r.goal ++ be8 r.leg.length ++ r.leg.flatMap be16 ++
    List.replicate (2 * (16 - r.leg.length)) 0) ∧
  (∀ x : Place, x.bytes = be8 x.access ++ be8 x.zone ++ [mark x.blocked] ++ roll x.occupant ++ ref x.claim) ∧
  (∀ e : NodeEntry, e.bytes = [e.addr, e.kind.code] ++ be8 e.subject ++ be8 e.period) ∧
  (∀ x : Stand, x.bytes = be8 (pressNumber x.press) ++ [x.state.code] ++ roll x.active ++
    (match x.other with
      | .none => [0, 0, 0, 0, 0]
      | .standby id => 1 :: beWord id
      | .butt id => 2 :: beWord id) ++ ref x.claim ++ be32 x.lr ++ be8 x.carry ++ be32 x.lres ++ be16 x.ts ++ be8 x.implausible ++
    [mark x.deadReckon, mark x.late] ++ beWord x.lastTick) ∧
  (∀ x : Speed, x.bytes = be16 x.estimate ++ [x.source.code, mark x.limiting] ++ be16 x.age ++ beWord x.lastDrive ++
    beWord x.lastCount ++ be8 x.driveSilence ++ be8 x.countSilence ++
    (match x.interval with
      | some k => 0 :: be8 k
      | none => [1, 0]) ++ be32 x.pendingInc ++ be16 x.holdover) ∧
  (∀ x : PressPart, x.bytes = [mark x.inUse] ++ be16 x.cutoff ++ be16 x.nominal ++ be16 x.block ++ be16 x.warn ++ be16 x.alarm ++
    be16 x.hyst ++ be16 x.spliceLen ++ be16 x.breakLen ++ be8 x.breakLimit) ∧
  (∀ x : StandPart, x.bytes = [mark x.lead] ++ be8 x.grade ++ be16 x.width ++ be16 x.minLength ++ be16 x.splice ++
    be16 x.callLead) ∧
  (∀ (s : State) (p : PressIx), planBytes s true (num p) = (s.pls.nextPress[p]).bytes ++ [mark s.pls.ready[p]]) ∧
  (∀ c : Call, c.bytes = be8 (num c.stand) ++ [c.phase.code, mark c.noRoll] ++ roll c.phase.roll? ++ ref c.phase.link? ++
    be32 c.due ++ [mark c.early, mark c.overdue]) ∧
  (∀ r : Run, runEntryBytes (some r) = [1] ++ be16 r.number ++ be8 r.edition ++ [r.phase.code] ++ beWord r.startTick ++
    be32 r.good ++ be32 r.wasteStartUp ++ be32 r.wasteSplice ++ be32 r.wasteBreak ++ be32 r.wastePlate ++ be32 r.wasteOther ++
    be32 r.butt ++ be16 r.made ++ be16 r.missed ++ be16 r.breaks) ∧
  runEntryBytes none = List.replicate 43 0 ∧
  (∀ x : PressRec, x.bytes = be32 x.idleGood ++ be32 x.idleWaste ++ be32 x.unassigned ++ [x.monitor.code] ++
    be32 x.blockCopies ++ be32 x.blockWaste ++ be16 x.lastRatio ++ be16 x.splice.remaining ++
    (match x.splice.stand with
      | some st => be8 (num st)
      | none => [0]) ++ roll x.splice.roll ++ be16 x.brk.remaining ++ roll x.brk.roll) ∧
  (∀ (s : State) (f : Flag),
    let r := s.flag f
    flagBytes s f.number = [(if r.latched then 1 else 0) ||| (if r.masked then 2 else 0) ||| (if f.severe then 4 else 0)] ++
      beWord r.subject ++ beWord r.subjects ++ beWord r.tick) ∧
  (∀ (s : State) (k : Nat),
    ((∀ e, Table.find? k s.nd = some e → recordBytes s 1 k = e.bytes) ∧
      (Table.find? k s.nd = none → recordBytes s 1 k = [0, 0, 0, 0])) ∧
    recordBytes s 3 k = (s.seg k).bytes ∧
    ((∀ r, s.route? k = some r → recordBytes s 4 k = r.bytes) ∧
      (s.route? k = none → recordBytes s 4 k = List.replicate 40 0)) ∧
    recordBytes s 5 k = (s.place k).bytes ∧
    ((∀ r, s.slot? k = some r → recordBytes s 6 k = r.bytes) ∧
      (s.slot? k = none → recordBytes s 6 k = List.replicate 34 0)) ∧
    ((∀ c, s.fdu.calls[k]? = some c → recordBytes s 14 (k + 1) = c.bytes) ∧
      (s.fdu.calls.length ≤ k → recordBytes s 14 (k + 1) = List.replicate 15 0))) ∧
  (∀ (s : State) (v : VehicleIx) (st : StandIx) (p : PressIx) (f : Flag),
    recordBytes s 2 (num v) = vehicleBytes s v ∧ recordBytes s 7 (num st) = (s.stand st).bytes ∧
    recordBytes s 8 (num p) = (s.speed p).bytes ∧
    recordBytes s 9 (num p) = (s.activePress p).bytes ∧ recordBytes s 9 (4 + num st) = (s.activeStand st).bytes ∧
    recordBytes s 10 (num p) = planBytes s true (num p) ∧ recordBytes s 10 (4 + num st) = (s.pls.nextStand[st]).bytes ∧
    recordBytes s 12 f.number = flagBytes s f.number ∧
    recordBytes s 13 (num p) = runEntryBytes (s.run? p) ∧ recordBytes s 13 (4 + num p) = (s.press p).bytes) ∧
  ∀ s : State,
    let reads (f n : Nat) : Prop := recordBytes s 11 f = be32 n
    (reads 1 s.sfu.collector.toNat ∧ reads 2 s.tcu.claimDepth ∧ reads 3 s.vou.retryInterval ∧ reads 4 s.fdu.tolerance ∧
      reads 5 s.fdu.implausibleLimit ∧ reads 6 s.fdu.lateMargin ∧ reads 7 s.sfu.linkPeriod) ∧
    (∀ z : ZoneIx, reads (7 + num z) (if (s.zone z).haltOne then 1 else 0) ∧
      recordBytes s 11 (39 + num z) = be16 (s.zone z).lost.toNat ++ be16 (s.zone z).intruders.toNat) ∧
    (∀ p : PressIx, reads (15 + num p) (s.speedSettings p).slew ∧ reads (19 + num p) (s.speedSettings p).silence ∧
      reads (23 + num p) (s.speedSettings p).holdover ∧ reads (27 + num p) (s.speedSettings p).floor) ∧
    (reads 32 (match s.sfu.mode with
        | .startUp => 0
        | .config => 1
        | .normal => 2
        | .autonomous => 3) ∧
      recordBytes s 11 33 = beWord s.clock ∧ reads 34 s.ltu.upperErrors ∧ reads 35 s.ltu.floorErrors ∧
      reads 36 s.ltu.urgent.length ∧ reads 37 s.ltu.normal.length ∧ reads 38 s.ltu.upper.length ∧
      reads 39 s.mga.queue.length) ∧
    (reads 48 s.fdu.lastStarved ∧ recordBytes s 11 49 = beWord s.fdu.lastStarvedTick ∧
      recordBytes s 11 50 = beWord s.fdu.starved ∧ reads 51 s.scu.closed.length ∧ reads 52 s.scu.scrapped ∧
      reads 53 s.sfu.linkCount) ∧
    (reads 54 s.tmc.sizes.rolls ∧ reads 55 s.tmc.sizes.places ∧ reads 56 s.tmc.sizes.routes ∧
      reads 57 (if s.pins.msizeHigh then 131072 else 65536) ∧ reads 58 (241 + s.pins.addr.toNat))

/-- MWRITE of SEGMENTS, PLACES and ROUTES (R53, R7, R56): CONFIG alone, the range of indexes, the values of every
record, then every record is written; a refused request writes nothing. Here the records have good parity. The checks
of PLACES come in the order of SEGMENTS and ROUTES by the model's choice (log 48), and a leg may hold a segment number
above 255, which R56 does not refuse (log 35). MWRITE of one entry of NODES (R34): CONFIG alone, the index, the
entry's values, no address or kind and subject twice, and no vehicle that is not OFF left without an entry; a
VEHICLE's period is clamped to 1 to 50. An entry may be written anew under its own key. An UPPER entry's subject is
not checked and written as 0, and two of them clash by their address alone, which is the model's reading (log 32). -/
def Obligations.TrackTablesAndNodesAreWritten : Prop :=
  (∀ (t : Telegram) (rest : List Telegram) (s : State),
     let w := s.popped rest
     let i := reqIndex t
     let n := reqCount t
     let checked (c : Instr) (greatest : Nat) (bad : Prop) (written : State) : Prop :=
       (s.sfu.mode ≠ .config → exec c s = .next (w.reply t { result := .wrongMode })) ∧
       (s.sfu.mode = .config → (i = 0 ∨ greatest + 1 < i + n) → exec c s = .next (w.reply t { result := .badIndex })) ∧
       (s.sfu.mode = .config → 1 ≤ i → i + n ≤ greatest + 1 →
         (bad → exec c s = .next (w.reply t { result := .badValue })) ∧
         (¬ bad → exec c s = .next (written.reply t { result := .ok })))
     (Ready .mwriteSegments t rest s →
       let cap (k : Nat) : Nat := (u8 t.body (4 + 23 * k)).toNat
       let zone (k : Nat) : Nat := (u8 t.body (4 + 23 * k + 1)).toNat
       checked .mwriteSegments 255 (∃ k, k < n ∧ (2 < cap k ∨ (cap k ≠ 0 ∧ (zone k = 0 ∨ 8 < zone k))))
         ((List.range n).foldl
           (fun u k => u.setSeg (i + k) { u.seg (i + k) with capacity := cap k, zone := zone k }) w)) ∧
     (Ready .mwritePlaces t rest s → s.noParity →
       let zone (k : Nat) : Nat := (u8 t.body (4 + 9 * k + 1)).toNat
       checked .mwritePlaces s.tmc.sizes.places (∃ k, k < n ∧ 8 < zone k)
         ((List.range n).foldl
           (fun u k => u.setPlace (i + k)
             { u.place (i + k) with access := (u8 t.body (4 + 9 * k)).toNat, zone := zone k }) w)) ∧
     (Ready .mwriteRoutes t rest s → s.noParity → n = 1 → anyClash Route.clashes (s.tmc.routes.map Prod.snd) = false →
       (u8 t.body 5 = 0 → checked .mwriteRoutes s.tmc.sizes.routes False
         { w with tmc := { s.tmc with routes := Table.erase i s.tmc.routes } }) ∧
       (u8 t.body 5 ≠ 0 → locAt t.body 5 = none ∨ locAt t.body 8 = none →
         checked .mwriteRoutes s.tmc.sizes.routes True w) ∧
       ∀ a b, u8 t.body 5 ≠ 0 → locAt t.body 5 = some a → locAt t.body 8 = some b →
         let m := (u8 t.body 11).toNat
         let leg := (List.range m).map fun j => u16 t.body (12 + 2 * j)
         let ok : Prop := b.kind ≠ .none ∧ b.kind ≠ .segment ∧ a.inRange s = true ∧ b.inRange s = true ∧ a ≠ b ∧
           1 ≤ m ∧ m ≤ 16 ∧ 0 ∉ leg
         ((∀ e ∈ s.tmc.routes, e.1 ≠ i → ¬ (e.2.start = a ∧ e.2.goal = b)) → Table.rising s.tmc.routes = true →
           checked .mwriteRoutes s.tmc.sizes.routes (¬ ok)
             { w with tmc := { s.tmc with routes := Table.insert i ⟨a, b, leg⟩ s.tmc.routes } }) ∧
         (ok → (∃ e ∈ s.tmc.routes, e.1 ≠ i ∧ e.2.start = a ∧ e.2.goal = b) → s.sfu.mode = .config → 1 ≤ i →
           i ≤ s.tmc.sizes.routes → exec .mwriteRoutes s = .next (w.reply t { result := .duplicate })))) ∧
  ∀ (t : Telegram) (rest : List Telegram) (s : State), Ready .mwriteNodes t rest s → reqCount t = 1 →
    let w := s.popped rest
    let i := reqIndex t
    let answer (r : Result) (u : State) : Prop := exec .mwriteNodes s = .next (u.reply t { result := r })
    let addr := u8 t.body 4
    let n := (u8 t.body 6).toNat
    let period := (u8 t.body 7).toNat
    (s.sfu.mode ≠ .config → answer .wrongMode w) ∧
    (s.sfu.mode = .config → (i = 0 ∨ 64 < i) → answer .badIndex w) ∧
    (s.sfu.mode = .config → 1 ≤ i → i ≤ 64 →
      (241 ≤ addr.toNat → answer .badValue w) ∧
      (addr ≠ 0 → 4 < (u8 t.body 5).toNat → answer .badValue w) ∧
      (addr ≠ 0 → ∀ k, NodeKind.ofByte (u8 t.body 5) = some k → k ≠ .upper → (n = 0 ∨ k.subjects < n) →
        answer .badValue w) ∧
      (addr ≠ 0 → addr.toNat ≤ 240 → ∀ k, NodeKind.ofByte (u8 t.body 5) = some k →
        k = .upper ∨ (1 ≤ n ∧ n ≤ k.subjects) →
        let e : NodeEntry := ⟨addr, k, if k = .upper then 0 else n, if k = .vehicle then max 1 (min 50 period) else 0⟩
        ((∃ f ∈ s.nd, f.1 ≠ i ∧ (f.2.addr = addr ∨ (k ≠ .upper ∧ f.2.kind = k ∧ f.2.subject = n))) → answer .duplicate w) ∧
        ((∀ f ∈ s.nd, f.1 ≠ i → ¬ (f.2.addr = addr ∨ (k ≠ .upper ∧ f.2.kind = k ∧ f.2.subject = n))) →
          anyClash NodeEntry.clashes (s.nd.map Prod.snd) = false → Table.rising s.nd = true →
          (∀ v, (s.vehicle v).status = .off) →
          answer (if k = .vehicle ∧ (period < 1 ∨ 50 < period) then .clamped else .ok)
            { w with nd := Table.insert i e s.nd })) ∧
      (addr = 0 → anyClash NodeEntry.clashes (s.nd.map Prod.snd) = false →
        let left : State := { w with nd := Table.erase i s.nd }
        ((∀ v, (s.vehicle v).status = .off ∨ left.vehicleEntry? v ≠ none) → answer .ok left) ∧
        ((∃ v, (s.vehicle v).status ≠ .off ∧ left.vehicleEntry? v = none) → answer .wrongState w)))

/-- MWRITE of HALL (R189): a field of CONFIG alone, a read-only field and a bad value are refused; otherwise each
field takes its value, clamped, which MREAD then gives, and the other fields keep theirs, the link count apart that a
write of the period sets to 0 (R177). That the mode is checked before the index and the values is the model's choice
(log 24). -/
def Obligations.HallFieldsAreWritten : Prop :=
  (∀ (t : Telegram) (rest : List Telegram) (s : State), Ready .mwriteHall t rest s → reqCount t = 1 →
    let w := s.popped rest
    let f := reqIndex t
    let v := (u32 t.body 4).toNat
    let answer (r : Result) (u : State) : Prop := exec .mwriteHall s = .next (u.reply t { result := r })
    (s.sfu.mode ≠ .config → (f = 2 ∨ (8 ≤ f ∧ f ≤ 15)) → answer .wrongMode w) ∧
    ((f = 0 ∨ 31 < f) → answer .badIndex w) ∧
    (1 ≤ f → f ≤ 31 → s.sfu.mode = .config ∨ (f ≠ 2 ∧ ¬ (8 ≤ f ∧ f ≤ 15)) →
      ((f = 1 ∧ 240 < v) ∨ (8 ≤ f ∧ f ≤ 15 ∧ 1 < v) → answer .badValue w) ∧
      (¬ ((f = 1 ∧ 240 < v) ∨ (8 ≤ f ∧ f ≤ 15 ∧ 1 < v)) →
        answer (if hallClamp f v = v then .ok else .clamped) (w.setHall f (hallClamp f v))))) ∧
  (∀ (f v : Nat) (s : State), 1 ≤ f → f ≤ 31 → (f = 1 → v < 256) → (8 ≤ f → f ≤ 15 → v ≤ 1) →
    hallValue (s.setHall f v) f = v ∧
    ∀ g, g ≠ f → (f = 7 → g ≠ 53) → hallValue (s.setHall f v) g = hallValue s g) ∧
  (∀ (v : Nat) (s : State), (s.setHall 7 v).sfu.linkCount = 0) ∧
  ∀ f v : Nat,
    ((f = 1 ∨ (8 ≤ f ∧ f ≤ 15)) → hallClamp f v = v) ∧
    hallClamp 2 v = max 2 (min 4 v) ∧ hallClamp 3 v = max 1 (min 50 v) ∧ hallClamp 4 v = min 20 v ∧
    hallClamp 5 v = max 1 (min 15 v) ∧ hallClamp 6 v = min 1000 v ∧ hallClamp 7 v = min 600 v ∧
    (16 ≤ f → f ≤ 19 → hallClamp f v = max 10 (min 600 v)) ∧ (20 ≤ f → f ≤ 23 → hallClamp f v = max 1 (min 50 v)) ∧
    (24 ≤ f → f ≤ 27 → hallClamp f v = max 1 (min 600 v)) ∧ (28 ≤ f → f ≤ 31 → hallClamp f v = max 5 (min 200 v))

/-- MWRITE of one record of VEHICLES and of STANDS (R74, R99): index and values are checked, the structure changes in
CONFIG alone (a bad value before the mode, log 48), and a repeated value is accepted. A MANAGEMENT halt is set and
cleared in every mode, with a HOLD and, when the set empties, a RELEASE. A window is compared after its clamping (log
25). These orders are the model's choice. -/
def Obligations.VehicleAndStandWrites : Prop :=
  (∀ (v : VehicleIx) (t : Telegram) (rest : List Telegram) (s : State), Ready .mwriteVehicles t rest s →
    reqCount t = 1 → reqIndex t = num v →
    let w := s.popped rest
    let x := s.vehicle v
    let answer (r : Result) (u : State) : Prop := exec .mwriteVehicles s = .next (u.reply t { result := r })
    let home := u16 t.body 5
    let window := (u8 t.body 7).toNat
    let clamped := max 1 (min 3 window)
    let outcome : Result := if clamped = window then .ok else .clamped
    let causes : Causes := { x.causes with
      management := (u8 t.body 8).getLsbD 2, deadlock := x.causes.deadlock && (u8 t.body 8).getLsbD 1 }
    (u8 t.body 4 ≠ 5 ∨ home = 0 ∨ 16 < home → answer .badValue w) ∧
    (u8 t.body 4 = 5 → 1 ≤ home → home ≤ 16 →
      (s.sfu.mode = .config →
        answer outcome (w.setVehicle v { x with home := home, window := clamped, causes := causes })) ∧
      (s.sfu.mode ≠ .config → home ≠ x.home ∨ clamped ≠ x.window → answer .wrongMode w) ∧
      (s.sfu.mode ≠ .config → home = x.home → clamped = x.window →
        let u := w.setVehicle v { x with causes := causes }
        (causes = x.causes → answer outcome w) ∧
        (causes.management = true → x.causes.management = false → x.status ≠ .off → answer outcome (u.sendHold v)) ∧
        (causes = ⟨false, false, false, false⟩ → causes ≠ x.causes → (x.status = .off ∨ x.status = .lost) →
          answer outcome u) ∧
        (causes = ⟨false, false, false, false⟩ → causes ≠ x.causes → x.status = .busy → x.queue = [] →
          s.waitsFor? v = none → answer outcome (u.sendRelease v))))) ∧
  (∀ (t : Telegram) (rest : List Telegram) (s : State), Ready .mwriteVehicles t rest s →
    reqIndex t = 0 ∨ 17 < reqIndex t + reqCount t →
    exec .mwriteVehicles s = .next ((s.popped rest).reply t { result := .badIndex })) ∧
  (∀ (st : StandIx) (t : Telegram) (rest : List Telegram) (s : State), Ready .mwriteStands t rest s → reqCount t = 1 →
    reqIndex t = num st →
    let w := s.popped rest
    let x := s.stand st
    let answer (r : Result) (u : State) : Prop := exec .mwriteStands s = .next (u.reply t { result := r })
    (4 < (u8 t.body 4).toNat → answer .badValue w) ∧
    (∀ p : Option PressIx, (u8 t.body 4).toNat = pressNumber p →
      (p = x.press → answer .ok w) ∧
      (s.sfu.mode ≠ .config → p ≠ x.press → answer .wrongMode w) ∧
      (s.sfu.mode = .config → p ≠ x.press → x.press = none → x.state = .out → x.lres = 0 → x.ts = 65535 →
        ∀ q, p = some q → s.inUse q = false →
          answer .ok { w with
            fdu := { s.fdu with stands := s.fdu.stands.set st { x with press := some q } }
            pls := { s.pls with ready := s.pls.ready.set q false } }))) ∧
  ∀ (t : Telegram) (rest : List Telegram) (s : State), Ready .mwriteStands t rest s →
    reqIndex t = 0 ∨ 25 < reqIndex t + reqCount t →
    exec .mwriteStands s = .next ((s.popped rest).reply t { result := .badIndex })

/-- An announcement (R4): its checks in order, then the record in the lowest free slot, with good parity. That it
reads no record is the model's choice (log 6). -/
def Obligations.RollIsAnnounced : Prop :=
  ∀ (t : Telegram) (rest : List Telegram) (s : State), Ready .rollAnnounce t rest s →
    let w := s.popped rest
    let answer (r : Result) (u : State) : Prop := exec .rollAnnounce s = .next (u.reply t { result := r })
    let id := u32 t.body 4
    let grade := (u8 t.body 8).toNat
    let width := u16 t.body 9
    let dann := u16 t.body 11
    let core := (u8 t.body 13).toNat
    let caliper := (u8 t.body 14).toNat
    let dock := u16 t.body 23
    let fields : Prop := 1 ≤ grade ∧ grade ≤ 63 ∧ 300 ≤ width ∧ width ≤ 2200 ∧ 400 ≤ dann ∧ dann ≤ 1500 ∧ 70 ≤ core ∧
      core ≤ 160 ∧ core < dann ∧ 40 ≤ caliper ∧ caliper ≤ 150 ∧ u8 t.body 22 = 3 ∧ 1 ≤ dock ∧ dock ≤ 8
    let slot := freeKey 1 s.tmc.rolls
    (reqIndex t ≠ 0 ∨ reqCount t ≠ 1 → answer .badIndex w) ∧
    (reqIndex t = 0 → reqCount t = 1 →
      (id = 0 ∨ id = 0xFFFFFFFF#32 → answer .badValue w) ∧
      (id ≠ 0 → id ≠ 0xFFFFFFFF#32 →
        ((∃ e ∈ s.tmc.rolls, e.2.id = id) → answer .duplicate w) ∧
        ((∀ e ∈ s.tmc.rolls, e.2.id ≠ id) →
          (¬ fields → answer .badValue w) ∧
          (fields → s.tmc.sizes.rolls < slot → answer .noFit w) ∧
          (fields → slot ≤ s.tmc.sizes.rolls →
            let r : Roll :=
              { id := id, grade := grade, width := width, dann := dann, core := core, caliper := caliper, dcur := dann
                lr := (dann * dann - core * core) * 32170 / (4096 * caliper), status := .announced dock
                holds := ⟨false, false, false, false, false⟩, hasRun := false, lastPress := none, breaks := 0, waste := 0
                announced := s.clock }
            answer .ok { w with tmc := { s.tmc with
              rolls := Table.insert slot r s.tmc.rolls, badRolls := s.tmc.badRolls.filter (· ≠ slot) } })))) ∧
    (Table.rising s.tmc.rolls = true → s.slot? slot = none ∧ ∀ k, 1 ≤ k → k < slot → s.slot? k ≠ none)

/-- MWRITE of one press part or stand part of PLAN-NEXT (R167), and PLAN-READY (R169): ranges are checked, tuning
numbers clamped, the ready mark cleared by a write and set by a valid bank. PLAN-SWAP (R170 to R174): a bank that is
not ready is refused with PLAN-NOT-READY; a ready one is copied into ACTIVE, and each stand of the press is taken out
of the lead, brought into line, judged and timed. The stand that leaves the lead is OUT, without reserve, Ts or call;
here the swapped press has that one stand, which had no call, or none at all, and the records have good parity. The
swap of a press (R171, R173, R174): the bank is copied; the stands that leave the lead are taken out, those in it are
brought into line and their calls judged, the no-roll marks are cleared and Ts is computed, in stand number order
throughout (log 42). A stand that was OUT takes its state from its arms and its starvation test; Lres follows the new
plan, with the late test when it has changed; and an active or a STANDBY roll of another grade or width sets
PLAN-MISMATCH. Of the calls only one in SELECTED whose roll no longer fits reopens, and its roll is STORED again. Here
the records have good parity. -/
def Obligations.PlansAreWrittenReadiedAndSwapped : Prop :=
  ((∀ (t : Telegram) (rest : List Telegram) (s : State), Ready .mwritePlanNext t rest s →
     let w := s.popped rest
     let answer (r : Result) (u : State) : Prop := exec .mwritePlanNext s = .next (u.reply t { result := r })
     (reqIndex t = 0 ∨ 29 < reqIndex t + reqCount t → answer .badIndex w) ∧
     (∀ p : PressIx, reqCount t = 1 → reqIndex t = num p →
       let x := pressPartAt t.body 4
       (1 < (u8 t.body 4).toNat → answer .badValue w) ∧
       ((u8 t.body 4).toNat ≤ 1 → answer (if x.clamp = x then .ok else .clamped)
         { w with pls := { s.pls with nextPress := s.pls.nextPress.set p x.clamp, ready := s.pls.ready.set p false } })) ∧
     ∀ st : StandIx, reqCount t = 1 → reqIndex t = num st + 4 →
       let x := standPartAt t.body 4
       let bad : Prop := 1 < (u8 t.body 4).toNat ∨ x.grade = 0 ∨ 63 < x.grade ∨ x.width < 300 ∨ 2200 < x.width
       ((s.stand st).press = none → answer .badIndex w) ∧
       (∀ p, (s.stand st).press = some p →
         (bad → answer .badValue w) ∧
         (¬ bad → answer (if x.clamp = x then .ok else .clamped)
           { w with pls := { s.pls with
             nextStand := s.pls.nextStand.set st x.clamp, ready := s.pls.ready.set p false } }))) ∧
   ∀ (t : Telegram) (rest : List Telegram) (s : State), Ready .planReady t rest s →
     let w := s.popped rest
     let answer (r : Result) (u : State) : Prop := exec .planReady s = .next (u.reply t { result := r })
     ((u8 t.body 1).toNat = 0 ∨ 4 < (u8 t.body 1).toNat → answer .badIndex w) ∧
     ∀ p : PressIx, (u8 t.body 1).toNat = num p →
       let marked (b : Bool) : State := { w with pls := { s.pls with ready := s.pls.ready.set p b } }
       let inRange : Prop := s.pls.nextPress[p].clamp = s.pls.nextPress[p] ∧
         ∀ st, (s.stand st).press = some p →
           s.pls.nextStand[st].clamp = s.pls.nextStand[st] ∧ s.pls.nextStand[st].paperOk = true
       let leads : Prop := ∃ st, (s.stand st).press = some p ∧ s.pls.nextStand[st].lead = true
       (inRange ∧ (s.pls.nextPress[p].inUse = true ↔ leads) → answer .ok (marked true)) ∧
       (¬ (inRange ∧ (s.pls.nextPress[p].inUse = true ↔ leads)) → answer .badValue (marked false))) ∧
  (∀ (p : PressIx) (t : Telegram) (rest : List Telegram) (s : State), Ready .planSwap t rest s →
     (u8 t.body 1).toNat = num p →
     let w := s.popped rest
     let answer (r : Result) (u : State) : Prop := exec .planSwap s = .next (u.reply t { result := r })
     let pls (stands : Vector StandPart 24) : Pls := { s.pls with
       activePress := s.pls.activePress.set p s.pls.nextPress[p], activeStand := stands, ready := s.pls.ready.set p false }
     (s.pls.ready[p] = false → answer .wrongState (w.raise .planNotReady (num p))) ∧
     (s.pls.ready[p] = true → (∀ st, (s.stand st).press ≠ some p) →
       answer .ok (State.startSearch (State.clearNoRoll { w with pls := pls s.pls.activeStand }))) ∧
     (s.pls.ready[p] = true → ∀ st, (∀ r, (s.stand r).press = some p ↔ r = st) → s.inLead st = true →
       s.pls.nextStand[st].lead = false → s.noParity → s.call? st = none → s.fdu.search = none → s.fdu.calls = [] →
       answer .ok { w with
         pls := pls (s.pls.activeStand.set st s.pls.nextStand[st])
         fdu := { s.fdu with stands := s.fdu.stands.set st { s.stand st with state := .out, lres := 0, ts := 65535 } } })) ∧
  (∀ (p : PressIx) (s : State), s.pls.ready[p] = true →
    let stands := (List.finRange 24).filter fun st => (s.stand st).press = some p
    let copied : State := { s with pls := { s.pls with
      activePress := s.pls.activePress.set p s.pls.nextPress[p]
      activeStand := stands.foldl (fun a (st : StandIx) => a.set st s.pls.nextStand[st]) s.pls.activeStand
      ready := s.pls.ready.set p false } }
    let leads (st : StandIx) : Bool := s.pls.nextPress[p].inUse && s.pls.nextStand[st].lead
    let out := (stands.filter fun st => s.inLead st && !leads st).foldl (fun u st => u.leaveLead st) copied
    let inLine := (stands.filter leads).foldl (fun u st => u.alignStand st) out
    let judged := (stands.filter leads).foldl (fun u st => u.judgeCall st) inLine
    s.askSwap p = stands.foldl (fun u st => u.computeTs st) (State.startSearch (State.clearNoRoll judged))) ∧
  (∀ (p : PressIx) (t : Telegram) (rest : List Telegram) (s : State), Ready .planSwap t rest s → (u8 t.body 1).toNat = num p →
    s.pls.ready[p] = true → exec .planSwap s = .next (((s.popped rest).askSwap p).reply t { result := .ok })) ∧
  (∀ (st : StandIx) (s : State), s.noParity → s.inLead st = true →
    let x := s.stand st
    let plan := s.activeStand st
    let state : StandState := match x.active, x.other with
      | none, _ => .idle
      | some _, .standby _ => .armed
      | some _, _ => .feeding
    let u := if x.state = .out then (s.setStand st { x with state := state }).starveTest st else s
    let other (id : RollId) : Prop := ∃ k r, s.findRoll id = some (k, r) ∧ (r.grade ≠ plan.grade ∨ r.width ≠ plan.width)
    let differs : Prop := (∃ id, x.active = some id ∧ other id) ∨ ∃ id, x.other = .standby id ∧ other id
    let checked (w : State) (t : State) : Prop :=
      (differs → t = w.raise .planMismatch (num st)) ∧ (¬ differs → t = w)
    (x.active = none → x.lres = 0 → checked u (s.alignStand st)) ∧
    ∀ id k r, x.active = some id → s.findRoll id = some (k, r) →
      let L := if plan.splice ≤ r.core then 0
        else (plan.splice * plan.splice - r.core * r.core) * 32170 / (4096 * r.caliper)
      let w := u.setStand st { u.stand st with lres := L }
      checked (if L = x.lres then w else w.lateTest st) (s.alignStand st)) ∧
  ∀ (st : StandIx) (s : State), s.noParity →
    let plan := s.activeStand st
    ((∀ c id, s.call? st = some c → c.phase ≠ .selected id) → s.judgeCall st = s) ∧
    ∀ c id k r, s.call? st = some c → c.phase = .selected id → s.findRoll id = some (k, r) → r.id = id →
      let fits : Prop := r.grade = plan.grade ∧ r.width = plan.width ∧ 10 * plan.minLength ≤ r.lr
      (fits → s.judgeCall st = s) ∧
      (¬ fits → ∀ p, r.status = .reserved p (.call st) →
        let freed := (s.putCall { c with phase := .opened }).setSlot k { r with status := .stored p }
        s.judgeCall st = (if r.holds = ⟨false, false, false, false, false⟩ ∧ (s.place p).blocked = false then freed.availability
          else freed).startSearch) ∧
      (¬ fits → (∀ p, r.status ≠ .reserved p (.call st)) →
        s.judgeCall st = (s.putCall { c with phase := .opened }).startSearch)

/-- TAKE-RUN (R153), CLEAR-STARVED (R103) and an MWRITE of a table that management does not write. BLOCK and UNBLOCK
of a segment (R54) and of a place (R8): the number is checked, the mark takes the value asked, a freed segment's list
is served, and a roll that becomes available is told. A kind byte that is neither is BAD-VALUE (R190). Here the
records have good parity and the tables are in canonical form. -/
def Obligations.RunsStarvedSetAndBlockedMarks : Prop :=
  (∀ (t : Telegram) (rest : List Telegram) (s : State),
     let w := s.popped rest
     (Ready .takeRun t rest s →
       (s.scu.closed = [] → exec .takeRun s = .next (w.reply t { result := .notFound })) ∧
       ∀ c more, s.scu.closed = c :: more → exec .takeRun s = .next
         (State.reply t { result := .ok, data := c.bytes } { w with scu := { s.scu with closed := more } })) ∧
     (Ready .clearStarved t rest s →
       (u32 t.body 1 &&& 0xFF000000#32 ≠ 0 → exec .clearStarved s = .next (w.reply t { result := .badValue })) ∧
       (u32 t.body 1 &&& 0xFF000000#32 = 0 → exec .clearStarved s = .next (State.reply t { result := .ok }
         { w with fdu := { s.fdu with starved := s.fdu.starved &&& ~~~(u32 t.body 1) } }))) ∧
     (Ready .mwriteOther t rest s → exec .mwriteOther s = .next (w.reply t { result := .badTable }))) ∧
  ∀ (t : Telegram) (rest : List Telegram) (s : State),
    let w := s.popped rest
    let n := u16 t.body 2
    let answer (c : Instr) (r : Result) (u : State) : Prop := exec c s = .next (u.reply t { result := r })
    let noSegment : Prop := n = 0 ∨ 255 < n ∨ (s.seg n).capacity = 0
    (Ready .blockSegment t rest s →
      (noSegment → answer .blockSegment .badIndex w) ∧
      (¬ noSegment → answer .blockSegment .ok (w.setSeg n { s.seg n with blocked := true }))) ∧
    (Ready .unblockSegment t rest s →
      (noSegment → answer .unblockSegment .badIndex w) ∧
      (¬ noSegment → (s.seg n).blocked = false → answer .unblockSegment .ok w) ∧
      (¬ noSegment → (s.seg n).blocked = true →
        answer .unblockSegment .ok ((w.setSeg n { s.seg n with blocked := false }).serve n))) ∧
    (Ready .blockPlace t rest s → s.noParity →
      (u8 t.body 1 ≠ 1 → answer .blockPlace .badValue w) ∧
      (u8 t.body 1 = 1 → n = 0 ∨ s.tmc.sizes.places < n → answer .blockPlace .badIndex w) ∧
      (u8 t.body 1 = 1 → 1 ≤ n → n ≤ s.tmc.sizes.places →
        answer .blockPlace .ok (w.setPlace n { s.place n with blocked := true }))) ∧
    (Ready .unblockPlace t rest s → s.noParity → s.tablesWf = true →
      (u8 t.body 1 ≠ 1 → answer .unblockPlace .badValue w) ∧
      (u8 t.body 1 = 1 → n = 0 ∨ s.tmc.sizes.places < n → answer .unblockPlace .badIndex w) ∧
      (u8 t.body 1 = 1 → 1 ≤ n → n ≤ s.tmc.sizes.places →
        let u := w.setPlace n { s.place n with blocked := false }
        ((s.place n).blocked = false → answer .unblockPlace .ok w) ∧
        ((s.place n).blocked = true →
          ((s.place n).occupant = none → answer .unblockPlace .ok u) ∧
          ∀ id, (s.place n).occupant = some id →
            (s.findRoll id = none → answer .unblockPlace .ok u) ∧
            ∀ k r, s.findRoll id = some (k, r) →
              (r.status = .stored n → r.holds = ⟨false, false, false, false, false⟩ →
                answer .unblockPlace .ok u.availability) ∧
              ((∀ p, r.status ≠ .stored p) ∨ r.holds ≠ ⟨false, false, false, false, false⟩ →
                answer .unblockPlace .ok u))))

/-- The six actions of MROLL (R25): a bad id, selection or action is refused, an unknown roll is NOT-FOUND but for
NONE, and each action has its effect in the states that allow it. The reply carries the presence byte and the record
the selection asks for. Here the tables are in canonical form with good parity and the call list is empty. That the id
is checked before the codes (log 48), the data of a refused request (log 22) and the row of an undefined action (log
21) are the model's choice. -/
def Obligations.RollActionsHaveTheirEffects : Prop :=
  ∀ (row : Row) (t : Telegram) (rest : List Telegram) (s : State), Ready row t rest s → s.noParity → s.tablesWf = true →
    s.fdu.calls = [] → s.fdu.search = none →
    let id := u32 t.body 0
    let sel := u8 t.body 4
    let action := u8 t.body 5
    let w := s.popped rest
    row = .mrollNone ∨ row = .mrollReserve ∨ row = .mrollRelease ∨ row = .mrollHold ∨ row = .mrollUnhold ∨ row = .mrollRemove →
    let answer (r : Result) (data : List Byte) (u : State) : Prop :=
      exec row.command s = .next (u.reply t { result := r, data := data })
    (id = 0 ∨ id = 0xFFFFFFFF#32 → answer .badValue [0] w) ∧
    (id ≠ 0 → id ≠ 0xFFFFFFFF#32 →
      (3 < sel.toNat ∨ 5 < action.toNat → answer .badAction [0] w) ∧
      (sel.toNat ≤ 3 → action.toNat ≤ 5 →
        (s.findRoll id = none → answer (if action = 0 then .ok else .notFound) (if sel = 3 then [2] else [0]) w) ∧
        ∀ k r, s.findRoll id = some (k, r) →
          let free : Prop := (∃ p, r.status = .stored p) ∧ r.holds = ⟨false, false, false, false, false⟩
          ∃ data : List Byte,
            (sel = 1 ∨ sel = 3 ∨ (sel = 2 ∧ free) → data = 1 :: r.bytes) ∧ (sel = 0 ∨ (sel = 2 ∧ ¬ free) → data = [0]) ∧
            let became (status : RollStatus) : State := w.setSlot k { r with status := status }
            (row = .mrollNone → answer .ok data w) ∧
            (row = .mrollReserve →
              (∀ p, r.status = .stored p →
                (r.holds = ⟨false, false, false, false, false⟩ → (s.place p).blocked = false →
                  answer .ok data (became (.reserved p .management))) ∧
                (r.holds ≠ ⟨false, false, false, false, false⟩ ∨ (s.place p).blocked = true →
                  answer .wrongState data w)) ∧
              (∀ p, r.status = .reserved p .management → answer .ok data w) ∧
              (∀ p st, r.status = .reserved p (.call st) → answer .callOwned data w) ∧
              ((∀ p, r.status ≠ .stored p) → (∀ p o, r.status ≠ .reserved p o) → answer .wrongState data w)) ∧
            (row = .mrollRelease →
              (∀ p, r.status = .reserved p .management → answer .ok data (became (.stored p))) ∧
              (∀ p st, r.status = .reserved p (.call st) → answer .callOwned data w) ∧
              ((∀ p o, r.status ≠ .reserved p o) → answer .wrongState data w)) ∧
            (row = .mrollHold → r.id = id → (∀ st, r.status ≠ .running st) →
              answer .ok data (w.setSlot k { r with holds := { r.holds with management := true } })) ∧
            (row = .mrollUnhold → answer .ok data (w.setSlot k { r with
              holds := ⟨false, false, false, r.holds.lostTrack && decide (r.status = .carried none), false⟩ })) ∧
            (row = .mrollRemove →
              (∀ d, r.status = .announced d → answer .ok data (w.freeSlot k)) ∧
              (∀ p, r.status = .stored p →
                answer .ok data ((w.setPlace p { s.place p with occupant := none }).freeSlot k)) ∧
              ((∀ d, r.status ≠ .announced d) → (∀ p, r.status ≠ .stored p) → answer .wrongState data w))))

/-! ### Modes, vehicles and zones as management sets them -/

/-- START (R191): in CONFIG alone; the mode becomes NORMAL, the link count, the prediction counter and every speed
count start from 0 with closed intervals, and supervision of IDLE vehicles starts. Here no vehicle is halted or has a
queued order and every stand is out of the lead with Ts unbounded. START with a hall at work (R191, R96, R146, R80):
after the mode and the counts a HOLD goes to each halted vehicle that is not OFF, Ts is computed and the call test
made for every stand, and each hold queue is considered, the vehicles and the stands in number order (the model's
choice, log 19 and log 43). A lone queued order of a free vehicle is forwarded; here the legs are clear, the path is
empty and Floor normal has room, over records with good parity. CONFIG (R192, R96): answered OK in CONFIG; refused
with FLOOR-BUSY while a claim is held or an order waits; else the mode becomes CONFIG, the calls and the search end,
the rolls reserved for calls are STORED, and a LOST vehicle is IDLE. Here no LOST vehicle stands in a lost set and the
records have good parity. The supervision counts that stop keep their values and the retry counts of the LOST vehicles
read 0 (log 38), and what a tick has found due and nobody has taken is dropped (log 39), by the model's choice. -/
def Obligations.StartAndConfigChangeMode : Prop :=
  (∀ (t : Telegram) (rest : List Telegram) (s : State), Ready .start t rest s →
     let w := s.popped rest
     (s.sfu.mode ≠ .config → exec .start s = .next (w.reply t { result := .wrongMode })) ∧
     (s.sfu.mode = .config →
       (∀ v, (s.vehicle v).causes = ⟨false, false, false, false⟩ ∧ (s.vehicle v).queue = []) →
       (∀ st, s.inLead st = false ∧ (s.stand st).ts = 65535) → s.fdu.calls = [] →
       ∃ u : State, exec .start s = .next (u.reply t { result := .ok }) ∧
         (∀ v, u.vehicle v = if (s.vehicle v).status = .idle then { s.vehicle v with supCount := 0 } else s.vehicle v) ∧
         (∀ p, u.speed p = { s.speed p with
           age := 0, driveSilence := 0, countSilence := 0, holdover := 0, interval := none }) ∧
         u = { w with
           sfu := { s.sfu with mode := .normal, linkCount := 0 }
           vou := { s.vou with vehicles := u.vou.vehicles }
           fdu := { s.fdu with speeds := u.fdu.speeds, predictionCount := 0 } })) ∧
  ((∀ (t : Telegram) (rest : List Telegram) (s : State), Ready .start t rest s → s.sfu.mode = .config →
     let halted (v : VehicleIx) : Bool :=
       decide ((s.vehicle v).status ≠ .off ∧ (s.vehicle v).causes ≠ ⟨false, false, false, false⟩)
     ∃ u : State,
       (∀ v, u.vehicle v = if (s.vehicle v).status = .idle then { s.vehicle v with supCount := 0 } else s.vehicle v) ∧
       (∀ p, u.speed p = { s.speed p with age := 0, driveSilence := 0, countSilence := 0, holdover := 0, interval := none }) ∧
       u = { s.popped rest with
         sfu := { s.sfu with mode := .normal, linkCount := 0 }
         vou := { s.vou with vehicles := u.vou.vehicles }
         fdu := { s.fdu with speeds := u.fdu.speeds, predictionCount := 0 } } ∧
       let held := ((List.finRange 16).filter halted).foldl (fun w v => w.sendHold v) u
       let timed := (List.finRange 24).foldl (fun w st => w.computeTs st) held
       exec .start s = .next (State.reply t { result := .ok } ((List.finRange 16).foldl (fun w v => w.forward v) timed))) ∧
   (∀ (v : VehicleIx) (s : State),
     let x := s.vehicle v
     (x.queue = [] ∨ x.causes ≠ ⟨false, false, false, false⟩ ∨ x.status = .off ∨ x.status = .lost ∨ s.running = false ∨
       x.window ≤ x.outstanding.length → s.forward v = s ∧ s.forwardAndTell v = s) ∧
     (s.sfu.mode = .normal → s.forwardAndTell v = s.forward v)) ∧
   ∀ (v : VehicleIx) (q : Order) (leg1 leg2 : List Nat) (e : NodeEntry) (s : State), s.noParity → s.running = true →
     let x := s.vehicle v
     x.status = .idle ∨ x.status = .busy → x.causes = ⟨false, false, false, false⟩ → x.queue = [q] →
     x.outstanding.length < x.window → x.path = [] → x.claims = [] → s.vehicleEntry? v = some e → s.ltu.normal.length < 24 →
     (s.lookupLegs x.endLoc q.pickup q.drop).1 = .clear leg1 → (s.lookupLegs x.endLoc q.pickup q.drop).2.1 = .clear leg2 →
     s.dropBlocked q.drop = false →
     let o : Order := { q with leg1 := leg1, leg2 := leg2 }
     s.forward v = State.placeNormal
       ⟨e.addr, if o.source = .upper then o.reply else s.ownAddr, 0x11, forwardedMoveBody o e.addr⟩
       (((s.setVehicle v { x with
           queue := [], outstanding := x.outstanding ++ [o], path := (leg1 ++ leg2).map fun n => ⟨n, o.tag⟩
           pointer := 0 }).seat v).updVehicle v fun y => { y with endLoc := o.drop, status := .busy })) ∧
  ∀ (t : Telegram) (rest : List Telegram) (s : State), Ready .config t rest s →
    let w := s.popped rest
    let busy : Prop := ∃ v, (s.vehicle v).claims ≠ [] ∨ (s.vehicle v).outstanding ≠ [] ∨ (s.vehicle v).queue ≠ []
    (s.sfu.mode = .config → exec .config s = .next (w.reply t { result := .ok })) ∧
    (s.sfu.mode ≠ .config → busy → exec .config s = .next (w.reply t { result := .floorBusy })) ∧
    (s.sfu.mode ≠ .config → ¬ busy → s.noParity →
      (∀ v z, (s.vehicle v).status = .lost → (s.zone z).lost.getLsbD v.val = false) →
      ∃ u : State, exec .config s = .next (u.reply t { result := .ok }) ∧
        (∀ v, u.vehicle v =
          if (s.vehicle v).status = .lost then { s.vehicle v with status := .idle, retryCount := 0 } else s.vehicle v) ∧
        (∀ k, u.slot? k = (s.slot? k).map fun r =>
          match r.status with
          | .reserved p (.call _) => { r with status := .stored p }
          | _ => r) ∧
        u = { w with
          sfu := { s.sfu with mode := .config }
          fdu := { s.fdu with calls := [], search := none }
          tmc := { s.tmc with rolls := u.tmc.rolls }
          vou := { s.vou with vehicles := u.vou.vehicles }
          due := [] })

/-- RESTART (R192) and what each block keeps of it (R27, R50, R71, R97, R115, R128, R146, R164, R177, R186): the
queues are emptied but for a HOLD naming RESTART to every vehicle that is not OFF, in vehicle order; orders, claims,
calls, runs, flags and speeds are cleared; rolls, plans, settings, masks, the clock and the requests stay. Here the
records have good parity. The stopped counts read 0 (log 38) and what has fallen due is dropped (log 39) by the
model's choice. -/
def Obligations.RestartClearsDynamicState : Prop :=
  ∀ (t : Telegram) (rest : List Telegram) (s : State), Ready .restart t rest s → s.noParity →
    let holds := (List.finRange 16).filterMap fun v =>
      if (s.vehicle v).status = .off then none
      else (s.vehicleEntry? v).map fun e => (⟨e.addr, s.ownAddr, 0x52, [0x20]⟩ : Telegram)
    ∃ u : State, exec .restart s = .next (u.reply t { result := .ok }) ∧
      (u.ltu.urgent = holds.take 8 ∧ u.ltu.restartHolds = holds.drop 8 ∧ u.ltu.normal = [] ∧ u.ltu.upper = []) ∧
      (∀ v, u.vehicle v = { s.vehicle v with
        status := if (s.vehicle v).status = .off then .off else .idle
        beforeLoss := .idle, causes := ⟨false, false, false, false⟩, intrusionZones := 0, outstanding := [], queue := []
        endLoc := ⟨.home, (s.vehicle v).home⟩, claims := [], path := [], pointer := 0, supCount := 0, retryCount := 0 }) ∧
      (∀ k, u.slot? k = (s.slot? k).map fun r =>
        match r.status with
        | .reserved p _ => { r with status := .stored p }
        | _ => r) ∧
      (s.tablesWf = true →
        (∀ p, u.place p = { s.place p with claim := none }) ∧
        ∀ n, u.seg n = { s.seg n with holders := [], waiters := [] }) ∧
      (∀ z, u.zone z = { s.zone z with lost := 0, intruders := 0 }) ∧
      (∀ st, u.stand st = { s.stand st with claim := none, ts := 65535 }) ∧
      (∀ p, u.speed p =
        { estimate := 0, source := .trackPrimary, limiting := false, age := 0, lastDrive := (s.speed p).lastDrive
          lastCount := (s.speed p).lastCount, driveSilence := 0, countSilence := 0, interval := none, pendingInc := 0
          holdover := 0 }) ∧
      (u.fdu.calls = [] ∧ u.fdu.search = none ∧ u.fdu.starved = 0 ∧ u.fdu.lastStarved = 0 ∧ u.fdu.lastStarvedTick = 0 ∧
        u.fdu.predictionCount = 0) ∧
      (u.scu.closed = [] ∧ u.scu.scrapped = s.scu.scrapped ∧ ∀ p, u.run? p = none ∧ u.press p =
        { idleGood := 0, idleWaste := 0, unassigned := 0, monitor := .ok, blockCopies := 0, blockWaste := 0
          lastRatio := 0, splice := ⟨0, none, none⟩, brk := ⟨0, none, none⟩ }) ∧
      (∀ f, u.flag f = { latched := false, masked := (s.flag f).masked, subject := 0, subjects := 0, tick := 0 }) ∧
      (u.sfu.mode = .config ∧ u.sfu.pulse = 0 ∧ u.sfu.linkCount = 0 ∧ u.pins.alarmLow = false ∧ u.due = []) ∧
      u = { s.popped rest with
        ltu := { s.ltu with
          urgent := u.ltu.urgent, restartHolds := u.ltu.restartHolds, normal := u.ltu.normal, upper := u.ltu.upper }
        vou := { s.vou with vehicles := u.vou.vehicles }
        tmc := { s.tmc with rolls := u.tmc.rolls, places := u.tmc.places }
        tcu := { s.tcu with segments := u.tcu.segments, zones := u.tcu.zones }
        fdu := { s.fdu with
          stands := u.fdu.stands, speeds := u.fdu.speeds, calls := u.fdu.calls, search := u.fdu.search
          starved := u.fdu.starved, lastStarved := u.fdu.lastStarved, lastStarvedTick := u.fdu.lastStarvedTick
          predictionCount := u.fdu.predictionCount }
        scu := u.scu
        sfu := { s.sfu with mode := u.sfu.mode, flags := u.sfu.flags, pulse := u.sfu.pulse, linkCount := u.sfu.linkCount }
        pins := { s.pins with alarmLow := u.pins.alarmLow }
        due := u.due }

/-- PARTITION (R193): in CONFIG alone, each size in its range and on its step, and the words within the memory;
accepted, every block takes its power-on values but for the flags, the masks, the clock, the queues and the requests,
the mode is START-UP and the request waits. The order of the checks (log 41) and the emptied due list (log 39) are the
model's choice. -/
def Obligations.PartitionRebuildsTheTables : Prop :=
  ∀ (t : Telegram) (rest : List Telegram) (s : State), Ready .partition t rest s →
    let w := s.popped rest
    let answer (r : Result) : Prop := exec .partition s = .next (w.reply t { result := r })
    let R := u16 t.body 1
    let P := u16 t.body 3
    let Q := u16 t.body 5
    let ok : Prop := 256 ≤ R ∧ R ≤ 4096 ∧ R % 256 = 0 ∧ 128 ≤ P ∧ P ≤ 2048 ∧ P % 128 = 0 ∧ 64 ≤ Q ∧ Q ≤ 1024 ∧ Q % 64 = 0
    let memory := if s.pins.msizeHigh then 131072 else 65536
    (s.sfu.mode ≠ .config → answer .wrongMode) ∧
    (s.sfu.mode = .config → ¬ ok → answer .badValue) ∧
    (s.sfu.mode = .config → ok → memory < 16 * R + 4 * P + 20 * Q → answer .noFit) ∧
    (s.sfu.mode = .config → ok → 16 * R + 4 * P + 20 * Q ≤ memory →
      exec .partition s = .next { State.reset with
        pins := s.pins
        clock := s.clock
        ltu := s.ltu
        tmc := { State.reset.tmc with sizes := ⟨R, P, Q⟩ }
        sfu := { State.reset.sfu with mode := .startUp, flags := s.sfu.flags, pulse := s.sfu.pulse }
        mga := { queue := rest, partitionWaiting := some t }
        pending := s.pending })

/-- VEHICLE-OFF, VEHICLE-ON (R93) and WRITE-OFF (R94). VEHICLE-ON is stated outside AUTONOMOUS, WRITE-OFF for a
vehicle that holds no claim, waits nowhere, has no order, is in no lost set and carries no roll. The counts of an OFF
vehicle read 0, which is the model's (log 38), and so is the HOLD that VEHICLE-ON sends in CONFIG (log 44). CLEAR-ZONE
(R69, R95): a zone number outside 1 to 8 is refused; a zone without intruders that no vehicle counts among its
intrusion zones is answered OK without a change; here one vehicle, without another cause and without a queued order,
waiting nowhere, intruded in a zone whose policy halts one vehicle only: it loses INTRUSION and is sent a RELEASE, IDLE
in NORMAL as it is, or BUSY with outstanding orders after its re-seating (R95): every claim is released and its segment
served, and it takes its occupied claim anew on its current segment. -/
def Obligations.VehiclesAndZonesAreManaged : Prop :=
  (∀ (v : VehicleIx) (t : Telegram) (rest : List Telegram) (s : State), (u8 t.body 1).toNat = num v →
     let w := s.popped rest
     let x := s.vehicle v
     let answer (c : Instr) (r : Result) (u : State) : Prop := exec c s = .next (u.reply t { result := r })
     (Ready .vehicleOff t rest s →
       (x.status = .off → answer .vehicleOff .ok w) ∧
       (x.status = .idle → x.queue = [] →
         answer .vehicleOff .ok (w.setVehicle v { x with status := .off, supCount := 0 })) ∧
       (x.status = .busy ∨ x.status = .lost ∨ (x.status = .idle ∧ x.queue ≠ []) → answer .vehicleOff .wrongState w)) ∧
     (Ready .vehicleOn t rest s →
       (x.status ≠ .off → answer .vehicleOn .ok w) ∧
       (x.status = .off → s.vehicleEntry? v = none → answer .vehicleOn .wrongState w) ∧
       (x.status = .off → s.vehicleEntry? v ≠ none → s.sfu.mode ≠ .autonomous →
         let u := w.setVehicle v { x with
           status := .idle, supCount := 0
           endLoc := if x.currentSeg = 0 then ⟨.home, x.home⟩ else ⟨.segment, x.currentSeg⟩ }
         (x.causes = ⟨false, false, false, false⟩ → answer .vehicleOn .ok u) ∧
         (x.causes ≠ ⟨false, false, false, false⟩ → answer .vehicleOn .ok (u.sendHold v)))) ∧
     (Ready .writeOff t rest s → x.claims = [] → s.waitsFor? v = none → x.outstanding = [] → x.queue = [] →
       (∀ z, (s.zone z).lost.getLsbD v.val = false) → (∀ id, x.load ≠ .roll id) →
       let off : Vehicle := { x with
         load := .empty, causes := ⟨false, false, false, false⟩, intrusionZones := 0, supCount := 0, retryCount := 0
         status := .off }
       (x.status = .off → answer .writeOff .ok (w.setVehicle v off)) ∧
       (x.status ≠ .off → ∀ e, s.vehicleEntry? v = some e →
         answer .writeOff .ok ((w.placeUrgent ⟨e.addr, s.ownAddr, 0x52, [4]⟩).setVehicle v off)))) ∧
  ∀ (t : Telegram) (rest : List Telegram) (s : State), Ready .clearZone t rest s →
    let w := s.popped rest
    let answer (r : Result) (u : State) : Prop := exec .clearZone s = .next (u.reply t { result := r })
    ((u8 t.body 1).toNat = 0 ∨ 8 < (u8 t.body 1).toNat → answer .badIndex w) ∧
    ∀ z : ZoneIx, (u8 t.body 1).toNat = num z →
      ((s.zone z).intruders = 0 → (∀ v, (s.vehicle v).intrusionZones.getLsbD z.val = false) → answer .ok w) ∧
      ∀ v, (∀ y, (s.vehicle y).intrusionZones.getLsbD z.val = decide (y = v)) → s.running = true →
        (s.zone z).intruders = 0 → (s.zone z).lost = 0 →
        let x := s.vehicle v
        x.intrusionZones = BitVec.twoPow 8 z.val → x.causes = ⟨false, false, false, true⟩ → x.queue = [] →
        s.waitsFor? v = none →
        let clear := w.setVehicle v { x with intrusionZones := 0, causes := ⟨false, false, false, false⟩ }
        (x.status = .idle → x.outstanding = [] → s.sfu.mode = .normal → answer .ok (clear.sendRelease v)) ∧
        (x.status = .busy → x.outstanding ≠ [] →
          answer .ok (((clear.dropClaims v x.claims []).seat v).sendRelease v))

/-! ### Invariants -/

/-- Every step keeps the queues within their slots (R37, R45, R152). -/
def Obligations.EveryStepKeepsQueuesFit : Prop :=
  ∀ s t : State, step s = .next t → s.queuesFit → t.queuesFit

/-- Every step leaves the ALARM pin at its level (R185), in a state where it stands there. -/
def Obligations.EveryStepKeepsAlarmAtItsLevel : Prop :=
  ∀ s t : State, step s = .next t → s.alarmFollows → t.alarmFollows

/-- Every step keeps the tables in their canonical form: records by rising number, and no listed record that reads as
an unlisted one. -/
def Obligations.EveryStepKeepsTablesCanonical : Prop :=
  ∀ s t : State, step s = .next t → s.tablesWf = true → t.tablesWf = true

/-- Every step keeps the speed estimates, and the plans' nominal speeds that may become one, within 0 to 1,500 (R120,
R165). Every step keeps the call list ordered by due second and stand, one call a stand at most (R135). -/
def Obligations.EveryStepKeepsSpeedsAndCalls : Prop :=
  (∀ s t : State, step s = .next t → s.speedsBounded → t.speedsBounded) ∧
  ∀ s t : State, step s = .next t → s.callsOrdered → t.callsOrdered
end

