-- ==== Sys2Proof/Laws/State.lean ====
section
/-! SUPPORT. One lemma per field per update, so that no proof unfolds a record update, and what a record reads as after it
has been written. -/

namespace Sys2Proof.Machine

namespace State

/-! ### The fields an update leaves -/

@[simp] theorem setVehicle_pins (s : State) (v : VehicleIx) (x : Vehicle) : (s.setVehicle v x).pins = s.pins := rfl
@[simp] theorem setVehicle_clock (s : State) (v : VehicleIx) (x : Vehicle) : (s.setVehicle v x).clock = s.clock := rfl
@[simp] theorem setVehicle_ltu (s : State) (v : VehicleIx) (x : Vehicle) : (s.setVehicle v x).ltu = s.ltu := rfl
@[simp] theorem setVehicle_nd (s : State) (v : VehicleIx) (x : Vehicle) : (s.setVehicle v x).nd = s.nd := rfl
@[simp] theorem setVehicle_tcu (s : State) (v : VehicleIx) (x : Vehicle) : (s.setVehicle v x).tcu = s.tcu := rfl
@[simp] theorem setVehicle_tmc (s : State) (v : VehicleIx) (x : Vehicle) : (s.setVehicle v x).tmc = s.tmc := rfl
@[simp] theorem setVehicle_fdu (s : State) (v : VehicleIx) (x : Vehicle) : (s.setVehicle v x).fdu = s.fdu := rfl
@[simp] theorem setVehicle_scu (s : State) (v : VehicleIx) (x : Vehicle) : (s.setVehicle v x).scu = s.scu := rfl
@[simp] theorem setVehicle_pls (s : State) (v : VehicleIx) (x : Vehicle) : (s.setVehicle v x).pls = s.pls := rfl
@[simp] theorem setVehicle_sfu (s : State) (v : VehicleIx) (x : Vehicle) : (s.setVehicle v x).sfu = s.sfu := rfl
@[simp] theorem setVehicle_mga (s : State) (v : VehicleIx) (x : Vehicle) : (s.setVehicle v x).mga = s.mga := rfl
@[simp] theorem setVehicle_due (s : State) (v : VehicleIx) (x : Vehicle) : (s.setVehicle v x).due = s.due := rfl
@[simp] theorem setVehicle_pending (s : State) (v : VehicleIx) (x : Vehicle) : (s.setVehicle v x).pending = s.pending := rfl

@[simp] theorem updVehicle_pins (s : State) (v : VehicleIx) (f : Vehicle → Vehicle) : (s.updVehicle v f).pins = s.pins := rfl
@[simp] theorem updVehicle_clock (s : State) (v : VehicleIx) (f : Vehicle → Vehicle) : (s.updVehicle v f).clock = s.clock := rfl
@[simp] theorem updVehicle_ltu (s : State) (v : VehicleIx) (f : Vehicle → Vehicle) : (s.updVehicle v f).ltu = s.ltu := rfl
@[simp] theorem updVehicle_nd (s : State) (v : VehicleIx) (f : Vehicle → Vehicle) : (s.updVehicle v f).nd = s.nd := rfl
@[simp] theorem updVehicle_tcu (s : State) (v : VehicleIx) (f : Vehicle → Vehicle) : (s.updVehicle v f).tcu = s.tcu := rfl
@[simp] theorem updVehicle_tmc (s : State) (v : VehicleIx) (f : Vehicle → Vehicle) : (s.updVehicle v f).tmc = s.tmc := rfl
@[simp] theorem updVehicle_fdu (s : State) (v : VehicleIx) (f : Vehicle → Vehicle) : (s.updVehicle v f).fdu = s.fdu := rfl
@[simp] theorem updVehicle_scu (s : State) (v : VehicleIx) (f : Vehicle → Vehicle) : (s.updVehicle v f).scu = s.scu := rfl
@[simp] theorem updVehicle_pls (s : State) (v : VehicleIx) (f : Vehicle → Vehicle) : (s.updVehicle v f).pls = s.pls := rfl
@[simp] theorem updVehicle_sfu (s : State) (v : VehicleIx) (f : Vehicle → Vehicle) : (s.updVehicle v f).sfu = s.sfu := rfl
@[simp] theorem updVehicle_mga (s : State) (v : VehicleIx) (f : Vehicle → Vehicle) : (s.updVehicle v f).mga = s.mga := rfl
@[simp] theorem updVehicle_due (s : State) (v : VehicleIx) (f : Vehicle → Vehicle) : (s.updVehicle v f).due = s.due := rfl
@[simp] theorem updVehicle_pending (s : State) (v : VehicleIx) (f : Vehicle → Vehicle) : (s.updVehicle v f).pending = s.pending := rfl

@[simp] theorem setStand_pins (s : State) (st : StandIx) (x : Stand) : (s.setStand st x).pins = s.pins := rfl
@[simp] theorem setStand_clock (s : State) (st : StandIx) (x : Stand) : (s.setStand st x).clock = s.clock := rfl
@[simp] theorem setStand_ltu (s : State) (st : StandIx) (x : Stand) : (s.setStand st x).ltu = s.ltu := rfl
@[simp] theorem setStand_nd (s : State) (st : StandIx) (x : Stand) : (s.setStand st x).nd = s.nd := rfl
@[simp] theorem setStand_tcu (s : State) (st : StandIx) (x : Stand) : (s.setStand st x).tcu = s.tcu := rfl
@[simp] theorem setStand_vou (s : State) (st : StandIx) (x : Stand) : (s.setStand st x).vou = s.vou := rfl
@[simp] theorem setStand_tmc (s : State) (st : StandIx) (x : Stand) : (s.setStand st x).tmc = s.tmc := rfl
@[simp] theorem setStand_scu (s : State) (st : StandIx) (x : Stand) : (s.setStand st x).scu = s.scu := rfl
@[simp] theorem setStand_pls (s : State) (st : StandIx) (x : Stand) : (s.setStand st x).pls = s.pls := rfl
@[simp] theorem setStand_sfu (s : State) (st : StandIx) (x : Stand) : (s.setStand st x).sfu = s.sfu := rfl
@[simp] theorem setStand_mga (s : State) (st : StandIx) (x : Stand) : (s.setStand st x).mga = s.mga := rfl
@[simp] theorem setStand_due (s : State) (st : StandIx) (x : Stand) : (s.setStand st x).due = s.due := rfl
@[simp] theorem setStand_pending (s : State) (st : StandIx) (x : Stand) : (s.setStand st x).pending = s.pending := rfl

@[simp] theorem updStand_pins (s : State) (st : StandIx) (f : Stand → Stand) : (s.updStand st f).pins = s.pins := rfl
@[simp] theorem updStand_clock (s : State) (st : StandIx) (f : Stand → Stand) : (s.updStand st f).clock = s.clock := rfl
@[simp] theorem updStand_ltu (s : State) (st : StandIx) (f : Stand → Stand) : (s.updStand st f).ltu = s.ltu := rfl
@[simp] theorem updStand_nd (s : State) (st : StandIx) (f : Stand → Stand) : (s.updStand st f).nd = s.nd := rfl
@[simp] theorem updStand_tcu (s : State) (st : StandIx) (f : Stand → Stand) : (s.updStand st f).tcu = s.tcu := rfl
@[simp] theorem updStand_vou (s : State) (st : StandIx) (f : Stand → Stand) : (s.updStand st f).vou = s.vou := rfl
@[simp] theorem updStand_tmc (s : State) (st : StandIx) (f : Stand → Stand) : (s.updStand st f).tmc = s.tmc := rfl
@[simp] theorem updStand_scu (s : State) (st : StandIx) (f : Stand → Stand) : (s.updStand st f).scu = s.scu := rfl
@[simp] theorem updStand_pls (s : State) (st : StandIx) (f : Stand → Stand) : (s.updStand st f).pls = s.pls := rfl
@[simp] theorem updStand_sfu (s : State) (st : StandIx) (f : Stand → Stand) : (s.updStand st f).sfu = s.sfu := rfl
@[simp] theorem updStand_mga (s : State) (st : StandIx) (f : Stand → Stand) : (s.updStand st f).mga = s.mga := rfl
@[simp] theorem updStand_due (s : State) (st : StandIx) (f : Stand → Stand) : (s.updStand st f).due = s.due := rfl
@[simp] theorem updStand_pending (s : State) (st : StandIx) (f : Stand → Stand) : (s.updStand st f).pending = s.pending := rfl

@[simp] theorem setSpeed_pins (s : State) (p : PressIx) (x : Speed) : (s.setSpeed p x).pins = s.pins := rfl
@[simp] theorem setSpeed_clock (s : State) (p : PressIx) (x : Speed) : (s.setSpeed p x).clock = s.clock := rfl
@[simp] theorem setSpeed_ltu (s : State) (p : PressIx) (x : Speed) : (s.setSpeed p x).ltu = s.ltu := rfl
@[simp] theorem setSpeed_nd (s : State) (p : PressIx) (x : Speed) : (s.setSpeed p x).nd = s.nd := rfl
@[simp] theorem setSpeed_tcu (s : State) (p : PressIx) (x : Speed) : (s.setSpeed p x).tcu = s.tcu := rfl
@[simp] theorem setSpeed_vou (s : State) (p : PressIx) (x : Speed) : (s.setSpeed p x).vou = s.vou := rfl
@[simp] theorem setSpeed_tmc (s : State) (p : PressIx) (x : Speed) : (s.setSpeed p x).tmc = s.tmc := rfl
@[simp] theorem setSpeed_scu (s : State) (p : PressIx) (x : Speed) : (s.setSpeed p x).scu = s.scu := rfl
@[simp] theorem setSpeed_pls (s : State) (p : PressIx) (x : Speed) : (s.setSpeed p x).pls = s.pls := rfl
@[simp] theorem setSpeed_sfu (s : State) (p : PressIx) (x : Speed) : (s.setSpeed p x).sfu = s.sfu := rfl
@[simp] theorem setSpeed_mga (s : State) (p : PressIx) (x : Speed) : (s.setSpeed p x).mga = s.mga := rfl
@[simp] theorem setSpeed_due (s : State) (p : PressIx) (x : Speed) : (s.setSpeed p x).due = s.due := rfl
@[simp] theorem setSpeed_pending (s : State) (p : PressIx) (x : Speed) : (s.setSpeed p x).pending = s.pending := rfl

@[simp] theorem updSpeed_pins (s : State) (p : PressIx) (f : Speed → Speed) : (s.updSpeed p f).pins = s.pins := rfl
@[simp] theorem updSpeed_clock (s : State) (p : PressIx) (f : Speed → Speed) : (s.updSpeed p f).clock = s.clock := rfl
@[simp] theorem updSpeed_ltu (s : State) (p : PressIx) (f : Speed → Speed) : (s.updSpeed p f).ltu = s.ltu := rfl
@[simp] theorem updSpeed_nd (s : State) (p : PressIx) (f : Speed → Speed) : (s.updSpeed p f).nd = s.nd := rfl
@[simp] theorem updSpeed_tcu (s : State) (p : PressIx) (f : Speed → Speed) : (s.updSpeed p f).tcu = s.tcu := rfl
@[simp] theorem updSpeed_vou (s : State) (p : PressIx) (f : Speed → Speed) : (s.updSpeed p f).vou = s.vou := rfl
@[simp] theorem updSpeed_tmc (s : State) (p : PressIx) (f : Speed → Speed) : (s.updSpeed p f).tmc = s.tmc := rfl
@[simp] theorem updSpeed_scu (s : State) (p : PressIx) (f : Speed → Speed) : (s.updSpeed p f).scu = s.scu := rfl
@[simp] theorem updSpeed_pls (s : State) (p : PressIx) (f : Speed → Speed) : (s.updSpeed p f).pls = s.pls := rfl
@[simp] theorem updSpeed_sfu (s : State) (p : PressIx) (f : Speed → Speed) : (s.updSpeed p f).sfu = s.sfu := rfl
@[simp] theorem updSpeed_mga (s : State) (p : PressIx) (f : Speed → Speed) : (s.updSpeed p f).mga = s.mga := rfl
@[simp] theorem updSpeed_due (s : State) (p : PressIx) (f : Speed → Speed) : (s.updSpeed p f).due = s.due := rfl
@[simp] theorem updSpeed_pending (s : State) (p : PressIx) (f : Speed → Speed) : (s.updSpeed p f).pending = s.pending := rfl

@[simp] theorem updSettings_pins (s : State) (p : PressIx) (f : SpeedSettings → SpeedSettings) : (s.updSettings p f).pins = s.pins := rfl
@[simp] theorem updSettings_clock (s : State) (p : PressIx) (f : SpeedSettings → SpeedSettings) : (s.updSettings p f).clock = s.clock := rfl
@[simp] theorem updSettings_ltu (s : State) (p : PressIx) (f : SpeedSettings → SpeedSettings) : (s.updSettings p f).ltu = s.ltu := rfl
@[simp] theorem updSettings_nd (s : State) (p : PressIx) (f : SpeedSettings → SpeedSettings) : (s.updSettings p f).nd = s.nd := rfl
@[simp] theorem updSettings_tcu (s : State) (p : PressIx) (f : SpeedSettings → SpeedSettings) : (s.updSettings p f).tcu = s.tcu := rfl
@[simp] theorem updSettings_vou (s : State) (p : PressIx) (f : SpeedSettings → SpeedSettings) : (s.updSettings p f).vou = s.vou := rfl
@[simp] theorem updSettings_tmc (s : State) (p : PressIx) (f : SpeedSettings → SpeedSettings) : (s.updSettings p f).tmc = s.tmc := rfl
@[simp] theorem updSettings_scu (s : State) (p : PressIx) (f : SpeedSettings → SpeedSettings) : (s.updSettings p f).scu = s.scu := rfl
@[simp] theorem updSettings_pls (s : State) (p : PressIx) (f : SpeedSettings → SpeedSettings) : (s.updSettings p f).pls = s.pls := rfl
@[simp] theorem updSettings_sfu (s : State) (p : PressIx) (f : SpeedSettings → SpeedSettings) : (s.updSettings p f).sfu = s.sfu := rfl
@[simp] theorem updSettings_mga (s : State) (p : PressIx) (f : SpeedSettings → SpeedSettings) : (s.updSettings p f).mga = s.mga := rfl
@[simp] theorem updSettings_due (s : State) (p : PressIx) (f : SpeedSettings → SpeedSettings) : (s.updSettings p f).due = s.due := rfl
@[simp] theorem updSettings_pending (s : State) (p : PressIx) (f : SpeedSettings → SpeedSettings) : (s.updSettings p f).pending = s.pending := rfl

@[simp] theorem setCalls_pins (s : State) (l : List Call) : (s.setCalls l).pins = s.pins := rfl
@[simp] theorem setCalls_clock (s : State) (l : List Call) : (s.setCalls l).clock = s.clock := rfl
@[simp] theorem setCalls_ltu (s : State) (l : List Call) : (s.setCalls l).ltu = s.ltu := rfl
@[simp] theorem setCalls_nd (s : State) (l : List Call) : (s.setCalls l).nd = s.nd := rfl
@[simp] theorem setCalls_tcu (s : State) (l : List Call) : (s.setCalls l).tcu = s.tcu := rfl
@[simp] theorem setCalls_vou (s : State) (l : List Call) : (s.setCalls l).vou = s.vou := rfl
@[simp] theorem setCalls_tmc (s : State) (l : List Call) : (s.setCalls l).tmc = s.tmc := rfl
@[simp] theorem setCalls_scu (s : State) (l : List Call) : (s.setCalls l).scu = s.scu := rfl
@[simp] theorem setCalls_pls (s : State) (l : List Call) : (s.setCalls l).pls = s.pls := rfl
@[simp] theorem setCalls_sfu (s : State) (l : List Call) : (s.setCalls l).sfu = s.sfu := rfl
@[simp] theorem setCalls_mga (s : State) (l : List Call) : (s.setCalls l).mga = s.mga := rfl
@[simp] theorem setCalls_due (s : State) (l : List Call) : (s.setCalls l).due = s.due := rfl
@[simp] theorem setCalls_pending (s : State) (l : List Call) : (s.setCalls l).pending = s.pending := rfl

@[simp] theorem setSearch_pins (s : State) (x : Option Search) : (s.setSearch x).pins = s.pins := rfl
@[simp] theorem setSearch_clock (s : State) (x : Option Search) : (s.setSearch x).clock = s.clock := rfl
@[simp] theorem setSearch_ltu (s : State) (x : Option Search) : (s.setSearch x).ltu = s.ltu := rfl
@[simp] theorem setSearch_nd (s : State) (x : Option Search) : (s.setSearch x).nd = s.nd := rfl
@[simp] theorem setSearch_tcu (s : State) (x : Option Search) : (s.setSearch x).tcu = s.tcu := rfl
@[simp] theorem setSearch_vou (s : State) (x : Option Search) : (s.setSearch x).vou = s.vou := rfl
@[simp] theorem setSearch_tmc (s : State) (x : Option Search) : (s.setSearch x).tmc = s.tmc := rfl
@[simp] theorem setSearch_scu (s : State) (x : Option Search) : (s.setSearch x).scu = s.scu := rfl
@[simp] theorem setSearch_pls (s : State) (x : Option Search) : (s.setSearch x).pls = s.pls := rfl
@[simp] theorem setSearch_sfu (s : State) (x : Option Search) : (s.setSearch x).sfu = s.sfu := rfl
@[simp] theorem setSearch_mga (s : State) (x : Option Search) : (s.setSearch x).mga = s.mga := rfl
@[simp] theorem setSearch_due (s : State) (x : Option Search) : (s.setSearch x).due = s.due := rfl
@[simp] theorem setSearch_pending (s : State) (x : Option Search) : (s.setSearch x).pending = s.pending := rfl

@[simp] theorem updZone_pins (s : State) (z : ZoneIx) (f : Zone → Zone) : (s.updZone z f).pins = s.pins := rfl
@[simp] theorem updZone_clock (s : State) (z : ZoneIx) (f : Zone → Zone) : (s.updZone z f).clock = s.clock := rfl
@[simp] theorem updZone_ltu (s : State) (z : ZoneIx) (f : Zone → Zone) : (s.updZone z f).ltu = s.ltu := rfl
@[simp] theorem updZone_nd (s : State) (z : ZoneIx) (f : Zone → Zone) : (s.updZone z f).nd = s.nd := rfl
@[simp] theorem updZone_vou (s : State) (z : ZoneIx) (f : Zone → Zone) : (s.updZone z f).vou = s.vou := rfl
@[simp] theorem updZone_tmc (s : State) (z : ZoneIx) (f : Zone → Zone) : (s.updZone z f).tmc = s.tmc := rfl
@[simp] theorem updZone_fdu (s : State) (z : ZoneIx) (f : Zone → Zone) : (s.updZone z f).fdu = s.fdu := rfl
@[simp] theorem updZone_scu (s : State) (z : ZoneIx) (f : Zone → Zone) : (s.updZone z f).scu = s.scu := rfl
@[simp] theorem updZone_pls (s : State) (z : ZoneIx) (f : Zone → Zone) : (s.updZone z f).pls = s.pls := rfl
@[simp] theorem updZone_sfu (s : State) (z : ZoneIx) (f : Zone → Zone) : (s.updZone z f).sfu = s.sfu := rfl
@[simp] theorem updZone_mga (s : State) (z : ZoneIx) (f : Zone → Zone) : (s.updZone z f).mga = s.mga := rfl
@[simp] theorem updZone_due (s : State) (z : ZoneIx) (f : Zone → Zone) : (s.updZone z f).due = s.due := rfl
@[simp] theorem updZone_pending (s : State) (z : ZoneIx) (f : Zone → Zone) : (s.updZone z f).pending = s.pending := rfl

@[simp] theorem setSeg_pins (s : State) (n : Nat) (x : Segment) : (s.setSeg n x).pins = s.pins := rfl
@[simp] theorem setSeg_clock (s : State) (n : Nat) (x : Segment) : (s.setSeg n x).clock = s.clock := rfl
@[simp] theorem setSeg_ltu (s : State) (n : Nat) (x : Segment) : (s.setSeg n x).ltu = s.ltu := rfl
@[simp] theorem setSeg_nd (s : State) (n : Nat) (x : Segment) : (s.setSeg n x).nd = s.nd := rfl
@[simp] theorem setSeg_vou (s : State) (n : Nat) (x : Segment) : (s.setSeg n x).vou = s.vou := rfl
@[simp] theorem setSeg_tmc (s : State) (n : Nat) (x : Segment) : (s.setSeg n x).tmc = s.tmc := rfl
@[simp] theorem setSeg_fdu (s : State) (n : Nat) (x : Segment) : (s.setSeg n x).fdu = s.fdu := rfl
@[simp] theorem setSeg_scu (s : State) (n : Nat) (x : Segment) : (s.setSeg n x).scu = s.scu := rfl
@[simp] theorem setSeg_pls (s : State) (n : Nat) (x : Segment) : (s.setSeg n x).pls = s.pls := rfl
@[simp] theorem setSeg_sfu (s : State) (n : Nat) (x : Segment) : (s.setSeg n x).sfu = s.sfu := rfl
@[simp] theorem setSeg_mga (s : State) (n : Nat) (x : Segment) : (s.setSeg n x).mga = s.mga := rfl
@[simp] theorem setSeg_due (s : State) (n : Nat) (x : Segment) : (s.setSeg n x).due = s.due := rfl
@[simp] theorem setSeg_pending (s : State) (n : Nat) (x : Segment) : (s.setSeg n x).pending = s.pending := rfl

@[simp] theorem updSeg_pins (s : State) (n : Nat) (f : Segment → Segment) : (s.updSeg n f).pins = s.pins := rfl
@[simp] theorem updSeg_clock (s : State) (n : Nat) (f : Segment → Segment) : (s.updSeg n f).clock = s.clock := rfl
@[simp] theorem updSeg_ltu (s : State) (n : Nat) (f : Segment → Segment) : (s.updSeg n f).ltu = s.ltu := rfl
@[simp] theorem updSeg_nd (s : State) (n : Nat) (f : Segment → Segment) : (s.updSeg n f).nd = s.nd := rfl
@[simp] theorem updSeg_vou (s : State) (n : Nat) (f : Segment → Segment) : (s.updSeg n f).vou = s.vou := rfl
@[simp] theorem updSeg_tmc (s : State) (n : Nat) (f : Segment → Segment) : (s.updSeg n f).tmc = s.tmc := rfl
@[simp] theorem updSeg_fdu (s : State) (n : Nat) (f : Segment → Segment) : (s.updSeg n f).fdu = s.fdu := rfl
@[simp] theorem updSeg_scu (s : State) (n : Nat) (f : Segment → Segment) : (s.updSeg n f).scu = s.scu := rfl
@[simp] theorem updSeg_pls (s : State) (n : Nat) (f : Segment → Segment) : (s.updSeg n f).pls = s.pls := rfl
@[simp] theorem updSeg_sfu (s : State) (n : Nat) (f : Segment → Segment) : (s.updSeg n f).sfu = s.sfu := rfl
@[simp] theorem updSeg_mga (s : State) (n : Nat) (f : Segment → Segment) : (s.updSeg n f).mga = s.mga := rfl
@[simp] theorem updSeg_due (s : State) (n : Nat) (f : Segment → Segment) : (s.updSeg n f).due = s.due := rfl
@[simp] theorem updSeg_pending (s : State) (n : Nat) (f : Segment → Segment) : (s.updSeg n f).pending = s.pending := rfl

@[simp] theorem setPlace_pins (s : State) (p : Nat) (x : Place) : (s.setPlace p x).pins = s.pins := rfl
@[simp] theorem setPlace_clock (s : State) (p : Nat) (x : Place) : (s.setPlace p x).clock = s.clock := rfl
@[simp] theorem setPlace_ltu (s : State) (p : Nat) (x : Place) : (s.setPlace p x).ltu = s.ltu := rfl
@[simp] theorem setPlace_nd (s : State) (p : Nat) (x : Place) : (s.setPlace p x).nd = s.nd := rfl
@[simp] theorem setPlace_tcu (s : State) (p : Nat) (x : Place) : (s.setPlace p x).tcu = s.tcu := rfl
@[simp] theorem setPlace_vou (s : State) (p : Nat) (x : Place) : (s.setPlace p x).vou = s.vou := rfl
@[simp] theorem setPlace_fdu (s : State) (p : Nat) (x : Place) : (s.setPlace p x).fdu = s.fdu := rfl
@[simp] theorem setPlace_scu (s : State) (p : Nat) (x : Place) : (s.setPlace p x).scu = s.scu := rfl
@[simp] theorem setPlace_pls (s : State) (p : Nat) (x : Place) : (s.setPlace p x).pls = s.pls := rfl
@[simp] theorem setPlace_sfu (s : State) (p : Nat) (x : Place) : (s.setPlace p x).sfu = s.sfu := rfl
@[simp] theorem setPlace_mga (s : State) (p : Nat) (x : Place) : (s.setPlace p x).mga = s.mga := rfl
@[simp] theorem setPlace_due (s : State) (p : Nat) (x : Place) : (s.setPlace p x).due = s.due := rfl
@[simp] theorem setPlace_pending (s : State) (p : Nat) (x : Place) : (s.setPlace p x).pending = s.pending := rfl

@[simp] theorem setSlot_pins (s : State) (k : Nat) (r : Roll) : (s.setSlot k r).pins = s.pins := rfl
@[simp] theorem setSlot_clock (s : State) (k : Nat) (r : Roll) : (s.setSlot k r).clock = s.clock := rfl
@[simp] theorem setSlot_ltu (s : State) (k : Nat) (r : Roll) : (s.setSlot k r).ltu = s.ltu := rfl
@[simp] theorem setSlot_nd (s : State) (k : Nat) (r : Roll) : (s.setSlot k r).nd = s.nd := rfl
@[simp] theorem setSlot_tcu (s : State) (k : Nat) (r : Roll) : (s.setSlot k r).tcu = s.tcu := rfl
@[simp] theorem setSlot_vou (s : State) (k : Nat) (r : Roll) : (s.setSlot k r).vou = s.vou := rfl
@[simp] theorem setSlot_fdu (s : State) (k : Nat) (r : Roll) : (s.setSlot k r).fdu = s.fdu := rfl
@[simp] theorem setSlot_scu (s : State) (k : Nat) (r : Roll) : (s.setSlot k r).scu = s.scu := rfl
@[simp] theorem setSlot_pls (s : State) (k : Nat) (r : Roll) : (s.setSlot k r).pls = s.pls := rfl
@[simp] theorem setSlot_sfu (s : State) (k : Nat) (r : Roll) : (s.setSlot k r).sfu = s.sfu := rfl
@[simp] theorem setSlot_mga (s : State) (k : Nat) (r : Roll) : (s.setSlot k r).mga = s.mga := rfl
@[simp] theorem setSlot_due (s : State) (k : Nat) (r : Roll) : (s.setSlot k r).due = s.due := rfl
@[simp] theorem setSlot_pending (s : State) (k : Nat) (r : Roll) : (s.setSlot k r).pending = s.pending := rfl

@[simp] theorem freeSlot_pins (s : State) (k : Nat) : (s.freeSlot k).pins = s.pins := rfl
@[simp] theorem freeSlot_clock (s : State) (k : Nat) : (s.freeSlot k).clock = s.clock := rfl
@[simp] theorem freeSlot_ltu (s : State) (k : Nat) : (s.freeSlot k).ltu = s.ltu := rfl
@[simp] theorem freeSlot_nd (s : State) (k : Nat) : (s.freeSlot k).nd = s.nd := rfl
@[simp] theorem freeSlot_tcu (s : State) (k : Nat) : (s.freeSlot k).tcu = s.tcu := rfl
@[simp] theorem freeSlot_vou (s : State) (k : Nat) : (s.freeSlot k).vou = s.vou := rfl
@[simp] theorem freeSlot_fdu (s : State) (k : Nat) : (s.freeSlot k).fdu = s.fdu := rfl
@[simp] theorem freeSlot_scu (s : State) (k : Nat) : (s.freeSlot k).scu = s.scu := rfl
@[simp] theorem freeSlot_pls (s : State) (k : Nat) : (s.freeSlot k).pls = s.pls := rfl
@[simp] theorem freeSlot_sfu (s : State) (k : Nat) : (s.freeSlot k).sfu = s.sfu := rfl
@[simp] theorem freeSlot_mga (s : State) (k : Nat) : (s.freeSlot k).mga = s.mga := rfl
@[simp] theorem freeSlot_due (s : State) (k : Nat) : (s.freeSlot k).due = s.due := rfl
@[simp] theorem freeSlot_pending (s : State) (k : Nat) : (s.freeSlot k).pending = s.pending := rfl

@[simp] theorem freeRoute_pins (s : State) (k : Nat) : (s.freeRoute k).pins = s.pins := rfl
@[simp] theorem freeRoute_clock (s : State) (k : Nat) : (s.freeRoute k).clock = s.clock := rfl
@[simp] theorem freeRoute_ltu (s : State) (k : Nat) : (s.freeRoute k).ltu = s.ltu := rfl
@[simp] theorem freeRoute_nd (s : State) (k : Nat) : (s.freeRoute k).nd = s.nd := rfl
@[simp] theorem freeRoute_tcu (s : State) (k : Nat) : (s.freeRoute k).tcu = s.tcu := rfl
@[simp] theorem freeRoute_vou (s : State) (k : Nat) : (s.freeRoute k).vou = s.vou := rfl
@[simp] theorem freeRoute_fdu (s : State) (k : Nat) : (s.freeRoute k).fdu = s.fdu := rfl
@[simp] theorem freeRoute_scu (s : State) (k : Nat) : (s.freeRoute k).scu = s.scu := rfl
@[simp] theorem freeRoute_pls (s : State) (k : Nat) : (s.freeRoute k).pls = s.pls := rfl
@[simp] theorem freeRoute_sfu (s : State) (k : Nat) : (s.freeRoute k).sfu = s.sfu := rfl
@[simp] theorem freeRoute_mga (s : State) (k : Nat) : (s.freeRoute k).mga = s.mga := rfl
@[simp] theorem freeRoute_due (s : State) (k : Nat) : (s.freeRoute k).due = s.due := rfl
@[simp] theorem freeRoute_pending (s : State) (k : Nat) : (s.freeRoute k).pending = s.pending := rfl

@[simp] theorem setRun_pins (s : State) (p : PressIx) (r : Option Run) : (s.setRun p r).pins = s.pins := rfl
@[simp] theorem setRun_clock (s : State) (p : PressIx) (r : Option Run) : (s.setRun p r).clock = s.clock := rfl
@[simp] theorem setRun_ltu (s : State) (p : PressIx) (r : Option Run) : (s.setRun p r).ltu = s.ltu := rfl
@[simp] theorem setRun_nd (s : State) (p : PressIx) (r : Option Run) : (s.setRun p r).nd = s.nd := rfl
@[simp] theorem setRun_tcu (s : State) (p : PressIx) (r : Option Run) : (s.setRun p r).tcu = s.tcu := rfl
@[simp] theorem setRun_vou (s : State) (p : PressIx) (r : Option Run) : (s.setRun p r).vou = s.vou := rfl
@[simp] theorem setRun_tmc (s : State) (p : PressIx) (r : Option Run) : (s.setRun p r).tmc = s.tmc := rfl
@[simp] theorem setRun_fdu (s : State) (p : PressIx) (r : Option Run) : (s.setRun p r).fdu = s.fdu := rfl
@[simp] theorem setRun_pls (s : State) (p : PressIx) (r : Option Run) : (s.setRun p r).pls = s.pls := rfl
@[simp] theorem setRun_sfu (s : State) (p : PressIx) (r : Option Run) : (s.setRun p r).sfu = s.sfu := rfl
@[simp] theorem setRun_mga (s : State) (p : PressIx) (r : Option Run) : (s.setRun p r).mga = s.mga := rfl
@[simp] theorem setRun_due (s : State) (p : PressIx) (r : Option Run) : (s.setRun p r).due = s.due := rfl
@[simp] theorem setRun_pending (s : State) (p : PressIx) (r : Option Run) : (s.setRun p r).pending = s.pending := rfl

@[simp] theorem updRun_pins (s : State) (p : PressIx) (f : Run → Run) : (s.updRun p f).pins = s.pins := rfl
@[simp] theorem updRun_clock (s : State) (p : PressIx) (f : Run → Run) : (s.updRun p f).clock = s.clock := rfl
@[simp] theorem updRun_ltu (s : State) (p : PressIx) (f : Run → Run) : (s.updRun p f).ltu = s.ltu := rfl
@[simp] theorem updRun_nd (s : State) (p : PressIx) (f : Run → Run) : (s.updRun p f).nd = s.nd := rfl
@[simp] theorem updRun_tcu (s : State) (p : PressIx) (f : Run → Run) : (s.updRun p f).tcu = s.tcu := rfl
@[simp] theorem updRun_vou (s : State) (p : PressIx) (f : Run → Run) : (s.updRun p f).vou = s.vou := rfl
@[simp] theorem updRun_tmc (s : State) (p : PressIx) (f : Run → Run) : (s.updRun p f).tmc = s.tmc := rfl
@[simp] theorem updRun_fdu (s : State) (p : PressIx) (f : Run → Run) : (s.updRun p f).fdu = s.fdu := rfl
@[simp] theorem updRun_pls (s : State) (p : PressIx) (f : Run → Run) : (s.updRun p f).pls = s.pls := rfl
@[simp] theorem updRun_sfu (s : State) (p : PressIx) (f : Run → Run) : (s.updRun p f).sfu = s.sfu := rfl
@[simp] theorem updRun_mga (s : State) (p : PressIx) (f : Run → Run) : (s.updRun p f).mga = s.mga := rfl
@[simp] theorem updRun_due (s : State) (p : PressIx) (f : Run → Run) : (s.updRun p f).due = s.due := rfl
@[simp] theorem updRun_pending (s : State) (p : PressIx) (f : Run → Run) : (s.updRun p f).pending = s.pending := rfl

@[simp] theorem updPress_pins (s : State) (p : PressIx) (f : PressRec → PressRec) : (s.updPress p f).pins = s.pins := rfl
@[simp] theorem updPress_clock (s : State) (p : PressIx) (f : PressRec → PressRec) : (s.updPress p f).clock = s.clock := rfl
@[simp] theorem updPress_ltu (s : State) (p : PressIx) (f : PressRec → PressRec) : (s.updPress p f).ltu = s.ltu := rfl
@[simp] theorem updPress_nd (s : State) (p : PressIx) (f : PressRec → PressRec) : (s.updPress p f).nd = s.nd := rfl
@[simp] theorem updPress_tcu (s : State) (p : PressIx) (f : PressRec → PressRec) : (s.updPress p f).tcu = s.tcu := rfl
@[simp] theorem updPress_vou (s : State) (p : PressIx) (f : PressRec → PressRec) : (s.updPress p f).vou = s.vou := rfl
@[simp] theorem updPress_tmc (s : State) (p : PressIx) (f : PressRec → PressRec) : (s.updPress p f).tmc = s.tmc := rfl
@[simp] theorem updPress_fdu (s : State) (p : PressIx) (f : PressRec → PressRec) : (s.updPress p f).fdu = s.fdu := rfl
@[simp] theorem updPress_pls (s : State) (p : PressIx) (f : PressRec → PressRec) : (s.updPress p f).pls = s.pls := rfl
@[simp] theorem updPress_sfu (s : State) (p : PressIx) (f : PressRec → PressRec) : (s.updPress p f).sfu = s.sfu := rfl
@[simp] theorem updPress_mga (s : State) (p : PressIx) (f : PressRec → PressRec) : (s.updPress p f).mga = s.mga := rfl
@[simp] theorem updPress_due (s : State) (p : PressIx) (f : PressRec → PressRec) : (s.updPress p f).due = s.due := rfl
@[simp] theorem updPress_pending (s : State) (p : PressIx) (f : PressRec → PressRec) : (s.updPress p f).pending = s.pending := rfl

@[simp] theorem setClosed_pins (s : State) (l : List ClosedRun) : (s.setClosed l).pins = s.pins := rfl
@[simp] theorem setClosed_clock (s : State) (l : List ClosedRun) : (s.setClosed l).clock = s.clock := rfl
@[simp] theorem setClosed_ltu (s : State) (l : List ClosedRun) : (s.setClosed l).ltu = s.ltu := rfl
@[simp] theorem setClosed_nd (s : State) (l : List ClosedRun) : (s.setClosed l).nd = s.nd := rfl
@[simp] theorem setClosed_tcu (s : State) (l : List ClosedRun) : (s.setClosed l).tcu = s.tcu := rfl
@[simp] theorem setClosed_vou (s : State) (l : List ClosedRun) : (s.setClosed l).vou = s.vou := rfl
@[simp] theorem setClosed_tmc (s : State) (l : List ClosedRun) : (s.setClosed l).tmc = s.tmc := rfl
@[simp] theorem setClosed_fdu (s : State) (l : List ClosedRun) : (s.setClosed l).fdu = s.fdu := rfl
@[simp] theorem setClosed_pls (s : State) (l : List ClosedRun) : (s.setClosed l).pls = s.pls := rfl
@[simp] theorem setClosed_sfu (s : State) (l : List ClosedRun) : (s.setClosed l).sfu = s.sfu := rfl
@[simp] theorem setClosed_mga (s : State) (l : List ClosedRun) : (s.setClosed l).mga = s.mga := rfl
@[simp] theorem setClosed_due (s : State) (l : List ClosedRun) : (s.setClosed l).due = s.due := rfl
@[simp] theorem setClosed_pending (s : State) (l : List ClosedRun) : (s.setClosed l).pending = s.pending := rfl

@[simp] theorem setNextPress_pins (s : State) (p : PressIx) (x : PressPart) : (s.setNextPress p x).pins = s.pins := rfl
@[simp] theorem setNextPress_clock (s : State) (p : PressIx) (x : PressPart) : (s.setNextPress p x).clock = s.clock := rfl
@[simp] theorem setNextPress_ltu (s : State) (p : PressIx) (x : PressPart) : (s.setNextPress p x).ltu = s.ltu := rfl
@[simp] theorem setNextPress_nd (s : State) (p : PressIx) (x : PressPart) : (s.setNextPress p x).nd = s.nd := rfl
@[simp] theorem setNextPress_tcu (s : State) (p : PressIx) (x : PressPart) : (s.setNextPress p x).tcu = s.tcu := rfl
@[simp] theorem setNextPress_vou (s : State) (p : PressIx) (x : PressPart) : (s.setNextPress p x).vou = s.vou := rfl
@[simp] theorem setNextPress_tmc (s : State) (p : PressIx) (x : PressPart) : (s.setNextPress p x).tmc = s.tmc := rfl
@[simp] theorem setNextPress_fdu (s : State) (p : PressIx) (x : PressPart) : (s.setNextPress p x).fdu = s.fdu := rfl
@[simp] theorem setNextPress_scu (s : State) (p : PressIx) (x : PressPart) : (s.setNextPress p x).scu = s.scu := rfl
@[simp] theorem setNextPress_sfu (s : State) (p : PressIx) (x : PressPart) : (s.setNextPress p x).sfu = s.sfu := rfl
@[simp] theorem setNextPress_mga (s : State) (p : PressIx) (x : PressPart) : (s.setNextPress p x).mga = s.mga := rfl
@[simp] theorem setNextPress_due (s : State) (p : PressIx) (x : PressPart) : (s.setNextPress p x).due = s.due := rfl
@[simp] theorem setNextPress_pending (s : State) (p : PressIx) (x : PressPart) : (s.setNextPress p x).pending = s.pending := rfl

@[simp] theorem setNextStand_pins (s : State) (st : StandIx) (x : StandPart) : (s.setNextStand st x).pins = s.pins := rfl
@[simp] theorem setNextStand_clock (s : State) (st : StandIx) (x : StandPart) : (s.setNextStand st x).clock = s.clock := rfl
@[simp] theorem setNextStand_ltu (s : State) (st : StandIx) (x : StandPart) : (s.setNextStand st x).ltu = s.ltu := rfl
@[simp] theorem setNextStand_nd (s : State) (st : StandIx) (x : StandPart) : (s.setNextStand st x).nd = s.nd := rfl
@[simp] theorem setNextStand_tcu (s : State) (st : StandIx) (x : StandPart) : (s.setNextStand st x).tcu = s.tcu := rfl
@[simp] theorem setNextStand_vou (s : State) (st : StandIx) (x : StandPart) : (s.setNextStand st x).vou = s.vou := rfl
@[simp] theorem setNextStand_tmc (s : State) (st : StandIx) (x : StandPart) : (s.setNextStand st x).tmc = s.tmc := rfl
@[simp] theorem setNextStand_fdu (s : State) (st : StandIx) (x : StandPart) : (s.setNextStand st x).fdu = s.fdu := rfl
@[simp] theorem setNextStand_scu (s : State) (st : StandIx) (x : StandPart) : (s.setNextStand st x).scu = s.scu := rfl
@[simp] theorem setNextStand_sfu (s : State) (st : StandIx) (x : StandPart) : (s.setNextStand st x).sfu = s.sfu := rfl
@[simp] theorem setNextStand_mga (s : State) (st : StandIx) (x : StandPart) : (s.setNextStand st x).mga = s.mga := rfl
@[simp] theorem setNextStand_due (s : State) (st : StandIx) (x : StandPart) : (s.setNextStand st x).due = s.due := rfl
@[simp] theorem setNextStand_pending (s : State) (st : StandIx) (x : StandPart) : (s.setNextStand st x).pending = s.pending := rfl

@[simp] theorem goodRoll_pins (s : State) (k : Nat) : (s.goodRoll k).pins = s.pins := rfl
@[simp] theorem goodRoll_clock (s : State) (k : Nat) : (s.goodRoll k).clock = s.clock := rfl
@[simp] theorem goodRoll_ltu (s : State) (k : Nat) : (s.goodRoll k).ltu = s.ltu := rfl
@[simp] theorem goodRoll_nd (s : State) (k : Nat) : (s.goodRoll k).nd = s.nd := rfl
@[simp] theorem goodRoll_tcu (s : State) (k : Nat) : (s.goodRoll k).tcu = s.tcu := rfl
@[simp] theorem goodRoll_vou (s : State) (k : Nat) : (s.goodRoll k).vou = s.vou := rfl
@[simp] theorem goodRoll_fdu (s : State) (k : Nat) : (s.goodRoll k).fdu = s.fdu := rfl
@[simp] theorem goodRoll_scu (s : State) (k : Nat) : (s.goodRoll k).scu = s.scu := rfl
@[simp] theorem goodRoll_pls (s : State) (k : Nat) : (s.goodRoll k).pls = s.pls := rfl
@[simp] theorem goodRoll_sfu (s : State) (k : Nat) : (s.goodRoll k).sfu = s.sfu := rfl
@[simp] theorem goodRoll_mga (s : State) (k : Nat) : (s.goodRoll k).mga = s.mga := rfl
@[simp] theorem goodRoll_due (s : State) (k : Nat) : (s.goodRoll k).due = s.due := rfl
@[simp] theorem goodRoll_pending (s : State) (k : Nat) : (s.goodRoll k).pending = s.pending := rfl

@[simp] theorem setPrediction_pins (s : State) (n : Nat) : (s.setPrediction n).pins = s.pins := rfl
@[simp] theorem setPrediction_clock (s : State) (n : Nat) : (s.setPrediction n).clock = s.clock := rfl
@[simp] theorem setPrediction_ltu (s : State) (n : Nat) : (s.setPrediction n).ltu = s.ltu := rfl
@[simp] theorem setPrediction_nd (s : State) (n : Nat) : (s.setPrediction n).nd = s.nd := rfl
@[simp] theorem setPrediction_tcu (s : State) (n : Nat) : (s.setPrediction n).tcu = s.tcu := rfl
@[simp] theorem setPrediction_vou (s : State) (n : Nat) : (s.setPrediction n).vou = s.vou := rfl
@[simp] theorem setPrediction_tmc (s : State) (n : Nat) : (s.setPrediction n).tmc = s.tmc := rfl
@[simp] theorem setPrediction_scu (s : State) (n : Nat) : (s.setPrediction n).scu = s.scu := rfl
@[simp] theorem setPrediction_pls (s : State) (n : Nat) : (s.setPrediction n).pls = s.pls := rfl
@[simp] theorem setPrediction_sfu (s : State) (n : Nat) : (s.setPrediction n).sfu = s.sfu := rfl
@[simp] theorem setPrediction_mga (s : State) (n : Nat) : (s.setPrediction n).mga = s.mga := rfl
@[simp] theorem setPrediction_due (s : State) (n : Nat) : (s.setPrediction n).due = s.due := rfl
@[simp] theorem setPrediction_pending (s : State) (n : Nat) : (s.setPrediction n).pending = s.pending := rfl

@[simp] theorem setStarved_pins (s : State) (m : BitVec 32) : (s.setStarved m).pins = s.pins := rfl
@[simp] theorem setStarved_clock (s : State) (m : BitVec 32) : (s.setStarved m).clock = s.clock := rfl
@[simp] theorem setStarved_ltu (s : State) (m : BitVec 32) : (s.setStarved m).ltu = s.ltu := rfl
@[simp] theorem setStarved_nd (s : State) (m : BitVec 32) : (s.setStarved m).nd = s.nd := rfl
@[simp] theorem setStarved_tcu (s : State) (m : BitVec 32) : (s.setStarved m).tcu = s.tcu := rfl
@[simp] theorem setStarved_vou (s : State) (m : BitVec 32) : (s.setStarved m).vou = s.vou := rfl
@[simp] theorem setStarved_tmc (s : State) (m : BitVec 32) : (s.setStarved m).tmc = s.tmc := rfl
@[simp] theorem setStarved_scu (s : State) (m : BitVec 32) : (s.setStarved m).scu = s.scu := rfl
@[simp] theorem setStarved_pls (s : State) (m : BitVec 32) : (s.setStarved m).pls = s.pls := rfl
@[simp] theorem setStarved_sfu (s : State) (m : BitVec 32) : (s.setStarved m).sfu = s.sfu := rfl
@[simp] theorem setStarved_mga (s : State) (m : BitVec 32) : (s.setStarved m).mga = s.mga := rfl
@[simp] theorem setStarved_due (s : State) (m : BitVec 32) : (s.setStarved m).due = s.due := rfl
@[simp] theorem setStarved_pending (s : State) (m : BitVec 32) : (s.setStarved m).pending = s.pending := rfl

@[simp] theorem recordStarved_pins (s : State) (st : StandIx) : (s.recordStarved st).pins = s.pins := rfl
@[simp] theorem recordStarved_clock (s : State) (st : StandIx) : (s.recordStarved st).clock = s.clock := rfl
@[simp] theorem recordStarved_ltu (s : State) (st : StandIx) : (s.recordStarved st).ltu = s.ltu := rfl
@[simp] theorem recordStarved_nd (s : State) (st : StandIx) : (s.recordStarved st).nd = s.nd := rfl
@[simp] theorem recordStarved_tcu (s : State) (st : StandIx) : (s.recordStarved st).tcu = s.tcu := rfl
@[simp] theorem recordStarved_vou (s : State) (st : StandIx) : (s.recordStarved st).vou = s.vou := rfl
@[simp] theorem recordStarved_tmc (s : State) (st : StandIx) : (s.recordStarved st).tmc = s.tmc := rfl
@[simp] theorem recordStarved_scu (s : State) (st : StandIx) : (s.recordStarved st).scu = s.scu := rfl
@[simp] theorem recordStarved_pls (s : State) (st : StandIx) : (s.recordStarved st).pls = s.pls := rfl
@[simp] theorem recordStarved_sfu (s : State) (st : StandIx) : (s.recordStarved st).sfu = s.sfu := rfl
@[simp] theorem recordStarved_mga (s : State) (st : StandIx) : (s.recordStarved st).mga = s.mga := rfl
@[simp] theorem recordStarved_due (s : State) (st : StandIx) : (s.recordStarved st).due = s.due := rfl
@[simp] theorem recordStarved_pending (s : State) (st : StandIx) : (s.recordStarved st).pending = s.pending := rfl

@[simp] theorem setReady_pins (s : State) (p : PressIx) (b : Bool) : (s.setReady p b).pins = s.pins := rfl
@[simp] theorem setReady_clock (s : State) (p : PressIx) (b : Bool) : (s.setReady p b).clock = s.clock := rfl
@[simp] theorem setReady_ltu (s : State) (p : PressIx) (b : Bool) : (s.setReady p b).ltu = s.ltu := rfl
@[simp] theorem setReady_nd (s : State) (p : PressIx) (b : Bool) : (s.setReady p b).nd = s.nd := rfl
@[simp] theorem setReady_tcu (s : State) (p : PressIx) (b : Bool) : (s.setReady p b).tcu = s.tcu := rfl
@[simp] theorem setReady_vou (s : State) (p : PressIx) (b : Bool) : (s.setReady p b).vou = s.vou := rfl
@[simp] theorem setReady_tmc (s : State) (p : PressIx) (b : Bool) : (s.setReady p b).tmc = s.tmc := rfl
@[simp] theorem setReady_fdu (s : State) (p : PressIx) (b : Bool) : (s.setReady p b).fdu = s.fdu := rfl
@[simp] theorem setReady_scu (s : State) (p : PressIx) (b : Bool) : (s.setReady p b).scu = s.scu := rfl
@[simp] theorem setReady_sfu (s : State) (p : PressIx) (b : Bool) : (s.setReady p b).sfu = s.sfu := rfl
@[simp] theorem setReady_mga (s : State) (p : PressIx) (b : Bool) : (s.setReady p b).mga = s.mga := rfl
@[simp] theorem setReady_due (s : State) (p : PressIx) (b : Bool) : (s.setReady p b).due = s.due := rfl
@[simp] theorem setReady_pending (s : State) (p : PressIx) (b : Bool) : (s.setReady p b).pending = s.pending := rfl

@[simp] theorem setNextTag_pins (s : State) (n : Nat) : (s.setNextTag n).pins = s.pins := rfl
@[simp] theorem setNextTag_clock (s : State) (n : Nat) : (s.setNextTag n).clock = s.clock := rfl
@[simp] theorem setNextTag_ltu (s : State) (n : Nat) : (s.setNextTag n).ltu = s.ltu := rfl
@[simp] theorem setNextTag_nd (s : State) (n : Nat) : (s.setNextTag n).nd = s.nd := rfl
@[simp] theorem setNextTag_tcu (s : State) (n : Nat) : (s.setNextTag n).tcu = s.tcu := rfl
@[simp] theorem setNextTag_tmc (s : State) (n : Nat) : (s.setNextTag n).tmc = s.tmc := rfl
@[simp] theorem setNextTag_fdu (s : State) (n : Nat) : (s.setNextTag n).fdu = s.fdu := rfl
@[simp] theorem setNextTag_scu (s : State) (n : Nat) : (s.setNextTag n).scu = s.scu := rfl
@[simp] theorem setNextTag_pls (s : State) (n : Nat) : (s.setNextTag n).pls = s.pls := rfl
@[simp] theorem setNextTag_sfu (s : State) (n : Nat) : (s.setNextTag n).sfu = s.sfu := rfl
@[simp] theorem setNextTag_mga (s : State) (n : Nat) : (s.setNextTag n).mga = s.mga := rfl
@[simp] theorem setNextTag_due (s : State) (n : Nat) : (s.setNextTag n).due = s.due := rfl
@[simp] theorem setNextTag_pending (s : State) (n : Nat) : (s.setNextTag n).pending = s.pending := rfl

@[simp] theorem setClock_pins (s : State) (c : Word) : (s.setClock c).pins = s.pins := rfl
@[simp] theorem setClock_ltu (s : State) (c : Word) : (s.setClock c).ltu = s.ltu := rfl
@[simp] theorem setClock_nd (s : State) (c : Word) : (s.setClock c).nd = s.nd := rfl
@[simp] theorem setClock_tcu (s : State) (c : Word) : (s.setClock c).tcu = s.tcu := rfl
@[simp] theorem setClock_vou (s : State) (c : Word) : (s.setClock c).vou = s.vou := rfl
@[simp] theorem setClock_tmc (s : State) (c : Word) : (s.setClock c).tmc = s.tmc := rfl
@[simp] theorem setClock_fdu (s : State) (c : Word) : (s.setClock c).fdu = s.fdu := rfl
@[simp] theorem setClock_scu (s : State) (c : Word) : (s.setClock c).scu = s.scu := rfl
@[simp] theorem setClock_pls (s : State) (c : Word) : (s.setClock c).pls = s.pls := rfl
@[simp] theorem setClock_sfu (s : State) (c : Word) : (s.setClock c).sfu = s.sfu := rfl
@[simp] theorem setClock_mga (s : State) (c : Word) : (s.setClock c).mga = s.mga := rfl
@[simp] theorem setClock_due (s : State) (c : Word) : (s.setClock c).due = s.due := rfl
@[simp] theorem setClock_pending (s : State) (c : Word) : (s.setClock c).pending = s.pending := rfl

@[simp] theorem setDue_pins (s : State) (l : List Due) : (s.setDue l).pins = s.pins := rfl
@[simp] theorem setDue_clock (s : State) (l : List Due) : (s.setDue l).clock = s.clock := rfl
@[simp] theorem setDue_ltu (s : State) (l : List Due) : (s.setDue l).ltu = s.ltu := rfl
@[simp] theorem setDue_nd (s : State) (l : List Due) : (s.setDue l).nd = s.nd := rfl
@[simp] theorem setDue_tcu (s : State) (l : List Due) : (s.setDue l).tcu = s.tcu := rfl
@[simp] theorem setDue_vou (s : State) (l : List Due) : (s.setDue l).vou = s.vou := rfl
@[simp] theorem setDue_tmc (s : State) (l : List Due) : (s.setDue l).tmc = s.tmc := rfl
@[simp] theorem setDue_fdu (s : State) (l : List Due) : (s.setDue l).fdu = s.fdu := rfl
@[simp] theorem setDue_scu (s : State) (l : List Due) : (s.setDue l).scu = s.scu := rfl
@[simp] theorem setDue_pls (s : State) (l : List Due) : (s.setDue l).pls = s.pls := rfl
@[simp] theorem setDue_sfu (s : State) (l : List Due) : (s.setDue l).sfu = s.sfu := rfl
@[simp] theorem setDue_mga (s : State) (l : List Due) : (s.setDue l).mga = s.mga := rfl
@[simp] theorem setDue_pending (s : State) (l : List Due) : (s.setDue l).pending = s.pending := rfl

@[simp] theorem addScrapped_pins (s : State) (n : Nat) : (s.addScrapped n).pins = s.pins := rfl
@[simp] theorem addScrapped_clock (s : State) (n : Nat) : (s.addScrapped n).clock = s.clock := rfl
@[simp] theorem addScrapped_ltu (s : State) (n : Nat) : (s.addScrapped n).ltu = s.ltu := rfl
@[simp] theorem addScrapped_nd (s : State) (n : Nat) : (s.addScrapped n).nd = s.nd := rfl
@[simp] theorem addScrapped_tcu (s : State) (n : Nat) : (s.addScrapped n).tcu = s.tcu := rfl
@[simp] theorem addScrapped_vou (s : State) (n : Nat) : (s.addScrapped n).vou = s.vou := rfl
@[simp] theorem addScrapped_tmc (s : State) (n : Nat) : (s.addScrapped n).tmc = s.tmc := rfl
@[simp] theorem addScrapped_fdu (s : State) (n : Nat) : (s.addScrapped n).fdu = s.fdu := rfl
@[simp] theorem addScrapped_pls (s : State) (n : Nat) : (s.addScrapped n).pls = s.pls := rfl
@[simp] theorem addScrapped_sfu (s : State) (n : Nat) : (s.addScrapped n).sfu = s.sfu := rfl
@[simp] theorem addScrapped_mga (s : State) (n : Nat) : (s.addScrapped n).mga = s.mga := rfl
@[simp] theorem addScrapped_due (s : State) (n : Nat) : (s.addScrapped n).due = s.due := rfl
@[simp] theorem addScrapped_pending (s : State) (n : Nat) : (s.addScrapped n).pending = s.pending := rfl

@[simp] theorem setMode_pins (s : State) (m : Mode) : (s.setMode m).pins = s.pins := rfl
@[simp] theorem setMode_clock (s : State) (m : Mode) : (s.setMode m).clock = s.clock := rfl
@[simp] theorem setMode_ltu (s : State) (m : Mode) : (s.setMode m).ltu = s.ltu := rfl
@[simp] theorem setMode_nd (s : State) (m : Mode) : (s.setMode m).nd = s.nd := rfl
@[simp] theorem setMode_tcu (s : State) (m : Mode) : (s.setMode m).tcu = s.tcu := rfl
@[simp] theorem setMode_vou (s : State) (m : Mode) : (s.setMode m).vou = s.vou := rfl
@[simp] theorem setMode_tmc (s : State) (m : Mode) : (s.setMode m).tmc = s.tmc := rfl
@[simp] theorem setMode_fdu (s : State) (m : Mode) : (s.setMode m).fdu = s.fdu := rfl
@[simp] theorem setMode_scu (s : State) (m : Mode) : (s.setMode m).scu = s.scu := rfl
@[simp] theorem setMode_pls (s : State) (m : Mode) : (s.setMode m).pls = s.pls := rfl
@[simp] theorem setMode_mga (s : State) (m : Mode) : (s.setMode m).mga = s.mga := rfl
@[simp] theorem setMode_due (s : State) (m : Mode) : (s.setMode m).due = s.due := rfl
@[simp] theorem setMode_pending (s : State) (m : Mode) : (s.setMode m).pending = s.pending := rfl

@[simp] theorem setLinkCount_pins (s : State) (n : Nat) : (s.setLinkCount n).pins = s.pins := rfl
@[simp] theorem setLinkCount_clock (s : State) (n : Nat) : (s.setLinkCount n).clock = s.clock := rfl
@[simp] theorem setLinkCount_ltu (s : State) (n : Nat) : (s.setLinkCount n).ltu = s.ltu := rfl
@[simp] theorem setLinkCount_nd (s : State) (n : Nat) : (s.setLinkCount n).nd = s.nd := rfl
@[simp] theorem setLinkCount_tcu (s : State) (n : Nat) : (s.setLinkCount n).tcu = s.tcu := rfl
@[simp] theorem setLinkCount_vou (s : State) (n : Nat) : (s.setLinkCount n).vou = s.vou := rfl
@[simp] theorem setLinkCount_tmc (s : State) (n : Nat) : (s.setLinkCount n).tmc = s.tmc := rfl
@[simp] theorem setLinkCount_fdu (s : State) (n : Nat) : (s.setLinkCount n).fdu = s.fdu := rfl
@[simp] theorem setLinkCount_scu (s : State) (n : Nat) : (s.setLinkCount n).scu = s.scu := rfl
@[simp] theorem setLinkCount_pls (s : State) (n : Nat) : (s.setLinkCount n).pls = s.pls := rfl
@[simp] theorem setLinkCount_mga (s : State) (n : Nat) : (s.setLinkCount n).mga = s.mga := rfl
@[simp] theorem setLinkCount_due (s : State) (n : Nat) : (s.setLinkCount n).due = s.due := rfl
@[simp] theorem setLinkCount_pending (s : State) (n : Nat) : (s.setLinkCount n).pending = s.pending := rfl

@[simp] theorem updFlag_pins (s : State) (f : Flag) (g : FlagRec → FlagRec) : (s.updFlag f g).pins = s.pins := rfl
@[simp] theorem updFlag_clock (s : State) (f : Flag) (g : FlagRec → FlagRec) : (s.updFlag f g).clock = s.clock := rfl
@[simp] theorem updFlag_ltu (s : State) (f : Flag) (g : FlagRec → FlagRec) : (s.updFlag f g).ltu = s.ltu := rfl
@[simp] theorem updFlag_nd (s : State) (f : Flag) (g : FlagRec → FlagRec) : (s.updFlag f g).nd = s.nd := rfl
@[simp] theorem updFlag_tcu (s : State) (f : Flag) (g : FlagRec → FlagRec) : (s.updFlag f g).tcu = s.tcu := rfl
@[simp] theorem updFlag_vou (s : State) (f : Flag) (g : FlagRec → FlagRec) : (s.updFlag f g).vou = s.vou := rfl
@[simp] theorem updFlag_tmc (s : State) (f : Flag) (g : FlagRec → FlagRec) : (s.updFlag f g).tmc = s.tmc := rfl
@[simp] theorem updFlag_fdu (s : State) (f : Flag) (g : FlagRec → FlagRec) : (s.updFlag f g).fdu = s.fdu := rfl
@[simp] theorem updFlag_scu (s : State) (f : Flag) (g : FlagRec → FlagRec) : (s.updFlag f g).scu = s.scu := rfl
@[simp] theorem updFlag_pls (s : State) (f : Flag) (g : FlagRec → FlagRec) : (s.updFlag f g).pls = s.pls := rfl
@[simp] theorem updFlag_mga (s : State) (f : Flag) (g : FlagRec → FlagRec) : (s.updFlag f g).mga = s.mga := rfl
@[simp] theorem updFlag_due (s : State) (f : Flag) (g : FlagRec → FlagRec) : (s.updFlag f g).due = s.due := rfl
@[simp] theorem updFlag_pending (s : State) (f : Flag) (g : FlagRec → FlagRec) : (s.updFlag f g).pending = s.pending := rfl

@[simp] theorem driveAlarm_clock (s : State) : (s.driveAlarm).clock = s.clock := rfl
@[simp] theorem driveAlarm_ltu (s : State) : (s.driveAlarm).ltu = s.ltu := rfl
@[simp] theorem driveAlarm_nd (s : State) : (s.driveAlarm).nd = s.nd := rfl
@[simp] theorem driveAlarm_tcu (s : State) : (s.driveAlarm).tcu = s.tcu := rfl
@[simp] theorem driveAlarm_vou (s : State) : (s.driveAlarm).vou = s.vou := rfl
@[simp] theorem driveAlarm_tmc (s : State) : (s.driveAlarm).tmc = s.tmc := rfl
@[simp] theorem driveAlarm_fdu (s : State) : (s.driveAlarm).fdu = s.fdu := rfl
@[simp] theorem driveAlarm_scu (s : State) : (s.driveAlarm).scu = s.scu := rfl
@[simp] theorem driveAlarm_pls (s : State) : (s.driveAlarm).pls = s.pls := rfl
@[simp] theorem driveAlarm_sfu (s : State) : (s.driveAlarm).sfu = s.sfu := rfl
@[simp] theorem driveAlarm_mga (s : State) : (s.driveAlarm).mga = s.mga := rfl
@[simp] theorem driveAlarm_due (s : State) : (s.driveAlarm).due = s.due := rfl
@[simp] theorem driveAlarm_pending (s : State) : (s.driveAlarm).pending = s.pending := rfl

@[simp] theorem pushUpper_pins (s : State) (t : Telegram) : (s.pushUpper t).pins = s.pins := rfl
@[simp] theorem pushUpper_clock (s : State) (t : Telegram) : (s.pushUpper t).clock = s.clock := rfl
@[simp] theorem pushUpper_nd (s : State) (t : Telegram) : (s.pushUpper t).nd = s.nd := rfl
@[simp] theorem pushUpper_tcu (s : State) (t : Telegram) : (s.pushUpper t).tcu = s.tcu := rfl
@[simp] theorem pushUpper_vou (s : State) (t : Telegram) : (s.pushUpper t).vou = s.vou := rfl
@[simp] theorem pushUpper_tmc (s : State) (t : Telegram) : (s.pushUpper t).tmc = s.tmc := rfl
@[simp] theorem pushUpper_fdu (s : State) (t : Telegram) : (s.pushUpper t).fdu = s.fdu := rfl
@[simp] theorem pushUpper_scu (s : State) (t : Telegram) : (s.pushUpper t).scu = s.scu := rfl
@[simp] theorem pushUpper_pls (s : State) (t : Telegram) : (s.pushUpper t).pls = s.pls := rfl
@[simp] theorem pushUpper_sfu (s : State) (t : Telegram) : (s.pushUpper t).sfu = s.sfu := rfl
@[simp] theorem pushUpper_mga (s : State) (t : Telegram) : (s.pushUpper t).mga = s.mga := rfl
@[simp] theorem pushUpper_due (s : State) (t : Telegram) : (s.pushUpper t).due = s.due := rfl
@[simp] theorem pushUpper_pending (s : State) (t : Telegram) : (s.pushUpper t).pending = s.pending := rfl

@[simp] theorem popped_pins (s : State) (rest : List Telegram) : (s.popped rest).pins = s.pins := rfl
@[simp] theorem popped_clock (s : State) (rest : List Telegram) : (s.popped rest).clock = s.clock := rfl
@[simp] theorem popped_ltu (s : State) (rest : List Telegram) : (s.popped rest).ltu = s.ltu := rfl
@[simp] theorem popped_nd (s : State) (rest : List Telegram) : (s.popped rest).nd = s.nd := rfl
@[simp] theorem popped_tcu (s : State) (rest : List Telegram) : (s.popped rest).tcu = s.tcu := rfl
@[simp] theorem popped_vou (s : State) (rest : List Telegram) : (s.popped rest).vou = s.vou := rfl
@[simp] theorem popped_tmc (s : State) (rest : List Telegram) : (s.popped rest).tmc = s.tmc := rfl
@[simp] theorem popped_fdu (s : State) (rest : List Telegram) : (s.popped rest).fdu = s.fdu := rfl
@[simp] theorem popped_scu (s : State) (rest : List Telegram) : (s.popped rest).scu = s.scu := rfl
@[simp] theorem popped_pls (s : State) (rest : List Telegram) : (s.popped rest).pls = s.pls := rfl
@[simp] theorem popped_sfu (s : State) (rest : List Telegram) : (s.popped rest).sfu = s.sfu := rfl
@[simp] theorem popped_due (s : State) (rest : List Telegram) : (s.popped rest).due = s.due := rfl
@[simp] theorem popped_pending (s : State) (rest : List Telegram) : (s.popped rest).pending = s.pending := rfl

/-! ### A record read after it has been written -/

@[simp] theorem vehicle_setVehicle (s : State) (v w : VehicleIx) (x : Vehicle) :
    (s.setVehicle v x).vehicle w = if v = w then x else s.vehicle w := by
  simp [vehicle, setVehicle, Vector.getElem_set, Fin.ext_iff]

@[simp] theorem vehicle_updVehicle (s : State) (v w : VehicleIx) (f : Vehicle → Vehicle) :
    (s.updVehicle v f).vehicle w = if v = w then f (s.vehicle v) else s.vehicle w := by
  simp [updVehicle]

@[simp] theorem stand_setStand (s : State) (st w : StandIx) (x : Stand) :
    (s.setStand st x).stand w = if st = w then x else s.stand w := by
  simp [stand, setStand, Vector.getElem_set, Fin.ext_iff]

@[simp] theorem stand_updStand (s : State) (st w : StandIx) (f : Stand → Stand) :
    (s.updStand st f).stand w = if st = w then f (s.stand st) else s.stand w := by
  simp [updStand]

@[simp] theorem speed_setSpeed (s : State) (p q : PressIx) (x : Speed) :
    (s.setSpeed p x).speed q = if p = q then x else s.speed q := by
  simp [speed, setSpeed, Vector.getElem_set, Fin.ext_iff]

@[simp] theorem speed_updSpeed (s : State) (p q : PressIx) (f : Speed → Speed) :
    (s.updSpeed p f).speed q = if p = q then f (s.speed p) else s.speed q := by
  simp [updSpeed]

@[simp] theorem speedSettings_updSettings (s : State) (p q : PressIx) (f : SpeedSettings → SpeedSettings) :
    (s.updSettings p f).speedSettings q = if p = q then f (s.speedSettings p) else s.speedSettings q := by
  simp [speedSettings, updSettings, Vector.getElem_set, Fin.ext_iff]

@[simp] theorem zone_updZone (s : State) (z y : ZoneIx) (f : Zone → Zone) :
    (s.updZone z f).zone y = if z = y then f (s.zone z) else s.zone y := by
  simp [zone, updZone, Vector.getElem_set, Fin.ext_iff]

@[simp] theorem run_setRun (s : State) (p q : PressIx) (r : Option Run) :
    (s.setRun p r).run? q = if p = q then r else s.run? q := by
  simp [run?, setRun, Vector.getElem_set, Fin.ext_iff]

@[simp] theorem press_setRun (s : State) (p q : PressIx) (r : Option Run) : (s.setRun p r).press q = s.press q := rfl

@[simp] theorem press_updPress (s : State) (p q : PressIx) (f : PressRec → PressRec) :
    (s.updPress p f).press q = if p = q then f (s.press p) else s.press q := by
  simp [press, updPress, Vector.getElem_set, Fin.ext_iff]

@[simp] theorem run_updPress (s : State) (p q : PressIx) (f : PressRec → PressRec) :
    (s.updPress p f).run? q = s.run? q := rfl

theorem Flag.ix_injective : ∀ f g : Flag, f.ix = g.ix → f = g := by
  intro f g; cases f <;> cases g <;> decide

@[simp] theorem flag_updFlag (s : State) (f g : Flag) (h : FlagRec → FlagRec) :
    (s.updFlag f h).flag g = if f = g then h (s.flag f) else s.flag g := by
  by_cases e : f = g
  · subst e; simp [flag, updFlag]
  · have : f.ix.val ≠ g.ix.val := fun k => e (Flag.ix_injective f g (Fin.ext k))
    simp [flag, updFlag, this, e]

@[simp] theorem flag_driveAlarm (s : State) (f : Flag) : s.driveAlarm.flag f = s.flag f := rfl

end State

end Sys2Proof.Machine
end

