-- ==== Sys2Proof/Laws/Tables.lean ====
section
/-! SUPPORT. Tables keep their canonical form under every operation, and a record reads as it was written. -/

namespace Sys2Proof.Machine

namespace Table

variable {α : Type}

theorem rising_iff (l : List (Nat × α)) : rising l = true ↔ (l.map Prod.fst).Pairwise (· < ·) := by
  simp [rising]

theorem mem_erase {k : Nat} {e : Nat × α} : ∀ {l : List (Nat × α)}, e ∈ erase k l → e ∈ l
  | (j, a) :: r, h => by
    unfold erase at h
    split at h
    · exact List.mem_cons_of_mem _ h
    · rcases List.mem_cons.1 h with rfl | h
      · exact List.mem_cons_self
      · exact List.mem_cons_of_mem _ (mem_erase h)

theorem mem_insert {k : Nat} {a : α} {e : Nat × α} : ∀ {l : List (Nat × α)}, e ∈ insert k a l → e = (k, a) ∨ e ∈ l
  | [], h => by simpa [insert] using h
  | (j, b) :: r, h => by
    unfold insert at h
    split at h
    · simpa using h
    · split at h
      · rcases List.mem_cons.1 h with rfl | h
        · exact .inl rfl
        · exact .inr (List.mem_cons_of_mem _ h)
      · rcases List.mem_cons.1 h with rfl | h
        · exact .inr List.mem_cons_self
        · rcases mem_insert h with h | h
          · exact .inl h
          · exact .inr (List.mem_cons_of_mem _ h)

theorem rising_cons {k : Nat} {a : α} {l : List (Nat × α)} :
    rising ((k, a) :: l) = true ↔ (∀ e ∈ l, k < e.1) ∧ rising l = true := by
  simp [rising_iff, List.pairwise_cons]

theorem rising_erase (k : Nat) : ∀ {l : List (Nat × α)}, rising l = true → rising (erase k l) = true
  | [], h => h
  | (j, a) :: r, h => by
    obtain ⟨h1, h2⟩ := rising_cons.1 h
    unfold erase
    split
    · exact h2
    · exact rising_cons.2 ⟨fun e he => h1 e (mem_erase he), rising_erase k h2⟩

theorem rising_insert (k : Nat) (a : α) : ∀ {l : List (Nat × α)}, rising l = true → rising (insert k a l) = true
  | [], _ => by simp [insert, rising_iff]
  | (j, b) :: r, h => by
    obtain ⟨h1, h2⟩ := rising_cons.1 h
    unfold insert
    split
    · rename_i hk
      refine rising_cons.2 ⟨fun e he => ?_, h⟩
      rcases List.mem_cons.1 he with rfl | he
      · exact hk
      · exact lt_trans hk (h1 e he)
    · split
      · rename_i e; subst e; exact rising_cons.2 ⟨h1, h2⟩
      · rename_i h3 h4
        refine rising_cons.2 ⟨fun e he => ?_, rising_insert k a h2⟩
        rcases mem_insert he with rfl | he
        · show j < k; omega
        · exact h1 e he

theorem wf_iff [DecidableEq α] {d : α} {l : List (Nat × α)} :
    wf d l = true ↔ rising l = true ∧ ∀ e ∈ l, e.2 ≠ d := by
  simp [wf]

theorem wf_put [DecidableEq α] {d : α} {l : List (Nat × α)} (k : Nat) (a : α) (h : wf d l = true) :
    wf d (put d k a l) = true := by
  obtain ⟨h1, h2⟩ := wf_iff.1 h
  unfold put
  split
  · exact wf_iff.2 ⟨rising_erase k h1, fun e he => h2 e (mem_erase he)⟩
  · rename_i hne
    refine wf_iff.2 ⟨rising_insert k a h1, fun e he => ?_⟩
    rcases mem_insert he with rfl | he
    · exact hne
    · exact h2 e he

theorem mem_mapKeep [DecidableEq α] {d : α} {f : α → α} {e : Nat × α} :
    ∀ {l : List (Nat × α)}, e ∈ mapKeep d f l → e.2 ≠ d ∧ ∃ b, (e.1, b) ∈ l
  | (j, a) :: r, h => by
    unfold mapKeep at h
    split at h
    · obtain ⟨h1, b, h2⟩ := mem_mapKeep h
      exact ⟨h1, b, List.mem_cons_of_mem _ h2⟩
    · rcases List.mem_cons.1 h with rfl | h
      · exact ⟨by assumption, a, List.mem_cons_self⟩
      · obtain ⟨h1, b, h2⟩ := mem_mapKeep h
        exact ⟨h1, b, List.mem_cons_of_mem _ h2⟩

theorem wf_mapKeep [DecidableEq α] {d : α} (f : α → α) :
    ∀ {l : List (Nat × α)}, rising l = true → wf d (mapKeep d f l) = true
  | [], _ => by simp [mapKeep, wf_iff, rising_iff]
  | (j, a) :: r, h => by
    obtain ⟨h1, h2⟩ := rising_cons.1 h
    have ih := wf_iff.1 (wf_mapKeep (d := d) f h2)
    unfold mapKeep
    split
    · exact wf_iff.2 ih
    · refine wf_iff.2 ⟨rising_cons.2 ⟨fun e he => ?_, ih.1⟩, fun e he => ?_⟩
      · obtain ⟨_, b, hb⟩ := mem_mapKeep he
        exact h1 (e.1, b) hb
      · rcases List.mem_cons.1 he with rfl | he
        · assumption
        · exact ih.2 e he

theorem rising_map (f : Nat × α → α) {l : List (Nat × α)} (h : rising l = true) :
    rising (l.map fun e => (e.1, f e)) = true := by
  rw [rising_iff] at h ⊢
  simpa [List.map_map, Function.comp_def] using h

/-! ### Reads after writes -/

theorem find_insert (k j : Nat) (a : α) : ∀ {l : List (Nat × α)}, rising l = true →
    find? j (insert k a l) = if j = k then some a else find? j l
  | [], _ => by
    unfold insert find?
    split
    · rename_i h; simp [h]
    · rename_i h; simp [find?, Ne.symm h]
  | (i, b) :: r, h => by
    obtain ⟨h1, h2⟩ := rising_cons.1 h
    unfold insert
    split
    · by_cases e : j = k
      · subst e; simp [find?]
      · simp [find?, e, Ne.symm e]
    · split
      · rename_i e; subst e
        by_cases e : j = k
        · subst e; simp [find?]
        · simp [find?, e, Ne.symm e]
      · rename_i h3 h4
        have ih := find_insert k j a h2
        by_cases e : i = j
        · subst e
          simp [find?, Ne.symm h4]
        · simp [find?, e, ih]

theorem find_of_lt {k : Nat} : ∀ {l : List (Nat × α)}, (∀ e ∈ l, k < e.1) → find? k l = none
  | [], _ => rfl
  | (j, a) :: r, h => by
    have : j ≠ k := by have := h (j, a) List.mem_cons_self; simp at this; omega
    simp [find?, this, find_of_lt fun e he => h e (List.mem_cons_of_mem _ he)]

theorem find_erase (k j : Nat) : ∀ {l : List (Nat × α)}, rising l = true →
    find? j (erase k l) = if j = k then none else find? j l
  | [], _ => by simp [erase, find?]
  | (i, b) :: r, h => by
    obtain ⟨h1, h2⟩ := rising_cons.1 h
    unfold erase
    split
    · rename_i e; subst e
      by_cases e : j = i
      · subst e; simp [find_of_lt h1]
      · simp [find?, e, Ne.symm e]
    · rename_i hne
      have ih := find_erase k j h2
      by_cases e : i = j
      · subst e; simp [find?, hne]
      · simp [find?, e, ih]

theorem get_put [DecidableEq α] {d : α} (k j : Nat) (a : α) {l : List (Nat × α)} (h : rising l = true) :
    get d j (put d k a l) = if j = k then a else get d j l := by
  unfold get put
  split
  · rename_i e; subst e
    rw [find_erase k j h]
    by_cases e : j = k <;> simp [e]
  · rw [find_insert k j a h]
    by_cases e : j = k <;> simp [e]

/-- Two tables in canonical form that read alike are the same list. -/
theorem ext_of_find : ∀ {l m : List (Nat × α)}, rising l = true → rising m = true → (∀ k, find? k l = find? k m) → l = m
  | [], [], _, _, _ => rfl
  | [], (j, a) :: r, _, _, h => by simpa [find?] using h j
  | (i, b) :: q, [], _, _, h => by simpa [find?] using h i
  | (i, b) :: q, (j, a) :: r, hl, hm, h => by
    obtain ⟨l1, l2⟩ := rising_cons.1 hl
    obtain ⟨m1, m2⟩ := rising_cons.1 hm
    rcases lt_trichotomy i j with e | e | e
    · have := h i
      rw [find_of_lt (l := (j, a) :: r)] at this
      · simp [find?] at this
      · intro x hx
        rcases List.mem_cons.1 hx with rfl | hx
        · exact e
        · exact lt_trans e (m1 x hx)
    · subst e
      have h0 := h i
      simp only [find?, if_true, Option.some.injEq] at h0
      subst h0
      have := ext_of_find l2 m2 fun k => by
        by_cases e : i = k
        · subst e; rw [find_of_lt l1, find_of_lt m1]
        · simpa [find?, e] using h k
      rw [this]
    · have := h j
      rw [find_of_lt (l := (i, b) :: q)] at this
      · simp [find?] at this
      · intro x hx
        rcases List.mem_cons.1 hx with rfl | hx
        · exact e
        · exact lt_trans e (l1 x hx)

end Table

end Sys2Proof.Machine
end

