-- ==== Sys2Proof/Laws/Moves.lean ====
section
/-! SUPPORT. What an operation can change: `Moves m a b` says that b differs from a in the parts of m alone, and that the
invariants of Safety.lean which hold in a hold in b. The elementary updates stand here; Laws/Steps.lean goes on to the
operations of every block. -/

namespace Sys2Proof.Machine

/-- The parts of the state that an operation can leave or change. `flags` is the flag table with the pulse and the ALARM pin,
`straps` the other pins, `calls` the call list with its search, `fdu` and `vou` what is left of those units. -/
inductive Part where
  | clock | straps | flags | ltu | nd | tcu | vehicles | vou | rolls | places | routes | sizes | stands | speeds | calls
  | fdu | scu | pls | mode | sfu | mga | due | pending
  deriving DecidableEq

/-- The part reads the same in two states. -/
def Part.same (a b : State) : Part → Prop
  | .clock => b.clock = a.clock
  | .straps => (b.pins.addr, b.pins.msizeHigh, b.pins.rstLow) = (a.pins.addr, a.pins.msizeHigh, a.pins.rstLow)
  | .flags => (b.sfu.flags, b.sfu.pulse, b.pins.alarmLow) = (a.sfu.flags, a.sfu.pulse, a.pins.alarmLow)
  | .ltu => b.ltu = a.ltu
  | .nd => b.nd = a.nd
  | .tcu => b.tcu = a.tcu
  | .vehicles => b.vou.vehicles = a.vou.vehicles
  | .vou => (b.vou.nextTag, b.vou.retryInterval) = (a.vou.nextTag, a.vou.retryInterval)
  | .rolls => (b.tmc.rolls, b.tmc.badRolls) = (a.tmc.rolls, a.tmc.badRolls)
  | .places => (b.tmc.places, b.tmc.badPlaces) = (a.tmc.places, a.tmc.badPlaces)
  | .routes => (b.tmc.routes, b.tmc.badRoutes) = (a.tmc.routes, a.tmc.badRoutes)
  | .sizes => b.tmc.sizes = a.tmc.sizes
  | .stands => b.fdu.stands = a.fdu.stands
  | .speeds => b.fdu.speeds = a.fdu.speeds
  | .calls => (b.fdu.calls, b.fdu.search) = (a.fdu.calls, a.fdu.search)
  | .fdu => (b.fdu.settings, b.fdu.tolerance, b.fdu.implausibleLimit, b.fdu.lateMargin, b.fdu.starved, b.fdu.lastStarved,
      b.fdu.lastStarvedTick, b.fdu.predictionCount) = (a.fdu.settings, a.fdu.tolerance, a.fdu.implausibleLimit,
      a.fdu.lateMargin, a.fdu.starved, a.fdu.lastStarved, a.fdu.lastStarvedTick, a.fdu.predictionCount)
  | .scu => b.scu = a.scu
  | .pls => b.pls = a.pls
  | .mode => b.sfu.mode = a.sfu.mode
  | .sfu => (b.sfu.collector, b.sfu.linkPeriod, b.sfu.linkCount) = (a.sfu.collector, a.sfu.linkPeriod, a.sfu.linkCount)
  | .mga => b.mga = a.mga
  | .due => b.due = a.due
  | .pending => b.pending = a.pending

theorem Part.same_refl (a : State) (p : Part) : p.same a a := by cases p <;> rfl

theorem Part.same_trans {a b c : State} {p : Part} (h : p.same a b) (k : p.same b c) : p.same a c := by
  cases p <;> exact Eq.trans k h

/-- b differs from a in the parts of m alone, and the invariants are kept. -/
structure Moves (m : List Part) (a b : State) : Prop where
  same    : ∀ p, p ∉ m → p.same a b
  fit     : a.queuesFit → b.queuesFit
  alarm   : a.alarmFollows → b.alarmFollows
  tables  : a.tablesWf = true → b.tablesWf = true
  bounded : a.speedsBounded → b.speedsBounded
  ordered : a.callsOrdered → b.callsOrdered

namespace Moves

variable {m n : List Part} {a b c s : State}

theorem refl (a : State) : Moves m a a := ⟨fun p _ => p.same_refl a, id, id, id, id, id⟩

theorem mono (h : Moves n a b) (hs : n.all (m.contains ·) = true := by decide) : Moves m a b :=
  ⟨fun p hp => h.same p fun hn => hp (by simpa using List.all_eq_true.1 hs p hn), h.fit, h.alarm, h.tables, h.bounded,
    h.ordered⟩

theorem trans (h : Moves m a b) (k : Moves m b c) : Moves m a c :=
  ⟨fun p hp => Part.same_trans (h.same p hp) (k.same p hp), fun x => k.fit (h.fit x), fun x => k.alarm (h.alarm x),
    fun x => k.tables (h.tables x), fun x => k.bounded (h.bounded x), fun x => k.ordered (h.ordered x)⟩

/-- One operation after another. -/
theorem next (h : Moves m a b) (k : Moves n b c) (hs : n.all (m.contains ·) = true := by decide) : Moves m a c :=
  h.trans (k.mono hs)

/-- The same, read from the last operation back. -/
theorem after (k : Moves n b c) (hs : n.all (m.contains ·) = true) (h : Moves m a b) : Moves m a c := h.next k hs

theorem ite {p : Prop} [Decidable p] {x y : State} (h : Moves m a x) (k : Moves m a y) :
    Moves m a (if p then x else y) := by
  split
  · exact h
  · exact k

theorem foldl {α : Type} {f : State → α → State} {l : List α} {s : State} (h : Moves m a s)
    (k : ∀ s x, Moves m s (f s x)) : Moves m a (l.foldl f s) := by
  induction l generalizing s with
  | nil => exact h
  | cons x r ih => exact ih (h.trans (k s x))

theorem foldlPair {α β : Type} {f : State × β → α → State × β} {l : List α} {z : State × β} (h : Moves m a z.1)
    (k : ∀ z x, Moves m z.1 (f z x).1) : Moves m a (l.foldl f z).1 := by
  induction l generalizing z with
  | nil => exact h
  | cons x r ih => exact ih (h.trans (k z x))

theorem foldlSecond {α β : Type} {f : β × State → α → β × State} {l : List α} {z : β × State} (h : Moves m a z.2)
    (k : ∀ z x, Moves m z.2 (f z x).2) : Moves m a (l.foldl f z).2 := by
  induction l generalizing z with
  | nil => exact h
  | cons x r ih => exact ih (h.trans (k z x))

/-! ### Elementary updates that touch no invariant -/

theorem setVehicle (v : VehicleIx) (x : Vehicle) (s : State) : Moves [.vehicles] s (s.setVehicle v x) :=
  ⟨fun p hp => by cases p <;> first | rfl | exact absurd (by decide) hp, id, id, id, id, id⟩

theorem updVehicle (v : VehicleIx) (f : Vehicle → Vehicle) (s : State) : Moves [.vehicles] s (s.updVehicle v f) :=
  setVehicle v _ s

theorem mapVehicles (f : Vehicle → Vehicle) (s : State) : Moves [.vehicles] s (s.mapVehicles f) :=
  ⟨fun p hp => by cases p <;> first | rfl | exact absurd (by decide) hp, id, id, id, id, id⟩

theorem setStand (st : StandIx) (x : Stand) (s : State) : Moves [.stands] s (s.setStand st x) :=
  ⟨fun p hp => by cases p <;> first | rfl | exact absurd (by decide) hp, id, id, id, id, id⟩

theorem updStand (st : StandIx) (f : Stand → Stand) (s : State) : Moves [.stands] s (s.updStand st f) := setStand st _ s

theorem mapStands (f : Stand → Stand) (s : State) : Moves [.stands] s (s.mapStands f) :=
  ⟨fun p hp => by cases p <;> first | rfl | exact absurd (by decide) hp, id, id, id, id, id⟩

theorem updSettings (p : PressIx) (f : SpeedSettings → SpeedSettings) (s : State) : Moves [.fdu] s (s.updSettings p f) :=
  ⟨fun p hp => by cases p <;> first | rfl | exact absurd (by decide) hp, id, id, id, id, id⟩

theorem updZone (z : ZoneIx) (f : Zone → Zone) (s : State) : Moves [.tcu] s (s.updZone z f) :=
  ⟨fun p hp => by cases p <;> first | rfl | exact absurd (by decide) hp, id, id, id, id, id⟩

theorem setSearch (x : Option Search) (s : State) : Moves [.calls] s (s.setSearch x) :=
  ⟨fun p hp => by cases p <;> first | rfl | exact absurd (by decide) hp, id, id, id, id, id⟩

theorem setMode (x : Mode) (s : State) : Moves [.mode] s (s.setMode x) :=
  ⟨fun p hp => by cases p <;> first | rfl | exact absurd (by decide) hp, id, id, id, id, id⟩

theorem setLinkCount (k : Nat) (s : State) : Moves [.sfu] s (s.setLinkCount k) :=
  ⟨fun p hp => by cases p <;> first | rfl | exact absurd (by decide) hp, id, id, id, id, id⟩

theorem setRun (p : PressIx) (r : Option Run) (s : State) : Moves [.scu] s (s.setRun p r) :=
  ⟨fun p hp => by cases p <;> first | rfl | exact absurd (by decide) hp, id, id, id, id, id⟩

theorem updRun (p : PressIx) (f : Run → Run) (s : State) : Moves [.scu] s (s.updRun p f) := setRun p _ s

theorem updPress (p : PressIx) (f : PressRec → PressRec) (s : State) : Moves [.scu] s (s.updPress p f) :=
  ⟨fun p hp => by cases p <;> first | rfl | exact absurd (by decide) hp, id, id, id, id, id⟩

theorem goodRoll (k : Nat) (s : State) : Moves [.rolls] s (s.goodRoll k) :=
  ⟨fun p hp => by cases p <;> first | rfl | exact absurd (by decide) hp, id, id, id, id, id⟩

theorem setPrediction (k : Nat) (s : State) : Moves [.fdu] s (s.setPrediction k) :=
  ⟨fun p hp => by cases p <;> first | rfl | exact absurd (by decide) hp, id, id, id, id, id⟩

theorem setStarved (x : BitVec 32) (s : State) : Moves [.fdu] s (s.setStarved x) :=
  ⟨fun p hp => by cases p <;> first | rfl | exact absurd (by decide) hp, id, id, id, id, id⟩

theorem recordStarved (st : StandIx) (s : State) : Moves [.fdu] s (s.recordStarved st) :=
  ⟨fun p hp => by cases p <;> first | rfl | exact absurd (by decide) hp, id, id, id, id, id⟩

theorem setReady (p : PressIx) (x : Bool) (s : State) : Moves [.pls] s (s.setReady p x) :=
  ⟨fun p hp => by cases p <;> first | rfl | exact absurd (by decide) hp, id, id, id, id, id⟩

theorem setNextTag (k : Nat) (s : State) : Moves [.vou] s (s.setNextTag k) :=
  ⟨fun p hp => by cases p <;> first | rfl | exact absurd (by decide) hp, id, id, id, id, id⟩

theorem setClock (x : Word) (s : State) : Moves [.clock] s (s.setClock x) :=
  ⟨fun p hp => by cases p <;> first | rfl | exact absurd (by decide) hp, id, id, id, id, id⟩

theorem setDue (l : List Due) (s : State) : Moves [.due] s (s.setDue l) :=
  ⟨fun p hp => by cases p <;> first | rfl | exact absurd (by decide) hp, id, id, id, id, id⟩

theorem addScrapped (k : Nat) (s : State) : Moves [.scu] s (s.addScrapped k) :=
  ⟨fun p hp => by cases p <;> first | rfl | exact absurd (by decide) hp, id, id, id, id, id⟩

/-! ### Tables -/

theorem setSeg (k : Nat) (x : Segment) (s : State) : Moves [.tcu] s (s.setSeg k x) :=
  ⟨fun p hp => by cases p <;> first | rfl | exact absurd (by decide) hp, id, id,
    fun h => by
      simp only [State.tablesWf, Bool.and_eq_true] at h ⊢
      exact ⟨⟨h.1.1, Table.wf_put _ _ h.1.2⟩, h.2⟩, id, id⟩

theorem updSeg (k : Nat) (f : Segment → Segment) (s : State) : Moves [.tcu] s (s.updSeg k f) := setSeg k _ s

theorem setPlace (k : Nat) (x : Place) (s : State) : Moves [.places] s (s.setPlace k x) :=
  ⟨fun p hp => by cases p <;> first | rfl | exact absurd (by decide) hp, id, id,
    fun h => by
      simp only [State.tablesWf, Bool.and_eq_true] at h ⊢
      exact ⟨⟨⟨⟨h.1.1.1.1, Table.wf_put _ _ h.1.1.1.2⟩, h.1.1.2⟩, h.1.2⟩, h.2⟩, id, id⟩

theorem setSlot (k : Nat) (r : Roll) (s : State) : Moves [.rolls] s (s.setSlot k r) :=
  ⟨fun p hp => by cases p <;> first | rfl | exact absurd (by decide) hp, id, id,
    fun h => by
      simp only [State.tablesWf, Bool.and_eq_true] at h ⊢
      exact ⟨⟨⟨⟨Table.rising_insert _ _ h.1.1.1.1, h.1.1.1.2⟩, h.1.1.2⟩, h.1.2⟩, h.2⟩, id, id⟩

theorem freeSlot (k : Nat) (s : State) : Moves [.rolls] s (s.freeSlot k) :=
  ⟨fun p hp => by cases p <;> first | rfl | exact absurd (by decide) hp, id, id,
    fun h => by
      simp only [State.tablesWf, Bool.and_eq_true] at h ⊢
      exact ⟨⟨⟨⟨Table.rising_erase _ h.1.1.1.1, h.1.1.1.2⟩, h.1.1.2⟩, h.1.2⟩, h.2⟩, id, id⟩

theorem freeRoute (k : Nat) (s : State) : Moves [.routes] s (s.freeRoute k) :=
  ⟨fun p hp => by cases p <;> first | rfl | exact absurd (by decide) hp, id, id,
    fun h => by
      simp only [State.tablesWf, Bool.and_eq_true] at h ⊢
      exact ⟨⟨⟨h.1.1.1, Table.rising_erase _ h.1.1.2⟩, h.1.2⟩, h.2⟩, id, id⟩

theorem storeReserved (f : Owner → Bool) (s : State) : Moves [.rolls] s (s.storeReserved f) :=
  ⟨fun p hp => by cases p <;> first | rfl | exact absurd (by decide) hp, id, id,
    fun h => by
      simp only [State.tablesWf, Bool.and_eq_true] at h ⊢
      exact ⟨⟨⟨⟨Table.rising_map _ h.1.1.1.1, h.1.1.1.2⟩, h.1.1.2⟩, h.1.2⟩, h.2⟩, id, id⟩

/-! ### Speeds -/

theorem setSpeed (p : PressIx) (x : Speed) (s : State) (h : s.speedsBounded → x.estimate ≤ Config.maxSpeed) :
    Moves [.speeds] s (s.setSpeed p x) :=
  ⟨fun p hp => by cases p <;> first | rfl | exact absurd (by decide) hp, id, id, id,
    fun hb => ⟨fun q => by
      rw [State.speed_setSpeed]
      split
      · exact h hb
      · exact hb.1 q, hb.2⟩, id⟩

theorem updSpeed (p : PressIx) (f : Speed → Speed) (s : State)
    (h : s.speedsBounded → (f (s.speed p)).estimate ≤ Config.maxSpeed) : Moves [.speeds] s (s.updSpeed p f) :=
  setSpeed p _ s h

theorem speed_mapSpeeds (f : Speed → Speed) (s : State) (p : PressIx) : (s.mapSpeeds f).speed p = f (s.speed p) := by
  simp [State.speed, State.mapSpeeds, mapVec, ← Vector.getElem_toList]

theorem mapSpeeds (f : Speed → Speed) (s : State)
    (h : ∀ x, x.estimate ≤ Config.maxSpeed → (f x).estimate ≤ Config.maxSpeed) : Moves [.speeds] s (s.mapSpeeds f) :=
  ⟨fun p hp => by cases p <;> first | rfl | exact absurd (by decide) hp, id, id, id,
    fun hb => ⟨fun q => by rw [speed_mapSpeeds]; exact h _ (hb.1 q), hb.2⟩, id⟩

/-! ### The call list -/

theorem callPair_trans {x y z : Call} (h : x.before y = true) (k : y.before z = true) : x.before z = true := by
  simp only [Call.before, decide_eq_true_eq] at h k ⊢
  omega

theorem insertCall_pairwise {c : Call} : ∀ {l : List Call}, l.Pairwise State.callPair → (∀ x ∈ l, x.stand ≠ c.stand) →
    (insertCall c l).Pairwise State.callPair
  | [], _, _ => by simp [insertCall]
  | x :: r, h, hs => by
    obtain ⟨h1, h2⟩ := List.pairwise_cons.1 h
    unfold insertCall
    split
    · rename_i hb
      refine List.pairwise_cons.2 ⟨fun y hy => ⟨?_, fun e => hs y hy e.symm⟩, h⟩
      rcases List.mem_cons.1 hy with rfl | hy
      · exact hb
      · exact callPair_trans hb (h1 y hy).1
    · rename_i hb
      have hx : x.stand ≠ c.stand := hs x List.mem_cons_self
      have hv : x.stand.val ≠ c.stand.val := fun e => hx (Fin.ext e)
      have hxc : x.before c = true := by
        simp only [Call.before, decide_eq_true_eq] at hb ⊢
        omega
      have hr : ∀ y ∈ r, y.stand ≠ c.stand := fun y hy => hs y (List.mem_cons_of_mem _ hy)
      have mem : ∀ {l : List Call} {y : Call}, y ∈ insertCall c l → y = c ∨ y ∈ l := by
        intro l
        induction l with
        | nil => intro y hy; simpa [insertCall] using hy
        | cons z q ih =>
          intro y hy
          unfold insertCall at hy
          split at hy
          · simpa using hy
          · rcases List.mem_cons.1 hy with rfl | hy
            · exact .inr List.mem_cons_self
            · rcases ih hy with h | h
              · exact .inl h
              · exact .inr (List.mem_cons_of_mem _ h)
      refine List.pairwise_cons.2 ⟨fun y hy => ?_, insertCall_pairwise h2 hr⟩
      rcases mem hy with rfl | hy
      · exact ⟨hxc, hx⟩
      · exact h1 y hy

theorem setCalls (l : List Call) (s : State) (h : s.callsOrdered → l.Pairwise State.callPair) :
    Moves [.calls] s (s.setCalls l) :=
  ⟨fun p hp => by cases p <;> first | rfl | exact absurd (by decide) hp, id, id, id, id, h⟩

theorem dropCall (st : StandIx) (s : State) : Moves [.calls] s (s.dropCall st) :=
  setCalls _ s fun h => h.filter _

theorem putCall (c : Call) (s : State) : Moves [.calls] s (s.putCall c) :=
  setCalls _ s fun h => insertCall_pairwise (h.filter _) fun x hx => by simpa using (List.mem_filter.1 hx).2

theorem clearNoRoll (s : State) : Moves [.calls] s s.clearNoRoll :=
  setCalls _ s fun h => List.pairwise_map.2 (h.imp fun {_ _} hp => hp)

/-! ### Queues -/

theorem setLtu (x : Ltu) (s : State)
    (h : s.queuesFit → x.urgent.length ≤ Config.urgentSlots ∧ x.normal.length ≤ Config.normalSlots ∧
      x.upper.length ≤ Config.upperSlots) : Moves [.ltu] s { s with ltu := x } :=
  ⟨fun p hp => by cases p <;> first | rfl | exact absurd (by decide) hp,
    fun k => ⟨(h k).1, (h k).2.1, (h k).2.2, k.2.2.2.1, k.2.2.2.2⟩, id, id, id, id⟩

theorem pushUpper (t : Telegram) (s : State) (h : s.upperRoom = true) : Moves [.ltu] s (s.pushUpper t) :=
  setLtu _ s fun k => ⟨k.1, k.2.1, by simpa [State.upperRoom, Nat.succ_le_iff] using h⟩

theorem setMga (x : Mga) (s : State) (h : s.queuesFit → x.queue.length ≤ Config.mgaSlots) :
    Moves [.mga] s { s with mga := x } :=
  ⟨fun p hp => by cases p <;> first | rfl | exact absurd (by decide) hp,
    fun k => ⟨k.1, k.2.1, k.2.2.1, h k, k.2.2.2.2⟩, id, id, id, id⟩

theorem popped (t : Telegram) (rest : List Telegram) (s : State) (h : s.mga.queue = t :: rest) :
    Moves [.mga] s (s.popped rest) :=
  setMga _ s fun k => by
    have := k.2.2.2.1
    rw [h] at this
    exact Nat.le_of_succ_le this

theorem countError (q : Port) (s : State) : Moves [.ltu] s (s.countError q) := by
  cases q <;> exact setLtu _ s fun k => ⟨k.1, k.2.1, k.2.2.1⟩

theorem setClosed (l : List ClosedRun) (s : State) (h : s.queuesFit → l.length ≤ Config.closedSlots) :
    Moves [.scu] s (s.setClosed l) :=
  ⟨fun p hp => by cases p <;> first | rfl | exact absurd (by decide) hp,
    fun k => ⟨k.1, k.2.1, k.2.2.1, k.2.2.2.1, h k⟩, id, id, id, id⟩

/-! ### Flags -/

/-- Any change of the flag table and the pulse after which the pin is driven. -/
theorem driven (x : Vector FlagRec 30) (k : Nat) (s : State) :
    Moves [.flags] s (State.driveAlarm { s with sfu := { s.sfu with flags := x, pulse := k } }) :=
  ⟨fun p hp => by cases p <;> first | rfl | exact absurd (by decide) hp, id, fun _ => rfl, id, id, id⟩

theorem alarmLevel_latch {f : Flag} {n : Word} {s : State} (h : s.reports f = false) :
    (s.latch f n).alarmLevel = s.alarmLevel := by
  have key : ∀ g : Flag, (((s.latch f n).flag g).latched && !((s.latch f n).flag g).masked) =
      ((s.flag g).latched && !(s.flag g).masked) := by
    intro g
    simp only [State.latch, State.flag_updFlag]
    split
    · rename_i e; subst e
      simp only [State.reports] at h
      revert h
      cases (s.flag f).latched <;> cases (s.flag f).masked <;> simp
    · rfl
  have pulse : (s.latch f n).sfu.pulse = s.sfu.pulse := rfl
  simp only [State.alarmLevel, pulse, Bool.and_assoc, key]

/-- A latch of a flag that is not reported moves no level. -/
theorem latchQuiet (f : Flag) (n : Word) (s : State) (h : s.reports f = false) : Moves [.flags] s (s.latch f n) :=
  ⟨fun p hp => by cases p <;> first | rfl | exact absurd (by decide) hp, id,
    fun k => by
      have := alarmLevel_latch (n := n) h
      unfold State.alarmFollows at k ⊢
      rw [this]
      exact k, id, id, id⟩

end Moves

end Sys2Proof.Machine
end

