-- ==== Sys2Proof/Laws/PerInstr.lean ====
section
/-! SUPPORT. The family Form: what a well-formed command says of the telegram it carries, per constructor. -/

namespace Sys2Proof.Laws.Form

open Sys2Proof.Machine

/-- The telegram that a command's row names, with the fields given (R29, R32). -/
def carried : Instr → Option Telegram
  | .upperForward t => some t
  | .mgmtRequestReceived t => some t
  | .moveNew dst src rest => some ⟨dst, src, clsMove, 1 :: rest⟩
  | .moveCancel dst src rest => some ⟨dst, src, clsMove, 2 :: rest⟩
  | .runStart dst src press run edition => some ⟨dst, src, clsRun, runBody press 1 run edition⟩
  | .runGood dst src press run edition => some ⟨dst, src, clsRun, runBody press 2 run edition⟩
  | .runEdition dst src press run edition => some ⟨dst, src, clsRun, runBody press 3 run edition⟩
  | .runEnd dst src press run edition => some ⟨dst, src, clsRun, runBody press 4 run edition⟩
  | .floorUnacted t => some t
  | .vpos dst src segment motion load request => some ⟨dst, src, clsVpos, vposBody segment motion load request⟩
  | .vloadPick dst src kind number roll => some ⟨dst, src, clsVload, vloadBody 1 kind number roll⟩
  | .vloadDrop dst src kind number roll => some ⟨dst, src, clsVload, vloadBody 2 kind number roll⟩
  | .vdone dst src tag outcome => some ⟨dst, src, clsVdone, [tag, outcome]⟩
  | .standReport dst src diameter active other => some ⟨dst, src, clsStand, standBody diameter active other⟩
  | .spliceMade dst src old new => some ⟨dst, src, clsSplice, spliceBody 1 old new⟩
  | .spliceMissed dst src old new => some ⟨dst, src, clsSplice, spliceBody 2 old new⟩
  | .webBreak dst src roll => some ⟨dst, src, clsBreak, beWord roll⟩
  | .drive dst src press speed => some ⟨dst, src, clsDrive, driveBody press speed⟩
  | .count dst src press good waste reason => some ⟨dst, src, clsCount, countBody press good waste reason⟩
  | _ => none

/-- A well-formed command carries a telegram that the line can carry. -/
def Statement (i : Instr) : Prop := i.wf = true → ∀ t, carried i = some t → t.wf = true

/-- A body that is at most 60 bytes long, whatever its fields. -/
theorem fixed {t u : Telegram} (h : u.wf = true) (e : some u = some t) : t.wf = true := by
  injection e with e; exact e ▸ h

theorem reset : Statement (.reset) := fun _ _ e => nomatch e
theorem clearingPassComplete : Statement (.clearingPassComplete) := fun _ _ e => nomatch e
theorem hallTick : Statement (.hallTick) := fun _ _ e => nomatch e
theorem badReceive (port : Port) (rx : Receive) : Statement (.badReceive port rx) := fun _ _ e => nomatch e
theorem upperForward (t : Telegram) : Statement (.upperForward t) := fun h _ e => fixed h e
theorem mgmtRequestReceived (t : Telegram) : Statement (.mgmtRequestReceived t) := fun h _ e => fixed h e
theorem moveNew (dst : Byte) (src : Byte) (rest : List Byte) : Statement (.moveNew dst src rest) := fun h _ e => fixed (by simpa [Instr.wf, Telegram.wf, Nat.succ_le_iff] using h) e
theorem moveCancel (dst : Byte) (src : Byte) (rest : List Byte) : Statement (.moveCancel dst src rest) := fun h _ e => fixed (by simpa [Instr.wf, Telegram.wf, Nat.succ_le_iff] using h) e
theorem runStart (dst : Byte) (src : Byte) (press : Byte) (run : Half) (edition : Byte) : Statement (.runStart dst src press run edition) := fun _ _ e => fixed rfl e
theorem runGood (dst : Byte) (src : Byte) (press : Byte) (run : Half) (edition : Byte) : Statement (.runGood dst src press run edition) := fun _ _ e => fixed rfl e
theorem runEdition (dst : Byte) (src : Byte) (press : Byte) (run : Half) (edition : Byte) : Statement (.runEdition dst src press run edition) := fun _ _ e => fixed rfl e
theorem runEnd (dst : Byte) (src : Byte) (press : Byte) (run : Half) (edition : Byte) : Statement (.runEnd dst src press run edition) := fun _ _ e => fixed rfl e
theorem floorUnacted (t : Telegram) : Statement (.floorUnacted t) := fun h _ e => fixed h e
theorem vpos (dst : Byte) (src : Byte) (segment : Byte) (motion : Byte) (load : Word) (request : Byte) : Statement (.vpos dst src segment motion load request) := fun _ _ e => fixed rfl e
theorem vloadPick (dst : Byte) (src : Byte) (kind : Byte) (number : Half) (roll : Word) : Statement (.vloadPick dst src kind number roll) := fun _ _ e => fixed rfl e
theorem vloadDrop (dst : Byte) (src : Byte) (kind : Byte) (number : Half) (roll : Word) : Statement (.vloadDrop dst src kind number roll) := fun _ _ e => fixed rfl e
theorem vdone (dst : Byte) (src : Byte) (tag : Byte) (outcome : Byte) : Statement (.vdone dst src tag outcome) := fun _ _ e => fixed rfl e
theorem standReport (dst : Byte) (src : Byte) (diameter : Half) (active : Word) (other : Word) : Statement (.standReport dst src diameter active other) := fun _ _ e => fixed rfl e
theorem spliceMade (dst : Byte) (src : Byte) (old : Word) (new : Word) : Statement (.spliceMade dst src old new) := fun _ _ e => fixed rfl e
theorem spliceMissed (dst : Byte) (src : Byte) (old : Word) (new : Word) : Statement (.spliceMissed dst src old new) := fun _ _ e => fixed rfl e
theorem webBreak (dst : Byte) (src : Byte) (roll : Word) : Statement (.webBreak dst src roll) := fun _ _ e => fixed rfl e
theorem drive (dst : Byte) (src : Byte) (press : Byte) (speed : Half) : Statement (.drive dst src press speed) := fun _ _ e => fixed rfl e
theorem count (dst : Byte) (src : Byte) (press : Byte) (good : Half) (waste : Half) (reason : Byte) : Statement (.count dst src press good waste reason) := fun _ _ e => fixed rfl e
theorem transmitStart (port : Port) : Statement (.transmitStart port) := fun _ _ e => nomatch e
theorem restartHoldPlaced : Statement (.restartHoldPlaced) := fun _ _ e => nomatch e
theorem alarmPulseEnd : Statement (.alarmPulseEnd) := fun _ _ e => nomatch e
theorem vehicleLost (v : VehicleIx) : Statement (.vehicleLost v) := fun _ _ e => nomatch e
theorem lostRetryHold (v : VehicleIx) : Statement (.lostRetryHold v) := fun _ _ e => nomatch e
theorem driveSilent (p : PressIx) : Statement (.driveSilent p) := fun _ _ e => nomatch e
theorem countSilent (p : PressIx) : Statement (.countSilent p) := fun _ _ e => nomatch e
theorem holdoverLimit (p : PressIx) : Statement (.holdoverLimit p) := fun _ _ e => nomatch e
theorem predictionTick : Statement (.predictionTick) := fun _ _ e => nomatch e
theorem searchStep : Statement (.searchStep) := fun _ _ e => nomatch e
theorem searchComplete : Statement (.searchComplete) := fun _ _ e => nomatch e
theorem linkFallenSilent : Statement (.linkFallenSilent) := fun _ _ e => nomatch e
theorem mread : Statement (.mread) := fun _ _ e => nomatch e
theorem mwriteNodes : Statement (.mwriteNodes) := fun _ _ e => nomatch e
theorem mwriteVehicles : Statement (.mwriteVehicles) := fun _ _ e => nomatch e
theorem mwriteSegments : Statement (.mwriteSegments) := fun _ _ e => nomatch e
theorem mwriteRoutes : Statement (.mwriteRoutes) := fun _ _ e => nomatch e
theorem mwritePlaces : Statement (.mwritePlaces) := fun _ _ e => nomatch e
theorem rollAnnounce : Statement (.rollAnnounce) := fun _ _ e => nomatch e
theorem mwriteStands : Statement (.mwriteStands) := fun _ _ e => nomatch e
theorem mwritePlanNext : Statement (.mwritePlanNext) := fun _ _ e => nomatch e
theorem mwriteHall : Statement (.mwriteHall) := fun _ _ e => nomatch e
theorem mwriteOther : Statement (.mwriteOther) := fun _ _ e => nomatch e
theorem start : Statement (.start) := fun _ _ e => nomatch e
theorem config : Statement (.config) := fun _ _ e => nomatch e
theorem restart : Statement (.restart) := fun _ _ e => nomatch e
theorem partition : Statement (.partition) := fun _ _ e => nomatch e
theorem resume : Statement (.resume) := fun _ _ e => nomatch e
theorem planReady : Statement (.planReady) := fun _ _ e => nomatch e
theorem planSwap : Statement (.planSwap) := fun _ _ e => nomatch e
theorem clearFlags : Statement (.clearFlags) := fun _ _ e => nomatch e
theorem setMasks : Statement (.setMasks) := fun _ _ e => nomatch e
theorem setTime : Statement (.setTime) := fun _ _ e => nomatch e
theorem blockPlace : Statement (.blockPlace) := fun _ _ e => nomatch e
theorem unblockPlace : Statement (.unblockPlace) := fun _ _ e => nomatch e
theorem blockSegment : Statement (.blockSegment) := fun _ _ e => nomatch e
theorem unblockSegment : Statement (.unblockSegment) := fun _ _ e => nomatch e
theorem vehicleOff : Statement (.vehicleOff) := fun _ _ e => nomatch e
theorem vehicleOn : Statement (.vehicleOn) := fun _ _ e => nomatch e
theorem writeOff : Statement (.writeOff) := fun _ _ e => nomatch e
theorem clearZone : Statement (.clearZone) := fun _ _ e => nomatch e
theorem speedForce : Statement (.speedForce) := fun _ _ e => nomatch e
theorem speedFree : Statement (.speedFree) := fun _ _ e => nomatch e
theorem takeRun : Statement (.takeRun) := fun _ _ e => nomatch e
theorem clearStarved : Statement (.clearStarved) := fun _ _ e => nomatch e
theorem mrollNone : Statement (.mrollNone) := fun _ _ e => nomatch e
theorem mrollReserve : Statement (.mrollReserve) := fun _ _ e => nomatch e
theorem mrollRelease : Statement (.mrollRelease) := fun _ _ e => nomatch e
theorem mrollHold : Statement (.mrollHold) := fun _ _ e => nomatch e
theorem mrollUnhold : Statement (.mrollUnhold) := fun _ _ e => nomatch e
theorem mrollRemove : Statement (.mrollRemove) := fun _ _ e => nomatch e
theorem rstPinLow : Statement (.rstPinLow) := fun _ _ e => nomatch e
theorem badActionRequest : Statement (.badActionRequest) := fun _ _ e => nomatch e

end Sys2Proof.Laws.Form
end

