-- ==== Sys2Proof/Laws/Steps.lean ====
section
/-! SUPPORT. One lemma for each shared operation that says what it can change and that it keeps the invariants: a later
proof cites it in place of the operation's text. -/

-- One theorem after another, not side by side: all of them at once want more threads than the check allows.
set_option Elab.async false

namespace Sys2Proof.Machine

namespace Moves

/-- u differs from s in the link's queues, the flag table, the pulse and the ALARM pin alone, its queues within their
slots. -/
def Drift (s u : State) : Prop :=
  (s.queuesFit → u.ltu.urgent.length ≤ Config.urgentSlots ∧ u.ltu.normal.length ≤ Config.normalSlots ∧
    u.ltu.upper.length ≤ Config.upperSlots) ∧
  ∃ x f k al, u = { s with ltu := x, sfu := { s.sfu with flags := f, pulse := k }, pins := { s.pins with alarmLow := al } }

theorem Drift.start (s : State) : Drift s s := ⟨fun q => ⟨q.1, q.2.1, q.2.2.1⟩, _, _, _, _, rfl⟩

theorem Drift.latch {s u : State} (h : Drift s u) (f : Flag) (n : Word) : Drift s (u.latch f n) := by
  obtain ⟨hl, x, g, k, al, rfl⟩ := h
  exact ⟨hl, _, _, _, _, rfl⟩

theorem Drift.driveAlarm {s u : State} (h : Drift s u) : Drift s u.driveAlarm := by
  obtain ⟨hl, x, g, k, al, rfl⟩ := h
  exact ⟨hl, _, _, _, _, rfl⟩

theorem Drift.pulse {s u : State} (h : Drift s u) (n : Nat) : Drift s { u with sfu := { u.sfu with pulse := n } } := by
  obtain ⟨hl, x, g, k, al, rfl⟩ := h
  exact ⟨hl, _, _, _, _, rfl⟩

theorem Drift.alarmFor {s u : State} (h : Drift s u) (f : Flag) : Drift s (u.alarmFor f) := by
  unfold State.alarmFor
  split
  · exact h.driveAlarm
  · exact (h.pulse 2).driveAlarm

theorem Drift.pushUpper {s u : State} (h : Drift s u) (hr : u.upperRoom = true) (t : Telegram) : Drift s (u.pushUpper t) := by
  obtain ⟨hl, x, g, k, al, rfl⟩ := h
  refine ⟨fun q => ⟨(hl q).1, (hl q).2.1, ?_⟩, _, _, _, _, rfl⟩
  simpa [State.upperRoom, State.pushUpper, Nat.succ_le_iff] using hr

theorem Drift.raiseNoticeDropped {s u : State} (h : Drift s u) (n : Nat) : Drift s (u.raiseNoticeDropped n) := by
  unfold State.raiseNoticeDropped
  have hl := h.latch .noticeDropped (BitVec.ofNat 32 n)
  dsimp only
  split
  · refine Drift.alarmFor ?_ _
    split
    · exact hl
    · split
      · rename_i hr
        exact hl.pushUpper hr _
      · exact hl.latch ..
  · exact hl

/-- The pin driven after such a change. -/
theorem Drift.moves {s u : State} (h : Drift s u) : Moves [.ltu, .flags] s u.driveAlarm := by
  obtain ⟨hl, x, f, k, al, rfl⟩ := h
  exact ⟨fun p hp => by cases p <;> first | rfl | exact absurd (by decide) hp,
    fun q => ⟨(hl q).1, (hl q).2.1, (hl q).2.2, q.2.2.2.1, q.2.2.2.2⟩, fun _ => rfl, id, id, id⟩

theorem Drift.alarmMoves {s u : State} (h : Drift s u) (f : Flag) : Moves [.ltu, .flags] s (u.alarmFor f) := by
  unfold State.alarmFor
  split
  · exact h.moves
  · exact (h.pulse 2).moves

theorem raiseField (f : Flag) (n w : Word) (s : State) : Moves [.ltu, .flags] s (s.raiseField f n w) := by
  unfold State.raiseField
  have hl := (Drift.start s).latch f n
  dsimp only
  split
  · refine Drift.alarmMoves ?_ _
    split
    · exact hl
    · split
      · rename_i hr
        exact hl.pushUpper hr _
      · exact hl.raiseNoticeDropped _
  · rename_i h
    exact (latchQuiet f n s (by simpa using h)).mono

theorem raise (f : Flag) (n : Nat) (s : State) : Moves [.ltu, .flags] s (s.raise f n) := raiseField f _ _ s

theorem raiseParity (c k : Nat) (s : State) : Moves [.ltu, .flags] s (s.raiseParity c k) := raiseField _ _ _ s

theorem flushRestartHolds (s : State) : Moves [.ltu] s s.flushRestartHolds :=
  setLtu _ s fun k => ⟨by
    have := k.1
    simp only [List.length_append, List.length_take]
    omega, k.2.1, k.2.2.1⟩

theorem placeUrgent (t : Telegram) (s : State) : Moves [.ltu, .flags] s (s.placeUrgent t) := by
  unfold State.placeUrgent
  dsimp only
  split
  · rename_i h
    refine (flushRestartHolds s).mono.next (setLtu _ _ fun k => ⟨?_, k.2.1, k.2.2.1⟩)
    simpa [Nat.succ_le_iff] using h
  · exact (flushRestartHolds s).mono.next (raise ..)

theorem placeNormal (t : Telegram) (s : State) : Moves [.ltu, .flags] s (s.placeNormal t) := by
  unfold State.placeNormal
  split
  · rename_i h
    refine Moves.mono (n := [.ltu]) (setLtu _ s fun k => ⟨k.1, ?_, k.2.2.1⟩)
    simpa [State.normalRoom, Nat.succ_le_iff] using h
  · exact raise ..

theorem placeUpper (t : Telegram) (s : State) : Moves [.ltu, .flags] s (s.placeUpper t) := by
  unfold State.placeUpper
  split
  · rename_i h
    exact (pushUpper t s h).mono
  · exact raise ..

theorem placeAnswer (t : Telegram) (s : State) : Moves [.ltu, .flags] s (s.placeAnswer t) := by
  unfold State.placeAnswer
  split
  · rename_i h
    exact (pushUpper t s h).mono
  · exact raise ..

theorem sendVehicle (v : VehicleIx) (cls : Byte) (body : List Byte) (s : State) : Moves [.ltu, .flags] s (s.sendVehicle v cls body) := by
  unfold State.sendVehicle
  repeat' first
    | with_reducible exact .refl _
    | with_reducible refine .ite ?_ ?_
    | with_reducible apply after (placeUrgent ..)
    | decide
    | split

theorem sendGrant (v : VehicleIx) (segment : Nat) (r : GrantResult) (s : State) : Moves [.ltu, .flags] s (s.sendGrant v segment r) := by
  unfold State.sendGrant
  repeat' first
    | with_reducible exact .refl _
    | with_reducible refine .ite ?_ ?_
    | with_reducible apply after (sendVehicle ..)
    | decide

theorem sendRelease (v : VehicleIx) (s : State) : Moves [.ltu, .flags] s (s.sendRelease v) := by
  unfold State.sendRelease
  repeat' first
    | with_reducible exact .refl _
    | with_reducible refine .ite ?_ ?_
    | with_reducible apply after (sendVehicle ..)
    | decide

theorem sendHold (v : VehicleIx) (s : State) : Moves [.ltu, .flags] s (s.sendHold v) := by
  unfold State.sendHold
  repeat' first
    | with_reducible exact .refl _
    | with_reducible refine .ite ?_ ?_
    | with_reducible apply after (sendVehicle ..)
    | decide

theorem sendHoldLost (v : VehicleIx) (s : State) : Moves [.ltu, .flags] s (s.sendHoldLost v) := by
  unfold State.sendHoldLost
  repeat' first
    | with_reducible exact .refl _
    | with_reducible refine .ite ?_ ?_
    | with_reducible apply after (sendVehicle ..)
    | decide

theorem refuseTo (dst tag vehicleAddr : Byte) (r : Reason) (s : State) : Moves [.ltu, .flags] s (s.refuseTo dst tag vehicleAddr r) := by
  unfold State.refuseTo
  repeat' first
    | with_reducible exact .refl _
    | with_reducible refine .ite ?_ ?_
    | with_reducible apply after (placeAnswer ..)
    | decide

theorem vdoneOnBehalf (v : VehicleIx) (o : Order) (s : State) : Moves [.ltu, .flags] s (s.vdoneOnBehalf v o) := by
  unfold State.vdoneOnBehalf
  repeat' first
    | with_reducible exact .refl _
    | with_reducible refine .ite ?_ ?_
    | with_reducible apply after (placeUpper ..)
    | decide

theorem startSearch (s : State) : Moves [.calls] s (s.startSearch) := by
  unfold State.startSearch
  repeat' first
    | with_reducible exact .refl _
    | with_reducible refine .ite ?_ ?_
    | with_reducible apply after (putCall ..)
    | with_reducible apply after (setSearch ..)
    | decide
    | split

theorem availability (s : State) : Moves [.calls] s (s.availability) := by
  unfold State.availability
  repeat' first
    | with_reducible exact .refl _
    | with_reducible refine .ite ?_ ?_
    | with_reducible apply after (startSearch ..)
    | with_reducible apply after (clearNoRoll ..)
    | with_reducible apply after (setSearch ..)
    | decide

theorem readPlace (p : Nat) (s : State) : Moves [.places, .ltu, .flags] s (s.readPlace p) := by
  unfold State.readPlace
  repeat' first
    | with_reducible exact .refl _
    | with_reducible refine .ite ?_ ?_
    | with_reducible apply after (setPlace ..)
    | with_reducible apply after (raiseParity ..)
    | decide

theorem updPlace (p : Nat) (f : Place → Place) (s : State) : Moves [.places, .ltu, .flags] s (s.updPlace p f) := by
  unfold State.updPlace
  repeat' first
    | with_reducible exact .refl _
    | with_reducible refine .ite ?_ ?_
    | with_reducible apply after (readPlace ..)
    | with_reducible apply after (setPlace ..)
    | decide

theorem readStored (r : Roll) (s : State) : Moves [.places, .ltu, .flags] s (s.readStored r) := by
  unfold State.readStored
  repeat' first
    | with_reducible exact .refl _
    | with_reducible refine .ite ?_ ?_
    | with_reducible apply after (readPlace ..)
    | decide
    | split

theorem announceAvailable (id : RollId) (s : State) : Moves [.places, .ltu, .flags, .calls] s (s.announceAvailable id) := by
  unfold State.announceAvailable
  repeat' first
    | with_reducible exact .refl _
    | with_reducible refine .ite ?_ ?_
    | with_reducible apply after (readStored ..)
    | with_reducible apply after (availability ..)
    | decide
    | split

theorem freeReservedRead (st : StandIx) (id : RollId) (s : State) : Moves [.rolls, .places, .ltu, .flags, .calls] s (s.freeReservedRead st id) := by
  unfold State.freeReservedRead
  repeat' first
    | with_reducible exact .refl _
    | with_reducible refine .ite ?_ ?_
    | with_reducible apply after (setSlot ..)
    | with_reducible apply after (announceAvailable ..)
    | decide
    | split

theorem clearOrderLink (l : OrderRef) (s : State) : Moves [.vehicles] s (s.clearOrderLink l) := by
  unfold State.clearOrderLink
  repeat' first
    | with_reducible exact .refl _
    | with_reducible refine .ite ?_ ?_
    | with_reducible apply after (updVehicle ..)
    | decide

theorem leavePhaseRead (c : Call) (s : State) : Moves [.vehicles, .rolls, .places, .ltu, .flags, .calls] s (s.leavePhaseRead c) := by
  unfold State.leavePhaseRead
  repeat' first
    | with_reducible exact .refl _
    | with_reducible refine .ite ?_ ?_
    | with_reducible apply after (clearOrderLink ..)
    | with_reducible apply after (freeReservedRead ..)
    | decide
    | split

theorem reopenCallRead (c : Call) (s : State) : Moves [.calls, .vehicles, .rolls, .places, .ltu, .flags] s (s.reopenCallRead c) := by
  unfold State.reopenCallRead
  repeat' first
    | with_reducible exact .refl _
    | with_reducible refine .ite ?_ ?_
    | with_reducible apply after (putCall ..)
    | with_reducible apply after (leavePhaseRead ..)
    | with_reducible apply after (startSearch ..)
    | decide

theorem discardSearch (st : StandIx) (s : State) : Moves [.calls] s (s.discardSearch st) := by
  unfold State.discardSearch
  repeat' first
    | with_reducible exact .refl _
    | with_reducible refine .ite ?_ ?_
    | with_reducible apply after (setSearch ..)
    | decide
    | split

theorem openCall (st : StandIx) (due : Nat) (early : Bool) (s : State) : Moves [.calls] s (s.openCall st due early) := by
  unfold State.openCall
  repeat' first
    | with_reducible exact .refl _
    | with_reducible refine .ite ?_ ?_
    | with_reducible apply after (putCall ..)
    | with_reducible apply after (startSearch ..)
    | decide

theorem callTestRead (st : StandIx) (s : State) : Moves [.calls] s (s.callTestRead st) := by
  unfold State.callTestRead
  repeat' first
    | with_reducible exact .refl _
    | with_reducible refine .ite ?_ ?_
    | with_reducible apply after (openCall ..)
    | decide
    | split

theorem makeEarly (st : StandIx) (s : State) : Moves [.calls] s (s.makeEarly st) := by
  unfold State.makeEarly
  repeat' first
    | with_reducible exact .refl _
    | with_reducible refine .ite ?_ ?_
    | with_reducible apply after (putCall ..)
    | decide
    | split

theorem heldRunning (st : StandIx) (s : State) : Moves [.calls] s (s.heldRunning st) := by
  unfold State.heldRunning
  repeat' first
    | with_reducible exact .refl _
    | with_reducible refine .ite ?_ ?_
    | with_reducible apply after (makeEarly ..)
    | with_reducible apply after (callTestRead ..)
    | decide

theorem addHoldRead (id : RollId) (k : HoldKind) (s : State) : Moves [.rolls, .calls, .vehicles, .places, .ltu, .flags] s (s.addHoldRead id k) := by
  unfold State.addHoldRead
  repeat' first
    | with_reducible exact .refl _
    | with_reducible refine .ite ?_ ?_
    | with_reducible apply after (setSlot ..)
    | with_reducible apply after (heldRunning ..)
    | with_reducible apply after (reopenCallRead ..)
    | decide
    | split

theorem readSlot (k : Nat) (s : State) : Moves [.rolls, .calls, .vehicles, .places, .ltu, .flags] s (s.readSlot k) := by
  unfold State.readSlot
  repeat' first
    | with_reducible exact .refl _
    | with_reducible refine .ite ?_ ?_
    | with_reducible apply after (addHoldRead ..)
    | with_reducible apply after (goodRoll ..)
    | with_reducible apply after (raiseParity ..)
    | decide
    | split

theorem readRoll (id : RollId) (s : State) : Moves [.rolls, .calls, .vehicles, .places, .ltu, .flags] s (s.readRoll id) := by
  unfold State.readRoll
  repeat' first
    | with_reducible exact .refl _
    | with_reducible refine .ite ?_ ?_
    | with_reducible apply after (readSlot ..)
    | decide
    | split

theorem readNamed (id : Option RollId) (s : State) : Moves [.rolls, .calls, .vehicles, .places, .ltu, .flags] s (s.readNamed id) := by
  unfold State.readNamed
  repeat' first
    | with_reducible exact .refl _
    | with_reducible refine .ite ?_ ?_
    | with_reducible apply after (readRoll ..)
    | decide
    | split

theorem readActive (st : StandIx) (s : State) : Moves [.rolls, .calls, .vehicles, .places, .ltu, .flags] s (s.readActive st) := by
  unfold State.readActive
  repeat' first
    | with_reducible exact .refl _
    | with_reducible refine .ite ?_ ?_
    | with_reducible apply after (readNamed ..)
    | decide

theorem updRoll (id : RollId) (f : Roll → Roll) (s : State) : Moves [.rolls, .calls, .vehicles, .places, .ltu, .flags] s (s.updRoll id f) := by
  unfold State.updRoll
  repeat' first
    | with_reducible exact .refl _
    | with_reducible refine .ite ?_ ?_
    | with_reducible apply after (readRoll ..)
    | with_reducible apply after (setSlot ..)
    | decide
    | split
    | dsimp only

theorem addHold (id : RollId) (k : HoldKind) (s : State) : Moves [.rolls, .calls, .vehicles, .places, .ltu, .flags] s (s.addHold id k) := by
  unfold State.addHold
  repeat' first
    | with_reducible exact .refl _
    | with_reducible refine .ite ?_ ?_
    | with_reducible apply after (readRoll ..)
    | with_reducible apply after (addHoldRead ..)
    | decide

theorem freeReserved (st : StandIx) (id : RollId) (s : State) : Moves [.rolls, .calls, .vehicles, .places, .ltu, .flags] s (s.freeReserved st id) := by
  unfold State.freeReserved
  repeat' first
    | with_reducible exact .refl _
    | with_reducible refine .ite ?_ ?_
    | with_reducible apply after (readRoll ..)
    | with_reducible apply after (freeReservedRead ..)
    | decide

theorem leavePhase (c : Call) (s : State) : Moves [.rolls, .calls, .vehicles, .places, .ltu, .flags] s (s.leavePhase c) := by
  unfold State.leavePhase
  repeat' first
    | with_reducible exact .refl _
    | with_reducible refine .ite ?_ ?_
    | with_reducible apply after (readNamed ..)
    | with_reducible apply after (leavePhaseRead ..)
    | decide

theorem reopenCall (c : Call) (s : State) : Moves [.calls, .rolls, .vehicles, .places, .ltu, .flags] s (s.reopenCall c) := by
  unfold State.reopenCall
  repeat' first
    | with_reducible exact .refl _
    | with_reducible refine .ite ?_ ?_
    | with_reducible apply after (putCall ..)
    | with_reducible apply after (leavePhase ..)
    | with_reducible apply after (startSearch ..)
    | decide

theorem removeCall (st : StandIx) (s : State) : Moves [.calls, .rolls, .vehicles, .places, .ltu, .flags] s (s.removeCall st) := by
  unfold State.removeCall
  repeat' first
    | with_reducible exact .refl _
    | with_reducible refine .ite ?_ ?_
    | with_reducible apply after (dropCall ..)
    | with_reducible apply after (discardSearch ..)
    | with_reducible apply after (leavePhase ..)
    | with_reducible apply after (startSearch ..)
    | decide
    | split

theorem callTest (st : StandIx) (s : State) : Moves [.rolls, .calls, .vehicles, .places, .ltu, .flags] s (s.callTest st) := by
  unfold State.callTest
  repeat' first
    | with_reducible exact .refl _
    | with_reducible refine .ite ?_ ?_
    | with_reducible apply after (readActive ..)
    | with_reducible apply after (callTestRead ..)
    | decide

theorem computeTs (st : StandIx) (s : State) : Moves [.stands, .rolls, .calls, .vehicles, .places, .ltu, .flags] s (s.computeTs st) := by
  unfold State.computeTs
  repeat' first
    | with_reducible exact .refl _
    | with_reducible refine .ite ?_ ?_
    | with_reducible apply after (updStand ..)
    | with_reducible apply after (callTest ..)
    | with_reducible apply after (putCall ..)
    | decide
    | split

theorem stateChanged (st : StandIx) (s : State) : Moves [.stands, .calls, .rolls, .vehicles, .places, .ltu, .flags] s (s.stateChanged st) := by
  unfold State.stateChanged
  repeat' first
    | with_reducible exact .refl _
    | with_reducible refine .ite ?_ ?_
    | with_reducible apply after (updStand ..)
    | with_reducible apply after (makeEarly ..)
    | with_reducible apply after (callTest ..)
    | decide
    | split

theorem starve (st : StandIx) (s : State) : Moves [.stands, .ltu, .flags, .fdu, .calls, .rolls, .vehicles, .places] s (s.starve st) := by
  unfold State.starve
  repeat' first
    | with_reducible exact .refl _
    | with_reducible refine .ite ?_ ?_
    | with_reducible apply after (updStand ..)
    | with_reducible apply after (raise ..)
    | with_reducible apply after (recordStarved ..)
    | with_reducible apply after (stateChanged ..)
    | decide

theorem starveTest (st : StandIx) (s : State) : Moves [.stands, .ltu, .flags, .fdu, .calls, .rolls, .vehicles, .places] s (s.starveTest st) := by
  unfold State.starveTest
  repeat' first
    | with_reducible exact .refl _
    | with_reducible refine .ite ?_ ?_
    | with_reducible apply after (starve ..)
    | decide

theorem lateTest (st : StandIx) (s : State) : Moves [.stands, .ltu, .flags] s (s.lateTest st) := by
  unfold State.lateTest
  repeat' first
    | with_reducible exact .refl _
    | with_reducible refine .ite ?_ ?_
    | with_reducible apply after (updStand ..)
    | with_reducible apply after (raise ..)
    | decide

theorem callPicked (id : RollId) (v : VehicleIx) (s : State) : Moves [.calls, .rolls, .vehicles, .places, .ltu, .flags] s (s.callPicked id v) := by
  unfold State.callPicked
  repeat' first
    | with_reducible exact .refl _
    | with_reducible refine .ite ?_ ?_
    | with_reducible apply after (reopenCall ..)
    | decide
    | split

theorem callDropped (id : RollId) (s : State) : Moves [.calls, .rolls, .vehicles, .places, .ltu, .flags] s (s.callDropped id) := by
  unfold State.callDropped
  repeat' first
    | with_reducible exact .refl _
    | with_reducible refine .ite ?_ ?_
    | with_reducible apply after (reopenCall ..)
    | decide
    | split

theorem callRollRemoved (id : RollId) (s : State) : Moves [.calls, .rolls, .vehicles, .places, .ltu, .flags] s (s.callRollRemoved id) := by
  unfold State.callRollRemoved
  repeat' first
    | with_reducible exact .refl _
    | with_reducible refine .ite ?_ ?_
    | with_reducible apply after (reopenCall ..)
    | decide
    | split

theorem leaveWaiting (v : VehicleIx) (s : State) : Moves [.tcu] s (s.leaveWaiting v) := by
  unfold State.leaveWaiting
  repeat' first
    | with_reducible exact .refl _
    | with_reducible refine .ite ?_ ?_
    | with_reducible apply after (updSeg ..)
    | decide
    | split

theorem takeClaim (v : VehicleIx) (n : Nat) (pos : Option Nat) (s : State) : Moves [.tcu, .vehicles] s (s.takeClaim v n pos) := by
  unfold State.takeClaim
  repeat' first
    | with_reducible exact .refl _
    | with_reducible refine .ite ?_ ?_
    | with_reducible apply after (updSeg ..)
    | with_reducible apply after (updVehicle ..)
    | decide

theorem grantClaim (v : VehicleIx) (n : Nat) (s : State) : Moves [.tcu, .vehicles, .ltu, .flags] s (s.grantClaim v n) := by
  unfold State.grantClaim
  repeat' first
    | with_reducible exact .refl _
    | with_reducible refine .ite ?_ ?_
    | with_reducible apply after (takeClaim ..)
    | with_reducible apply after (sendGrant ..)
    | decide

theorem serve (n : Nat) (s : State) : Moves [.tcu, .vehicles, .ltu, .flags] s (s.serve n) := by
  unfold State.serve
  repeat' first
    | with_reducible exact .refl _
    | with_reducible refine .ite ?_ ?_
    | with_reducible apply after (grantClaim ..)
    | with_reducible refine .foldl ?_ fun s x => ?_
    | decide

theorem serveWaiting (v : VehicleIx) (s : State) : Moves [.tcu, .vehicles, .ltu, .flags] s (s.serveWaiting v) := by
  unfold State.serveWaiting
  repeat' first
    | with_reducible exact .refl _
    | with_reducible refine .ite ?_ ?_
    | with_reducible apply after (serve ..)
    | decide
    | split

theorem dropClaims (v : VehicleIx) (gone keep : List TrackClaim) (s : State) : Moves [.vehicles, .tcu, .ltu, .flags] s (s.dropClaims v gone keep) := by
  unfold State.dropClaims
  repeat' first
    | with_reducible exact .refl _
    | with_reducible refine .ite ?_ ?_
    | with_reducible apply after (updVehicle ..)
    | with_reducible apply after (updSeg ..)
    | with_reducible apply after (serve ..)
    | with_reducible refine .foldl ?_ fun s x => ?_
    | decide

theorem releaseClaims (v : VehicleIx) (gone keep : List TrackClaim) (s : State) : Moves [.vehicles, .tcu, .ltu, .flags] s (s.releaseClaims v gone keep) := by
  unfold State.releaseClaims
  repeat' first
    | with_reducible exact .refl _
    | with_reducible refine .ite ?_ ?_
    | with_reducible apply after (dropClaims ..)
    | with_reducible apply after (serveWaiting ..)
    | decide

theorem seat (v : VehicleIx) (s : State) : Moves [.tcu, .vehicles] s (s.seat v) := by
  unfold State.seat
  repeat' first
    | with_reducible exact .refl _
    | with_reducible refine .ite ?_ ?_
    | with_reducible apply after (takeClaim ..)
    | decide

theorem joinPath (v : VehicleIx) (o : Order) (s : State) : Moves [.vehicles, .tcu] s (s.joinPath v o) := by
  unfold State.joinPath
  repeat' first
    | with_reducible exact .refl _
    | with_reducible refine .ite ?_ ?_
    | with_reducible apply after (updVehicle ..)
    | with_reducible apply after (seat ..)
    | with_reducible apply after (setVehicle ..)
    | decide

theorem leavePassed (v : VehicleIx) (s : State) : Moves [.tcu] s (s.leavePassed v) := by
  unfold State.leavePassed
  repeat' first
    | with_reducible exact .refl _
    | with_reducible refine .ite ?_ ?_
    | with_reducible apply after (leaveWaiting ..)
    | decide
    | split

theorem emptyPath (v : VehicleIx) (s : State) : Moves [.tcu, .vehicles, .ltu, .flags] s (s.emptyPath v) := by
  unfold State.emptyPath
  repeat' first
    | with_reducible exact .refl _
    | with_reducible refine .ite ?_ ?_
    | with_reducible apply after (leaveWaiting ..)
    | with_reducible apply after (updVehicle ..)
    | with_reducible apply after (releaseClaims ..)
    | decide

theorem cutPath (v : VehicleIx) (tag : Byte) (s : State) : Moves [.vehicles, .tcu, .ltu, .flags] s (s.cutPath v tag) := by
  unfold State.cutPath
  repeat' first
    | with_reducible exact .refl _
    | with_reducible refine .ite ?_ ?_
    | with_reducible apply after (updVehicle ..)
    | with_reducible apply after (leavePassed ..)
    | with_reducible apply after (releaseClaims ..)
    | decide

theorem leavePath (v : VehicleIx) (tag : Byte) (s : State) : Moves [.tcu, .vehicles, .ltu, .flags] s (s.leavePath v tag) := by
  unfold State.leavePath
  repeat' first
    | with_reducible exact .refl _
    | with_reducible refine .ite ?_ ?_
    | with_reducible apply after (emptyPath ..)
    | with_reducible apply after (cutPath ..)
    | decide

theorem takeCurrent (v : VehicleIx) (c : Nat) (s : State) : Moves [.vehicles, .tcu, .ltu, .flags] s (s.takeCurrent v c).2 := by
  unfold State.takeCurrent
  repeat' first
    | with_reducible exact .refl _
    | with_reducible refine .ite ?_ ?_
    | with_reducible apply after (updVehicle ..)
    | with_reducible apply after (leavePassed ..)
    | with_reducible apply after (releaseClaims ..)
    | decide
    | split
    | dsimp only

theorem waitCheck (v : VehicleIx) (n : Nat) (s : State) : Moves [.ltu, .flags, .vehicles, .tcu] s (s.waitCheck v n) := by
  unfold State.waitCheck
  repeat' first
    | with_reducible exact .refl _
    | with_reducible refine .ite ?_ ?_
    | with_reducible apply after (sendGrant ..)
    | with_reducible apply after (raise ..)
    | with_reducible apply after (updVehicle ..)
    | with_reducible apply after (leaveWaiting ..)
    | with_reducible apply after (updSeg ..)
    | decide

theorem request (v : VehicleIx) (n : Nat) (s : State) : Moves [.ltu, .flags, .tcu, .vehicles] s (s.request v n) := by
  unfold State.request
  repeat' first
    | with_reducible exact .refl _
    | with_reducible refine .ite ?_ ?_
    | with_reducible apply after (sendGrant ..)
    | with_reducible apply after (grantClaim ..)
    | with_reducible apply after (waitCheck ..)
    | decide

theorem haltZone (z : ZoneIx) (s : State) : Moves [.vehicles, .ltu, .flags] s (s.haltZone z) := by
  unfold State.haltZone
  repeat' first
    | with_reducible exact .refl _
    | with_reducible refine .ite ?_ ?_
    | with_reducible apply after (updVehicle ..)
    | with_reducible apply after (sendHoldLost ..)
    | with_reducible apply after (sendHold ..)
    | with_reducible refine .foldl ?_ fun s x => ?_
    | decide

theorem changeZone (z : ZoneIx) (f : Zone → Zone) (s : State) : Moves [.tcu, .vehicles, .ltu, .flags] s (s.changeZone z f) := by
  unfold State.changeZone
  repeat' first
    | with_reducible exact .refl _
    | with_reducible refine .ite ?_ ?_
    | with_reducible apply after (updZone ..)
    | with_reducible apply after (haltZone ..)
    | decide

theorem zoneLost (v : VehicleIx) (s : State) : Moves [.tcu, .vehicles, .ltu, .flags] s (s.zoneLost v) := by
  unfold State.zoneLost
  repeat' first
    | with_reducible exact .refl _
    | with_reducible refine .ite ?_ ?_
    | with_reducible apply after (changeZone ..)
    | decide
    | split

theorem liftZone (z : ZoneIx) (s : State) : Moves [.vehicles, .ltu, .flags, .tcu] s (s.liftZone z).1 := by
  unfold State.liftZone
  repeat' first
    | with_reducible exact .refl _
    | with_reducible refine .ite ?_ ?_
    | with_reducible apply after (updVehicle ..)
    | with_reducible apply after (sendRelease ..)
    | with_reducible apply after (serve ..)
    | with_reducible refine .foldl ?_ fun s x => ?_
    | decide

theorem liftIfClear (z : ZoneIx) (was : Bool) (s : State) : Moves [.vehicles, .ltu, .flags, .tcu] s (s.liftIfClear z was).1 := by
  unfold State.liftIfClear
  repeat' first
    | with_reducible exact .refl _
    | with_reducible refine .ite ?_ ?_
    | with_reducible apply after (liftZone ..)
    | decide
    | split

theorem leaveLostSets (v : VehicleIx) (s : State) :
    Moves [.vehicles, .tcu, .ltu, .flags] s (s.leaveLostSets v).1 := by
  unfold State.leaveLostSets
  refine .foldlPair (.refl _) fun z x => ?_
  split
  · exact (updZone ..).mono.next (liftIfClear ..)
  · exact .refl _

theorem zoneIntruded (v : VehicleIx) (z : ZoneIx) (s : State) :
    Moves [.vehicles, .tcu, .ltu, .flags] s (s.zoneIntruded v z).1 := by
  unfold State.zoneIntruded
  refine .foldlPair ?_ fun z x => ?_
  · exact .ite (.refl _) (changeZone ..).mono
  · split
    · exact (updZone ..).mono.next (liftIfClear ..)
    · exact .refl _

theorem readLoc (l : Loc) (s : State) : Moves [.places, .ltu, .flags] s (s.readLoc l) := by
  unfold State.readLoc
  repeat' first
    | with_reducible exact .refl _
    | with_reducible refine .ite ?_ ?_
    | with_reducible apply after (readPlace ..)
    | decide

theorem freeBadRoute (k : Nat) (s : State) : Moves [.routes, .ltu, .flags] s (s.freeBadRoute k) := by
  unfold State.freeBadRoute
  repeat' first
    | with_reducible exact .refl _
    | with_reducible refine .ite ?_ ?_
    | with_reducible apply after (freeRoute ..)
    | with_reducible apply after (raiseParity ..)
    | decide

theorem lookup (a b : Loc) (s : State) : Moves [.places, .ltu, .flags, .routes] s (s.lookup a b).2 := by
  unfold State.lookup
  repeat' first
    | with_reducible exact .refl _
    | with_reducible refine .ite ?_ ?_
    | with_reducible apply after (readLoc ..)
    | with_reducible apply after (freeBadRoute ..)
    | with_reducible refine .foldl ?_ fun s x => ?_
    | decide
    | split
    | dsimp only

theorem lookupLegs (start pickup drop : Loc) (s : State) : Moves [.places, .ltu, .flags, .routes] s (s.lookupLegs start pickup drop).2.2 := by
  unfold State.lookupLegs
  repeat' first
    | with_reducible exact .refl _
    | with_reducible refine .ite ?_ ?_
    | with_reducible apply after (lookup ..)
    | decide
    | split

theorem updOrder (r : OrderRef) (f : Order → Order) (s : State) : Moves [.vehicles] s (s.updOrder r f) := by
  unfold State.updOrder
  repeat' first
    | with_reducible exact .refl _
    | with_reducible refine .ite ?_ ?_
    | with_reducible apply after (updVehicle ..)
    | decide

theorem setDropClaim (l : Loc) (c : Option OrderRef) (s : State) : Moves [.places, .ltu, .flags, .stands] s (s.setDropClaim l c) := by
  unfold State.setDropClaim
  repeat' first
    | with_reducible exact .refl _
    | with_reducible refine .ite ?_ ?_
    | with_reducible apply after (updPlace ..)
    | with_reducible apply after (updStand ..)
    | decide
    | split

theorem releaseDropClaim (l : Loc) (r : OrderRef) (s : State) : Moves [.places, .ltu, .flags, .stands] s (s.releaseDropClaim l r) := by
  unfold State.releaseDropClaim
  repeat' first
    | with_reducible exact .refl _
    | with_reducible refine .ite ?_ ?_
    | with_reducible apply after (readLoc ..)
    | with_reducible apply after (setDropClaim ..)
    | decide

theorem armEmptied (st : StandIx) (s : State) : Moves [.stands, .vehicles] s (s.armEmptied st) := by
  unfold State.armEmptied
  repeat' first
    | with_reducible exact .refl _
    | with_reducible refine .ite ?_ ?_
    | with_reducible apply after (updStand ..)
    | with_reducible apply after (updOrder ..)
    | decide
    | split

theorem sendCall (c : Call) (s : State) : Moves [.ltu, .flags] s (s.sendCall c) := by
  unfold State.sendCall
  repeat' first
    | with_reducible exact .refl _
    | with_reducible refine .ite ?_ ?_
    | with_reducible apply after (placeUpper ..)
    | decide
    | split

theorem selectCall (c : Call) (id : RollId) (s : State) : Moves [.calls, .ltu, .flags] s (s.selectCall c id) := by
  unfold State.selectCall
  repeat' first
    | with_reducible exact .refl _
    | with_reducible refine .ite ?_ ?_
    | with_reducible apply after (putCall ..)
    | with_reducible apply after (sendCall ..)
    | decide

theorem linkCall (st : StandIx) (r : OrderRef) (roll : RollId) (s : State) : Moves [.calls, .vehicles, .rolls, .places, .ltu, .flags] s (s.linkCall st r roll) := by
  unfold State.linkCall
  repeat' first
    | with_reducible exact .refl _
    | with_reducible refine .ite ?_ ?_
    | with_reducible apply after (putCall ..)
    | with_reducible apply after (discardSearch ..)
    | with_reducible apply after (clearOrderLink ..)
    | with_reducible apply after (freeReserved ..)
    | with_reducible apply after (updOrder ..)
    | with_reducible apply after (startSearch ..)
    | decide
    | split

theorem revertCall (v : VehicleIx) (o : Order) (s : State) : Moves [.rolls, .calls, .vehicles, .places, .ltu, .flags] s (s.revertCall v o) := by
  unfold State.revertCall
  repeat' first
    | with_reducible exact .refl _
    | with_reducible refine .ite ?_ ?_
    | with_reducible apply after (readRoll ..)
    | with_reducible apply after (selectCall ..)
    | with_reducible apply after (reopenCall ..)
    | decide
    | split

theorem endOutstanding (v : VehicleIx) (o : Order) (e : OrderEnd) (s : State) : Moves [.vehicles, .tcu, .ltu, .flags, .places, .stands, .rolls, .calls] s (s.endOutstanding v o e) := by
  unfold State.endOutstanding
  repeat' first
    | with_reducible exact .refl _
    | with_reducible refine .ite ?_ ?_
    | with_reducible apply after (updVehicle ..)
    | with_reducible apply after (leavePath ..)
    | with_reducible apply after (releaseDropClaim ..)
    | with_reducible apply after (revertCall ..)
    | decide

theorem endQueued (v : VehicleIx) (o : Order) (s : State) : Moves [.vehicles, .places, .ltu, .flags, .stands, .rolls, .calls] s (s.endQueued v o) := by
  unfold State.endQueued
  repeat' first
    | with_reducible exact .refl _
    | with_reducible refine .ite ?_ ?_
    | with_reducible apply after (updVehicle ..)
    | with_reducible apply after (releaseDropClaim ..)
    | with_reducible apply after (revertCall ..)
    | decide

theorem settle (v : VehicleIx) (s : State) : Moves [.vehicles] s (s.settle v) := by
  unfold State.settle
  repeat' first
    | with_reducible exact .refl _
    | with_reducible refine .ite ?_ ?_
    | with_reducible apply after (setVehicle ..)
    | decide
    | split

theorem sendMove {m : List Part} (tell : State → State) (v : VehicleIx) (o : Order) (s : State) (h : ∀ u, Moves m u (tell u))
    (hm : [.vehicles, .places, .routes, .ltu, .flags, .tcu, .stands, .calls, .rolls].all (m.contains ·) = true) : Moves m s (s.sendMove tell v o) := by
  have sub : ∀ {a b : State}, Moves [.vehicles, .places, .routes, .ltu, .flags, .tcu, .stands, .calls, .rolls] a b → Moves m a b := fun k => k.mono hm
  unfold State.sendMove
  split
  · refine .ite (sub (placeNormal ..).mono) ?_
    dsimp only
    have h1 : Moves m s (((s.raise .queueOverflow 2).endOutstanding v o .failed).settle v) :=
      sub (((raise ..).mono.next (endOutstanding ..)).next (settle ..))
    exact (Moves.ite (h1.trans (h _)) h1).trans (sub (refuseTo ..).mono)
  · exact .refl _

theorem forwardHead {m : List Part} (tell : State → State) (v : VehicleIx) (o : Order) (s : State) (h : ∀ u, Moves m u (tell u))
    (hm : [.vehicles, .places, .routes, .ltu, .flags, .tcu, .stands, .calls, .rolls].all (m.contains ·) = true) : Moves m s (s.forwardHead tell v o) := by
  have sub : ∀ {a b : State}, Moves [.vehicles, .places, .routes, .ltu, .flags, .tcu, .stands, .calls, .rolls] a b → Moves m a b := fun k => k.mono hm
  unfold State.forwardHead
  have h0 : Moves [.vehicles, .places, .routes, .ltu, .flags, .tcu, .stands, .calls, .rolls] s ((s.readLoc o.drop).lookupLegs (s.vehicle v).endLoc o.pickup o.drop).2.2 :=
    (readLoc ..).mono.next (lookupLegs ..)
  generalize ((s.readLoc o.drop).lookupLegs (s.vehicle v).endLoc o.pickup o.drop) = r at h0 ⊢
  obtain ⟨l1, l2, u⟩ := r
  dsimp only
  split
  · exact sub ((h0.next (endQueued ..)).next (refuseTo ..))
  · exact (sub (((h0.next (updVehicle ..)).next (joinPath ..)).next (updVehicle ..))).trans (sendMove _ _ _ _ h hm)

theorem forwardLoop {m : List Part} (tell : State → State) (v : VehicleIx) (n : Nat) (s : State) (h : ∀ u, Moves m u (tell u))
    (hm : [.vehicles, .places, .routes, .ltu, .flags, .tcu, .stands, .calls, .rolls].all (m.contains ·) = true) : Moves m s (s.forwardLoop tell v n) := by
  induction n generalizing s with
  | zero => exact .refl _
  | succ n ih =>
    unfold State.forwardLoop
    split
    · exact (forwardHead _ _ _ _ h hm).trans (ih _)
    · exact .refl _

theorem forward (v : VehicleIx) (s : State) : Moves [.vehicles, .places, .routes, .ltu, .flags, .tcu, .stands, .calls, .rolls] s (s.forward v) :=
  forwardLoop _ _ _ _ (fun _ => .refl _) (by decide)

theorem accept (v : VehicleIx) (src : Source) (reply : Byte) (tag : Byte) (pickup drop : Loc) (roll : RollId) (s : State) : Moves [.vehicles, .places, .ltu, .flags, .stands, .calls, .rolls, .routes, .tcu] s (s.accept v src reply tag pickup drop roll) := by
  unfold State.accept
  repeat' first
    | with_reducible exact .refl _
    | with_reducible refine .ite ?_ ?_
    | with_reducible apply after (updVehicle ..)
    | with_reducible apply after (setDropClaim ..)
    | with_reducible apply after (linkCall ..)
    | with_reducible apply after (forward ..)
    | decide
    | split

theorem admitMove (src : Source) (reply : Byte) (m : MoveFields) (s : State) : Moves [.ltu, .flags, .rolls, .calls, .vehicles, .places, .routes, .stands, .tcu] s (s.admitMove src reply m) := by
  unfold State.admitMove
  repeat' first
    | with_reducible exact .refl _
    | with_reducible refine .ite ?_ ?_
    | with_reducible apply after (refuseTo ..)
    | with_reducible apply after (readRoll ..)
    | with_reducible apply after (readLoc ..)
    | with_reducible apply after (lookupLegs ..)
    | with_reducible apply after (accept ..)
    | decide
    | split
    | dsimp only

theorem servingLegs (v : VehicleIx) (pickup drop : Loc) (s : State) :
    Moves [.places, .routes, .ltu, .flags] s (s.servingLegs v pickup drop).2 := by
  unfold State.servingLegs
  dsimp only
  split
  · have h := lookupLegs (s.vehicle v).endLoc pickup drop s
    split <;> exact h.mono
  · exact .refl _

theorem chooseVehicle (vs : List VehicleIx) (pickup drop : Loc) (s : State) :
    Moves [.places, .routes, .ltu, .flags] s (s.chooseVehicle vs pickup drop).2 := by
  unfold State.chooseVehicle
  refine .foldlSecond (.refl _) fun z x => ?_
  have h := servingLegs x pickup drop z.2
  generalize State.servingLegs x pickup drop z.2 = r at h ⊢
  obtain ⟨n, u⟩ := r
  dsimp only
  split <;> exact h.mono

theorem originate (v : VehicleIx) (pickup drop : Loc) (id : RollId) (s : State) : Moves [.vou, .ltu, .flags, .rolls, .calls, .vehicles, .places, .routes, .stands, .tcu] s (s.originate v pickup drop id) := by
  unfold State.originate
  repeat' first
    | with_reducible exact .refl _
    | with_reducible refine .ite ?_ ?_
    | with_reducible apply after (setNextTag ..)
    | with_reducible apply after (admitMove ..)
    | decide

theorem tryRoll (st : StandIx) (id : RollId) (s : State) : Moves [.vou, .vehicles, .places, .routes, .ltu, .flags, .tcu, .stands, .calls, .rolls] s (s.tryRoll st id) := by
  unfold State.tryRoll
  split
  · rename_i p _ _
    have h := (chooseVehicle (List.finRange 16) ⟨.place, p⟩ (standLoc st) s).mono (m := [.vou, .vehicles, .places, .routes, .ltu, .flags, .tcu, .stands, .calls, .rolls])
    generalize State.chooseVehicle (List.finRange 16) ⟨.place, p⟩ (standLoc st) s = r at h ⊢
    obtain ⟨v, u⟩ := r
    cases v with
    | none => exact h
    | some v => exact h.next (originate ..)
  · rename_i v _
    have h := (chooseVehicle [v] ⟨.none, 0⟩ (standLoc st) s).mono (m := [.vou, .vehicles, .places, .routes, .ltu, .flags, .tcu, .stands, .calls, .rolls])
    generalize State.chooseVehicle [v] ⟨.none, 0⟩ (standLoc st) s = r at h ⊢
    obtain ⟨w, u⟩ := r
    cases w with
    | none => exact h
    | some w => exact h.next (originate ..)
  · exact .refl _

theorem tryCall (st : StandIx) (s : State) : Moves [.vou, .vehicles, .places, .routes, .ltu, .flags, .tcu, .stands, .calls, .rolls] s (s.tryCall st) := by
  unfold State.tryCall
  split
  · rename_i id _
    have h : Moves [.vou, .vehicles, .places, .routes, .ltu, .flags, .tcu, .stands, .calls, .rolls] s (s.readRoll id) := (readRoll ..).mono
    exact .ite (h.next (tryRoll ..)) h
  · exact .refl _

theorem tryCalls (s : State) : Moves [.vou, .vehicles, .places, .routes, .ltu, .flags, .tcu, .stands, .calls, .rolls] s (s.tryCalls) := by
  unfold State.tryCalls
  repeat' first
    | with_reducible exact .refl _
    | with_reducible refine .ite ?_ ?_
    | with_reducible apply after (tryCall ..)
    | with_reducible refine .foldl ?_ fun s x => ?_
    | decide

theorem forwardAndTell (v : VehicleIx) (s : State) : Moves [.vou, .vehicles, .places, .routes, .ltu, .flags, .tcu, .stands, .calls, .rolls] s (s.forwardAndTell v) :=
  forwardLoop _ _ _ _ (fun _ => (tryCalls ..).mono) (by decide)

theorem takeUp (v : VehicleIx) (s : State) : Moves [.tcu, .vehicles, .ltu, .flags, .vou, .places, .routes, .stands, .calls, .rolls] s (s.takeUp v) := by
  unfold State.takeUp
  repeat' first
    | with_reducible exact .refl _
    | with_reducible refine .ite ?_ ?_
    | with_reducible apply after (serveWaiting ..)
    | with_reducible apply after (tryCalls ..)
    | with_reducible apply after (forwardAndTell ..)
    | decide

theorem resumeVehicle (v : VehicleIx) (s : State) : Moves [.tcu, .vehicles, .ltu, .flags, .vou, .places, .routes, .stands, .calls, .rolls] s (s.resumeVehicle v) := by
  unfold State.resumeVehicle
  repeat' first
    | with_reducible exact .refl _
    | with_reducible refine .ite ?_ ?_
    | with_reducible apply after (takeUp ..)
    | decide

theorem causesEmptied (v : VehicleIx) (s : State) : Moves [.ltu, .flags, .tcu, .vehicles, .vou, .places, .routes, .stands, .calls, .rolls] s (s.causesEmptied v) := by
  unfold State.causesEmptied
  repeat' first
    | with_reducible exact .refl _
    | with_reducible refine .ite ?_ ?_
    | with_reducible apply after (sendRelease ..)
    | with_reducible apply after (resumeVehicle ..)
    | decide

theorem settleAndTell (v : VehicleIx) (s : State) : Moves [.vehicles, .ltu, .flags, .tcu, .vou, .places, .routes, .stands, .calls, .rolls] s (s.settleAndTell v) := by
  unfold State.settleAndTell
  repeat' first
    | with_reducible exact .refl _
    | with_reducible refine .ite ?_ ?_
    | with_reducible apply after (settle ..)
    | with_reducible apply after (updVehicle ..)
    | with_reducible apply after (causesEmptied ..)
    | with_reducible apply after (tryCalls ..)
    | decide

theorem endOrder (v : VehicleIx) (o : Order) (e : OrderEnd) (s : State) : Moves [.vehicles, .tcu, .ltu, .flags, .places, .stands, .rolls, .calls, .vou, .routes] s (s.endOrder v o e) := by
  unfold State.endOrder
  repeat' first
    | with_reducible exact .refl _
    | with_reducible refine .ite ?_ ?_
    | with_reducible apply after (endOutstanding ..)
    | with_reducible apply after (tryCalls ..)
    | with_reducible apply after (settleAndTell ..)
    | with_reducible apply after (forwardAndTell ..)
    | decide

theorem endQueuedOrder (v : VehicleIx) (o : Order) (s : State) : Moves [.vehicles, .places, .ltu, .flags, .stands, .rolls, .calls, .vou, .routes, .tcu] s (s.endQueuedOrder v o) := by
  unfold State.endQueuedOrder
  repeat' first
    | with_reducible exact .refl _
    | with_reducible refine .ite ?_ ?_
    | with_reducible apply after (endQueued ..)
    | with_reducible apply after (tryCalls ..)
    | with_reducible apply after (forwardAndTell ..)
    | decide

theorem badReceived (port : Port) (s : State) : Moves [.ltu, .flags] s (s.badReceived port) := by
  unfold State.badReceived
  repeat' first
    | with_reducible exact .refl _
    | with_reducible refine .ite ?_ ?_
    | with_reducible apply after (countError ..)
    | with_reducible apply after (raise ..)
    | decide

theorem joinMga (t : Telegram) (s : State) : Moves [.mga, .ltu, .flags] s (s.joinMga t) := by
  unfold State.joinMga
  split
  · rename_i h
    refine Moves.mono (n := [.mga]) (setMga _ s fun _ => ?_)
    simpa [Nat.succ_le_iff] using h
  · exact (raise ..).mono

theorem upperGate {m : List Part} (t : Telegram) (act : State → State) (s : State) (h : ∀ u, Moves m u (act u))
    (hm : [Part.sfu, .mga, .ltu, .flags].all (m.contains ·) = true) : Moves m s (s.upperGate t act) := by
  have sub : ∀ {n : List Part} {a b : State}, Moves n a b → n.all ([Part.sfu, .mga, .ltu, .flags].contains ·) = true →
      Moves m a b := fun k hs => (k.mono (m := [.sfu, .mga, .ltu, .flags]) hs).mono hm
  unfold State.upperGate
  refine .ite (sub (badReceived ..) (by decide)) ?_
  have h1 : Moves m s (s.setLinkCount 0) := sub (setLinkCount ..) (by decide)
  exact .ite (h1.trans (sub (joinMga ..) (by decide))) (.ite (h1.trans (sub (placeNormal ..) (by decide))) (h1.trans (h _)))

theorem runGate {m : List Part} (t : Telegram) (watch : State → State) (s : State) (h : ∀ u, Moves m u (watch u))
    (hm : [Part.sfu, .mga, .ltu, .flags].all (m.contains ·) = true) : Moves m s (s.runGate t watch) :=
  upperGate t _ s (fun u => (Moves.ite (h u) (.refl u)).trans
    (((placeNormal ..).mono (m := [.sfu, .mga, .ltu, .flags])).mono hm)) hm

theorem mismatch (t : Telegram) (s : State) : Moves [.ltu, .flags] s (s.mismatch t) := by
  unfold State.mismatch
  repeat' first
    | with_reducible exact .refl _
    | with_reducible refine .ite ?_ ?_
    | with_reducible apply after (raise ..)
    | decide

theorem floorGate {m : List Part} (t : Telegram) (act : NodeEntry → State → State) (s : State)
    (h : ∀ e u, Moves m u (act e u)) (hm : [Part.ltu, .flags].all (m.contains ·) = true) : Moves m s (s.floorGate t act) := by
  have up : ∀ {u : State}, Moves m s u → Moves m s (u.placeUpper t) := fun k => k.trans ((placeUpper ..).mono hm)
  have mis : Moves m s (s.mismatch t) := (mismatch ..).mono hm
  unfold State.floorGate
  refine .ite ((badReceived ..).mono hm) (.ite ((raise ..).mono hm) (.ite (up (.refl _)) ?_))
  split
  · exact up mis
  · exact .ite (up mis) (.ite (up (.refl _)) (up (h _ _)))

theorem forVehicle {m : List Part} (f : VehicleIx → State → State) (e : NodeEntry) (s : State) (h : ∀ x u, Moves m u (f x u)) :
    Moves m s (State.forVehicle f e s) := by
  unfold State.forVehicle
  split
  · exact h _ _
  · exact .refl _

theorem forStand {m : List Part} (f : StandIx → State → State) (e : NodeEntry) (s : State) (h : ∀ x u, Moves m u (f x u)) :
    Moves m s (State.forStand f e s) := by
  unfold State.forStand
  split
  · exact h _ _
  · exact .refl _

theorem forPress {m : List Part} (f : PressIx → State → State) (e : NodeEntry) (s : State) (h : ∀ x u, Moves m u (f x u)) :
    Moves m s (State.forPress f e s) := by
  unfold State.forPress
  split
  · exact h _ _
  · exact .refl _

theorem reply (t : Telegram) (a : Answer) (s : State) : Moves [.ltu, .flags] s (s.reply t a) := by
  unfold State.reply
  repeat' first
    | with_reducible exact .refl _
    | with_reducible refine .ite ?_ ?_
    | with_reducible apply after (placeAnswer ..)
    | decide

theorem takeRequest {m : List Part} (row : Row) (run : Telegram → State → State) (s : State) (h : ∀ t u, Moves m u (run t u))
    (hm : [Part.mga, .ltu, .flags].all (m.contains ·) = true) : Moves m s (s.takeRequest row run) := by
  have sub : ∀ {n : List Part} {a b : State}, Moves n a b → n.all ([Part.mga, .ltu, .flags].contains ·) = true →
      Moves m a b := fun k hs => (k.mono (m := [.mga, .ltu, .flags]) hs).mono hm
  unfold State.takeRequest
  split
  · exact .refl _
  · rename_i t rest hq
    have h1 : Moves m s (s.popped rest) := sub (popped t rest s hq) (by decide)
    refine .ite ?_ (.refl _)
    refine .ite (h1.trans (sub (reply ..) (by decide))) ?_
    split
    · exact h1.trans (sub (reply ..) (by decide))
    · exact h1.trans (h _ _)

theorem serveRequest {m : List Part} (row : Row) (run : Telegram → State → Answer × State) (s : State)
    (h : ∀ t u, Moves m u (run t u).2) (hm : [Part.mga, .ltu, .flags].all (m.contains ·) = true) :
    Moves m s (s.serveRequest row run) :=
  takeRequest row _ s
    (fun t u => (h t u).trans (((reply ..).mono (m := [.mga, .ltu, .flags])).mono hm)) hm

theorem answered (r : Result) (s : State) : Moves [] s (s.answered r).2 := by
  unfold State.answered
  repeat' first
    | with_reducible exact .refl _

theorem loseCarrier (id : RollId) (s : State) : Moves [.rolls, .calls, .vehicles, .places, .ltu, .flags] s (s.loseCarrier id) := by
  unfold State.loseCarrier
  repeat' first
    | with_reducible exact .refl _
    | with_reducible refine .ite ?_ ?_
    | with_reducible apply after (updRoll ..)
    | with_reducible apply after (addHold ..)
    | decide

theorem shedLoad (v : VehicleIx) (kept : Option RollId) (s : State) : Moves [.rolls, .calls, .vehicles, .places, .ltu, .flags] s (s.shedLoad v kept) := by
  unfold State.shedLoad
  repeat' first
    | with_reducible exact .refl _
    | with_reducible refine .ite ?_ ?_
    | with_reducible apply after (loseCarrier ..)
    | decide
    | split

theorem setLoad (v : VehicleIx) (l : Load) (s : State) : Moves [.vehicles] s (s.setLoad v l) := by
  unfold State.setLoad
  repeat' first
    | with_reducible exact .refl _
    | with_reducible refine .ite ?_ ?_
    | with_reducible apply after (updVehicle ..)
    | decide

theorem moveIllFormed (t : Telegram) (s : State) : Moves [.ltu, .flags] s (s.moveIllFormed t) := by
  unfold State.moveIllFormed
  repeat' first
    | with_reducible exact .refl _
    | with_reducible refine .ite ?_ ?_
    | with_reducible apply after (refuseTo ..)
    | with_reducible apply after (mismatch ..)
    | decide

theorem cancelOrder (t : Telegram) (s : State) : Moves [.ltu, .flags, .vehicles, .places, .stands, .rolls, .calls, .vou, .routes, .tcu] s (s.cancelOrder t) := by
  unfold State.cancelOrder
  repeat' first
    | with_reducible exact .refl _
    | with_reducible refine .ite ?_ ?_
    | with_reducible apply after (refuseTo ..)
    | with_reducible apply after (endQueuedOrder ..)
    | with_reducible apply after (vdoneOnBehalf ..)
    | with_reducible apply after (placeNormal ..)
    | with_reducible apply after (raise ..)
    | decide
    | split

theorem refuseKind (t : Telegram) (s : State) : Moves [.ltu, .flags] s (s.refuseKind t) := refuseTo ..

theorem moveTaken (t : Telegram) (s : State) : Moves [.ltu, .flags, .rolls, .calls, .vehicles, .places, .routes, .stands, .tcu, .vou] s (s.moveTaken t) := by
  unfold State.moveTaken
  repeat' first
    | with_reducible exact .refl _
    | with_reducible refine .ite ?_ ?_
    | with_reducible apply after (moveIllFormed ..)
    | with_reducible apply after (admitMove ..)
    | with_reducible apply after (cancelOrder ..)
    | with_reducible apply after (refuseKind ..)
    | decide
    | split

theorem regain (v : VehicleIx) (s : State) : Moves [.vehicles] s (s.regain v) := by
  unfold State.regain
  repeat' first
    | with_reducible exact .refl _
    | with_reducible refine .ite ?_ ?_
    | with_reducible apply after (updVehicle ..)
    | decide

theorem resumeAll (vs : List VehicleIx) (s : State) : Moves [.tcu, .vehicles, .ltu, .flags, .vou, .places, .routes, .stands, .calls, .rolls] s (s.resumeAll vs) := by
  unfold State.resumeAll
  repeat' first
    | with_reducible exact .refl _
    | with_reducible refine .ite ?_ ?_
    | with_reducible apply after (resumeVehicle ..)
    | with_reducible refine .foldl ?_ fun s x => ?_
    | decide

theorem vehicleReturns (v : VehicleIx) (s : State) : Moves [.vehicles, .tcu, .ltu, .flags, .vou, .places, .routes, .stands, .calls, .rolls] s (s.vehicleReturns v) := by
  unfold State.vehicleReturns
  repeat' first
    | with_reducible exact .refl _
    | with_reducible refine .ite ?_ ?_
    | with_reducible apply after (regain ..)
    | with_reducible apply after (leaveLostSets ..)
    | with_reducible apply after (resumeAll ..)
    | with_reducible apply after (sendRelease ..)
    | with_reducible apply after (takeUp ..)
    | decide

theorem vehicleIntrudes (v : VehicleIx) (c : Nat) (s : State) : Moves [.vehicles, .ltu, .flags, .tcu, .vou, .places, .routes, .stands, .calls, .rolls] s (s.vehicleIntrudes v c) := by
  unfold State.vehicleIntrudes
  repeat' first
    | with_reducible exact .refl _
    | with_reducible refine .ite ?_ ?_
    | with_reducible apply after (regain ..)
    | with_reducible apply after (raise ..)
    | with_reducible apply after (updVehicle ..)
    | with_reducible apply after (zoneIntruded ..)
    | with_reducible apply after (sendHold ..)
    | with_reducible apply after (resumeAll ..)
    | with_reducible apply after (takeUp ..)
    | decide
    | split

theorem vposTaken (segment motion : Byte) (load : RollId) (req : Byte) (v : VehicleIx) (s : State) : Moves [.vehicles, .tcu, .ltu, .flags, .vou, .places, .routes, .stands, .calls, .rolls] s (s.vposTaken segment motion load req v) := by
  unfold State.vposTaken
  repeat' first
    | with_reducible exact .refl _
    | with_reducible refine .ite ?_ ?_
    | with_reducible apply after (updVehicle ..)
    | with_reducible apply after (takeCurrent ..)
    | with_reducible apply after (request ..)
    | with_reducible apply after (vehicleIntrudes ..)
    | with_reducible apply after (vehicleReturns ..)
    | decide

theorem vdoneTaken (tag outcome : Byte) (v : VehicleIx) (s : State) : Moves [.vehicles, .tcu, .ltu, .flags, .places, .stands, .rolls, .calls, .vou, .routes] s (s.vdoneTaken tag outcome v) := by
  unfold State.vdoneTaken
  repeat' first
    | with_reducible exact .refl _
    | with_reducible refine .ite ?_ ?_
    | with_reducible apply after (endOrder ..)
    | with_reducible apply after (raise ..)
    | decide
    | split

theorem onDue {m : List Part} (d : Due) (holds : State → Bool) (act : State → State) (s : State) (h : ∀ u, Moves m u (act u))
    (hm : [Part.due].all (m.contains ·) = true) : Moves m s (State.onDue d holds act s) := by
  unfold State.onDue
  have h1 : Moves m s (s.setDue (s.due.filter (· ≠ d))) := (setDue ..).mono hm
  exact .ite (.ite (h1.trans (h _)) h1) (.refl _)

theorem loseVehicle (v : VehicleIx) (s : State) : Moves [.vehicles, .ltu, .flags, .tcu] s (s.loseVehicle v) := by
  unfold State.loseVehicle
  repeat' first
    | with_reducible exact .refl _
    | with_reducible refine .ite ?_ ?_
    | with_reducible apply after (updVehicle ..)
    | with_reducible apply after (raise ..)
    | with_reducible apply after (sendHoldLost ..)
    | with_reducible apply after (zoneLost ..)
    | decide

theorem retryHold (v : VehicleIx) (s : State) : Moves [.ltu, .flags, .vehicles] s (s.retryHold v) := by
  unfold State.retryHold
  repeat' first
    | with_reducible exact .refl _
    | with_reducible refine .ite ?_ ?_
    | with_reducible apply after (sendHoldLost ..)
    | with_reducible apply after (updVehicle ..)
    | decide

theorem applyVehicleWrite (w : State.VehicleWrite) (s : State) : Moves [.vehicles, .ltu, .flags, .tcu, .vou, .places, .routes, .stands, .calls, .rolls] s (s.applyVehicleWrite w) := by
  unfold State.applyVehicleWrite
  repeat' first
    | with_reducible exact .refl _
    | with_reducible refine .ite ?_ ?_
    | with_reducible apply after (updVehicle ..)
    | with_reducible apply after (sendHold ..)
    | with_reducible apply after (causesEmptied ..)
    | decide

theorem writeVehicles (t : Telegram) (s : State) : Moves [.vehicles, .ltu, .flags, .tcu, .vou, .places, .routes, .stands, .calls, .rolls] s (s.writeVehicles t).2 := by
  unfold State.writeVehicles
  repeat' first
    | with_reducible exact .refl _
    | with_reducible refine .ite ?_ ?_
    | with_reducible apply after (answered ..)
    | with_reducible apply after (applyVehicleWrite ..)
    | with_reducible refine .foldl ?_ fun s x => ?_
    | decide
    | split
    | dsimp only

theorem onVehicle {m : List Part} (f : VehicleIx → State → Answer × State) (t : Telegram) (s : State)
    (h : ∀ x u, Moves m u (f x u).2) : Moves m s (State.onVehicle f t s).2 := by
  unfold State.onVehicle
  split
  · exact h _ _
  · exact .refl _

theorem turnOff (v : VehicleIx) (s : State) : Moves [.vehicles] s (s.turnOff v).2 := by
  unfold State.turnOff
  repeat' first
    | with_reducible exact .refl _
    | with_reducible refine .ite ?_ ?_
    | with_reducible apply after (answered ..)
    | with_reducible apply after (updVehicle ..)
    | decide
    | split
    | dsimp only

theorem turnOn (v : VehicleIx) (s : State) : Moves [.vehicles, .ltu, .flags, .vou, .places, .routes, .tcu, .stands, .calls, .rolls] s (s.turnOn v).2 := by
  unfold State.turnOn
  repeat' first
    | with_reducible exact .refl _
    | with_reducible refine .ite ?_ ?_
    | with_reducible apply after (answered ..)
    | with_reducible apply after (updVehicle ..)
    | with_reducible apply after (sendHold ..)
    | with_reducible apply after (tryCalls ..)
    | decide
    | split
    | dsimp only

theorem writeOffVehicle (v : VehicleIx) (s : State) : Moves [.ltu, .flags, .tcu, .vehicles, .rolls, .calls, .places, .stands, .vou, .routes] s (s.writeOffVehicle v).2 := by
  unfold State.writeOffVehicle
  repeat' first
    | with_reducible exact .refl _
    | with_reducible refine .ite ?_ ?_
    | with_reducible apply after (sendVehicle ..)
    | with_reducible apply after (leaveWaiting ..)
    | with_reducible apply after (releaseClaims ..)
    | with_reducible apply after (leaveLostSets ..)
    | with_reducible apply after (shedLoad ..)
    | with_reducible apply after (setLoad ..)
    | with_reducible apply after (endQueued ..)
    | with_reducible apply after (refuseTo ..)
    | with_reducible apply after (reply ..)
    | with_reducible apply after (endOutstanding ..)
    | with_reducible apply after (updVehicle ..)
    | with_reducible apply after (resumeAll ..)
    | with_reducible apply after (tryCalls ..)
    | with_reducible apply after (answered ..)
    | with_reducible refine .foldl ?_ fun s x => ?_
    | decide

theorem reseat (v : VehicleIx) (s : State) : Moves [.vehicles, .tcu, .ltu, .flags] s (s.reseat v) := by
  unfold State.reseat
  repeat' first
    | with_reducible exact .refl _
    | with_reducible refine .ite ?_ ?_
    | with_reducible apply after (updVehicle ..)
    | with_reducible apply after (dropClaims ..)
    | with_reducible apply after (seat ..)
    | decide

theorem clearZone (z : ZoneIx) (s : State) : Moves [.vehicles, .tcu, .ltu, .flags, .vou, .places, .routes, .stands, .calls, .rolls] s (s.clearZone z) := by
  unfold State.clearZone
  repeat' first
    | with_reducible exact .refl _
    | with_reducible refine .ite ?_ ?_
    | with_reducible apply after (updVehicle ..)
    | with_reducible apply after (reseat ..)
    | with_reducible apply after (updZone ..)
    | with_reducible apply after (liftIfClear ..)
    | with_reducible apply after (sendRelease ..)
    | with_reducible apply after (resumeAll ..)
    | with_reducible refine .foldl ?_ fun s x => ?_
    | decide

theorem blockSegment (n : Nat) (s : State) : Moves [.tcu] s (s.blockSegment n).2 := by
  unfold State.blockSegment
  repeat' first
    | with_reducible exact .refl _
    | with_reducible refine .ite ?_ ?_
    | with_reducible apply after (answered ..)
    | with_reducible apply after (updSeg ..)
    | decide
    | split

theorem unblockSegment (n : Nat) (s : State) : Moves [.tcu, .vehicles, .ltu, .flags] s (s.unblockSegment n).2 := by
  unfold State.unblockSegment
  repeat' first
    | with_reducible exact .refl _
    | with_reducible refine .ite ?_ ?_
    | with_reducible apply after (answered ..)
    | with_reducible apply after (updSeg ..)
    | with_reducible apply after (serve ..)
    | decide
    | split

theorem emptyActive (st : StandIx) (s : State) : Moves [.stands] s (s.emptyActive st) := by
  unfold State.emptyActive
  repeat' first
    | with_reducible exact .refl _
    | with_reducible refine .ite ?_ ?_
    | with_reducible apply after (updStand ..)
    | decide

theorem emptyOther (st : StandIx) (s : State) : Moves [.stands] s (s.emptyOther st) := by
  unfold State.emptyOther
  repeat' first
    | with_reducible exact .refl _
    | with_reducible refine .ite ?_ ?_
    | with_reducible apply after (updStand ..)
    | decide

theorem armStandby (st : StandIx) (id : RollId) (s : State) : Moves [.stands] s (s.armStandby st id) := by
  unfold State.armStandby
  repeat' first
    | with_reducible exact .refl _
    | with_reducible refine .ite ?_ ?_
    | with_reducible apply after (updStand ..)
    | decide

theorem standbyPlanCheck (st : StandIx) (id : RollId) (s : State) : Moves [.ltu, .flags] s (s.standbyPlanCheck st id) := by
  unfold State.standbyPlanCheck
  repeat' first
    | with_reducible exact .refl _
    | with_reducible refine .ite ?_ ?_
    | with_reducible apply after (raise ..)
    | decide
    | split

theorem clearLocation (status : RollStatus) (s : State) : Moves [.places, .ltu, .flags, .vehicles, .stands] s (s.clearLocation status) := by
  unfold State.clearLocation
  repeat' first
    | with_reducible exact .refl _
    | with_reducible refine .ite ?_ ?_
    | with_reducible apply after (updPlace ..)
    | with_reducible apply after (setLoad ..)
    | with_reducible apply after (emptyOther ..)
    | with_reducible apply after (emptyActive ..)
    | decide
    | split

theorem tellArm (status : RollStatus) (s : State) : Moves [.stands, .vehicles, .ltu, .flags, .fdu, .calls, .rolls, .places] s (s.tellArm status) := by
  unfold State.tellArm
  repeat' first
    | with_reducible exact .refl _
    | with_reducible refine .ite ?_ ?_
    | with_reducible apply after (armEmptied ..)
    | with_reducible apply after (starveTest ..)
    | with_reducible apply after (callTest ..)
    | with_reducible apply after (stateChanged ..)
    | decide
    | split

theorem carryOn (v : VehicleIx) (id : RollId) (told : Bool) (s : State) : Moves [.rolls, .calls, .vehicles, .places, .ltu, .flags] s (s.carryOn v id told) := by
  unfold State.carryOn
  repeat' first
    | with_reducible exact .refl _
    | with_reducible refine .ite ?_ ?_
    | with_reducible apply after (updRoll ..)
    | with_reducible apply after (callPicked ..)
    | with_reducible apply after (shedLoad ..)
    | with_reducible apply after (setLoad ..)
    | decide

theorem progressPick (v : VehicleIx) (l : Loc) (s : State) : Moves [.vehicles] s (s.progressPick v l) := by
  unfold State.progressPick
  repeat' first
    | with_reducible exact .refl _
    | with_reducible refine .ite ?_ ?_
    | with_reducible apply after (updOrder ..)
    | decide
    | split

theorem pickUnknown (v : VehicleIx) (s : State) : Moves [.rolls, .calls, .vehicles, .places, .ltu, .flags] s (s.pickUnknown v) := by
  unfold State.pickUnknown
  repeat' first
    | with_reducible exact .refl _
    | with_reducible refine .ite ?_ ?_
    | with_reducible apply after (shedLoad ..)
    | with_reducible apply after (setLoad ..)
    | with_reducible apply after (raise ..)
    | decide

theorem pickKnown (v : VehicleIx) (l : Loc) (id : RollId) (status : RollStatus) (s : State) : Moves [.places, .ltu, .flags, .vehicles, .stands, .rolls, .calls, .fdu] s (s.pickKnown v l id status) := by
  unfold State.pickKnown
  repeat' first
    | with_reducible exact .refl _
    | with_reducible refine .ite ?_ ?_
    | with_reducible apply after (clearLocation ..)
    | with_reducible apply after (carryOn ..)
    | with_reducible apply after (raiseField ..)
    | with_reducible apply after (tellArm ..)
    | decide

theorem pickTaken (kind : Byte) (number : Half) (id : RollId) (v : VehicleIx) (s : State) : Moves [.ltu, .flags, .rolls, .calls, .vehicles, .places, .stands, .fdu] s (s.pickTaken kind number id v) := by
  unfold State.pickTaken
  repeat' first
    | with_reducible exact .refl _
    | with_reducible refine .ite ?_ ?_
    | with_reducible apply after (raise ..)
    | with_reducible apply after (readRoll ..)
    | with_reducible apply after (pickUnknown ..)
    | with_reducible apply after (progressPick ..)
    | with_reducible apply after (pickKnown ..)
    | decide
    | split
    | dsimp only

theorem endDropClaim (v : VehicleIx) (l : Loc) (s : State) : Moves [.places, .ltu, .flags, .stands, .vehicles] s (s.endDropClaim v l) := by
  unfold State.endDropClaim
  repeat' first
    | with_reducible exact .refl _
    | with_reducible refine .ite ?_ ?_
    | with_reducible apply after (setDropClaim ..)
    | with_reducible apply after (updOrder ..)
    | with_reducible apply after (raise ..)
    | decide
    | split

theorem setDown (v : VehicleIx) (id : RollId) (status : RollStatus) (s : State) : Moves [.rolls, .calls, .vehicles, .places, .ltu, .flags] s (s.setDown v id status) := by
  unfold State.setDown
  repeat' first
    | with_reducible exact .refl _
    | with_reducible refine .ite ?_ ?_
    | with_reducible apply after (updRoll ..)
    | with_reducible apply after (setLoad ..)
    | decide

theorem dropAtPlace (v : VehicleIx) (p : Nat) (id : RollId) (s : State) : Moves [.ltu, .flags, .rolls, .calls, .vehicles, .places, .stands] s (s.dropAtPlace v p id) := by
  unfold State.dropAtPlace
  repeat' first
    | with_reducible exact .refl _
    | with_reducible refine .ite ?_ ?_
    | with_reducible apply after (raise ..)
    | with_reducible apply after (setDown ..)
    | with_reducible apply after (updPlace ..)
    | with_reducible apply after (endDropClaim ..)
    | with_reducible apply after (callDropped ..)
    | with_reducible apply after (announceAvailable ..)
    | decide

theorem dropAtStand (v : VehicleIx) (st : StandIx) (id : RollId) (s : State) : Moves [.ltu, .flags, .rolls, .calls, .vehicles, .places, .stands] s (s.dropAtStand v st id) := by
  unfold State.dropAtStand
  repeat' first
    | with_reducible exact .refl _
    | with_reducible refine .ite ?_ ?_
    | with_reducible apply after (raise ..)
    | with_reducible apply after (setDown ..)
    | with_reducible apply after (armStandby ..)
    | with_reducible apply after (endDropClaim ..)
    | with_reducible apply after (standbyPlanCheck ..)
    | with_reducible apply after (removeCall ..)
    | with_reducible apply after (callDropped ..)
    | decide

theorem countWriteOff (r : Roll) (s : State) : Moves [.scu] s (s.countWriteOff r) := by
  unfold State.countWriteOff
  repeat' first
    | with_reducible exact .refl _
    | with_reducible refine .ite ?_ ?_
    | with_reducible apply after (updRun ..)
    | with_reducible apply after (updPress ..)
    | with_reducible apply after (addScrapped ..)
    | decide
    | split

theorem dropAtWaste (v : VehicleIx) (id : RollId) (s : State) : Moves [.scu, .rolls, .vehicles, .calls, .places, .ltu, .flags] s (s.dropAtWaste v id) := by
  unfold State.dropAtWaste
  repeat' first
    | with_reducible exact .refl _
    | with_reducible refine .ite ?_ ?_
    | with_reducible apply after (countWriteOff ..)
    | with_reducible apply after (freeSlot ..)
    | with_reducible apply after (setLoad ..)
    | with_reducible apply after (callRollRemoved ..)
    | decide
    | split

theorem dropCarried (v : VehicleIx) (l : Loc) (id : RollId) (s : State) : Moves [.ltu, .flags, .rolls, .calls, .vehicles, .places, .stands, .scu] s (s.dropCarried v l id) := by
  unfold State.dropCarried
  repeat' first
    | with_reducible exact .refl _
    | with_reducible refine .ite ?_ ?_
    | with_reducible apply after (dropAtPlace ..)
    | with_reducible apply after (dropAtStand ..)
    | with_reducible apply after (setDown ..)
    | with_reducible apply after (callDropped ..)
    | with_reducible apply after (dropAtWaste ..)
    | decide
    | split

theorem correctForDrop (v : VehicleIx) (id : RollId) (status : RollStatus) (s : State) : Moves [.places, .ltu, .flags, .vehicles, .stands, .rolls, .calls, .fdu] s (s.correctForDrop v id status) := by
  unfold State.correctForDrop
  repeat' first
    | with_reducible exact .refl _
    | with_reducible refine .ite ?_ ?_
    | with_reducible apply after (clearLocation ..)
    | with_reducible apply after (carryOn ..)
    | with_reducible apply after (raiseField ..)
    | with_reducible apply after (tellArm ..)
    | decide

theorem dropUnknown (v : VehicleIx) (id : RollId) (s : State) : Moves [.rolls, .calls, .vehicles, .places, .ltu, .flags] s (s.dropUnknown v id) := by
  unfold State.dropUnknown
  repeat' first
    | with_reducible exact .refl _
    | with_reducible refine .ite ?_ ?_
    | with_reducible apply after (shedLoad ..)
    | with_reducible apply after (setLoad ..)
    | with_reducible apply after (raise ..)
    | decide

theorem dropTaken (kind : Byte) (number : Half) (id : RollId) (v : VehicleIx) (s : State) : Moves [.rolls, .calls, .vehicles, .places, .ltu, .flags, .stands, .fdu, .scu] s (s.dropTaken kind number id v) := by
  unfold State.dropTaken
  repeat' first
    | with_reducible exact .refl _
    | with_reducible refine .ite ?_ ?_
    | with_reducible apply after (shedLoad ..)
    | with_reducible apply after (setLoad ..)
    | with_reducible apply after (raise ..)
    | with_reducible apply after (readRoll ..)
    | with_reducible apply after (readLoc ..)
    | with_reducible apply after (dropUnknown ..)
    | with_reducible apply after (correctForDrop ..)
    | with_reducible apply after (dropCarried ..)
    | decide
    | split
    | dsimp only

theorem announceRoll (t : Telegram) (s : State) : Moves [.rolls] s (s.announceRoll t).2 := by
  unfold State.announceRoll
  repeat' first
    | with_reducible exact .refl _
    | with_reducible refine .ite ?_ ?_
    | with_reducible apply after (answered ..)
    | with_reducible apply after (setSlot ..)
    | decide
    | split
    | dsimp only

theorem rollRequest {m : List Part} (act : Nat → Roll → State → Result × State) (t : Telegram) (s : State)
    (h : ∀ k r u, Moves m u (act k r u).2) (hm : [.rolls, .calls, .vehicles, .places, .ltu, .flags].all (m.contains ·) = true) :
    Moves m s (State.rollRequest act t s).2 := by
  have h1 : Moves m s (s.readRoll (reqRoll t)) := (readRoll ..).mono hm
  unfold State.rollRequest
  dsimp only
  repeat' split
  all_goals first
    | exact .refl _
    | exact h1.trans (h _ _ _)
    | exact h1

theorem reserveRoll (k : Nat) (r : Roll) (s : State) : Moves [.places, .ltu, .flags, .rolls] s (s.reserveRoll k r).2 := by
  unfold State.reserveRoll
  repeat' first
    | with_reducible exact .refl _
    | with_reducible refine .ite ?_ ?_
    | with_reducible apply after (readPlace ..)
    | with_reducible apply after (setSlot ..)
    | decide
    | split
    | dsimp only

theorem releaseRoll (k : Nat) (r : Roll) (s : State) : Moves [.rolls, .places, .ltu, .flags, .calls] s (s.releaseRoll k r).2 := by
  unfold State.releaseRoll
  repeat' first
    | with_reducible exact .refl _
    | with_reducible refine .ite ?_ ?_
    | with_reducible apply after (setSlot ..)
    | with_reducible apply after (announceAvailable ..)
    | decide
    | split

theorem holdRoll (_k : Nat) (r : Roll) (s : State) : Moves [.rolls, .calls, .vehicles, .places, .ltu, .flags] s (s.holdRoll _k r).2 := by
  unfold State.holdRoll
  repeat' first
    | with_reducible exact .refl _
    | with_reducible refine .ite ?_ ?_
    | with_reducible apply after (addHold ..)
    | decide

theorem unholdRoll (k : Nat) (r : Roll) (s : State) : Moves [.rolls, .places, .ltu, .flags, .calls] s (s.unholdRoll k r).2 := by
  unfold State.unholdRoll
  repeat' first
    | with_reducible exact .refl _
    | with_reducible refine .ite ?_ ?_
    | with_reducible apply after (setSlot ..)
    | with_reducible apply after (announceAvailable ..)
    | decide

theorem removeRoll (k : Nat) (r : Roll) (s : State) : Moves [.rolls, .calls, .vehicles, .places, .ltu, .flags, .stands] s (s.removeRoll k r).2 := by
  unfold State.removeRoll
  repeat' first
    | with_reducible exact .refl _
    | with_reducible refine .ite ?_ ?_
    | with_reducible apply after (freeSlot ..)
    | with_reducible apply after (callRollRemoved ..)
    | with_reducible apply after (clearLocation ..)
    | decide
    | split

theorem blockPlace (n : Nat) (s : State) : Moves [.places, .ltu, .flags] s (s.blockPlace n).2 := by
  unfold State.blockPlace
  repeat' first
    | with_reducible exact .refl _
    | with_reducible refine .ite ?_ ?_
    | with_reducible apply after (answered ..)
    | with_reducible apply after (updPlace ..)
    | decide
    | split

theorem unblockPlace (n : Nat) (s : State) : Moves [.places, .ltu, .flags, .rolls, .calls, .vehicles] s (s.unblockPlace n).2 := by
  unfold State.unblockPlace
  repeat' first
    | with_reducible exact .refl _
    | with_reducible refine .ite ?_ ?_
    | with_reducible apply after (answered ..)
    | with_reducible apply after (readPlace ..)
    | with_reducible apply after (updPlace ..)
    | with_reducible apply after (readRoll ..)
    | with_reducible apply after (announceAvailable ..)
    | decide
    | split
    | dsimp only

theorem onPlace {m : List Part} (f : Nat → State → Answer × State) (t : Telegram) (s : State)
    (h : ∀ x u, Moves m u (f x u).2) : Moves m s (State.onPlace f t s).2 := by
  unfold State.onPlace
  split
  · exact h _ _
  · exact .refl _

theorem writePlaces (t : Telegram) (s : State) : Moves [.places, .ltu, .flags] s (s.writePlaces t).2 := by
  unfold State.writePlaces
  repeat' first
    | with_reducible exact .refl _
    | with_reducible refine .ite ?_ ?_
    | with_reducible apply after (answered ..)
    | with_reducible apply after (updPlace ..)
    | with_reducible refine .foldl ?_ fun s x => ?_
    | decide
    | split
    | dsimp only

theorem setClosedAfter {m : List Part} {a s : State} (h : Moves m a s) (hm : Part.scu ∈ m) (l : List ClosedRun)
    (hl : a.queuesFit → l.length ≤ Config.closedSlots) : Moves m a (s.setClosed l) :=
  ⟨fun p hp => Part.same_trans (h.same p hp) (by cases p <;> first | rfl | exact absurd hm hp),
    fun k => ⟨(h.fit k).1, (h.fit k).2.1, (h.fit k).2.2.1, (h.fit k).2.2.2.1, hl k⟩, h.alarm, h.tables, h.bounded, h.ordered⟩

theorem pushClosed (c : ClosedRun) (s : State) : Moves [.scu, .ltu, .flags] s (s.pushClosed c) := by
  unfold State.pushClosed
  split
  · exact (setClosed _ _ fun _ => by simp [Config.closedSlots]).mono
  · rename_i old rest hq
    split
    · have hl : s.queuesFit → rest.length + 1 ≤ Config.closedSlots := fun k => by
        have := k.2.2.2.2; rwa [hq] at this
      refine setClosedAfter ((setClosed rest s fun k => Nat.le_of_succ_le (hl k)).mono.next (raise ..)) (by decide) _ fun k => ?_
      simpa using hl k
    · exact (setClosed _ _ fun _ => by simp [Config.closedSlots] at *; omega).mono

theorem closeRun (p : PressIx) (cause : CloseCause) (s : State) : Moves [.scu, .ltu, .flags] s (s.closeRun p cause) := by
  unfold State.closeRun
  repeat' first
    | with_reducible exact .refl _
    | with_reducible refine .ite ?_ ?_
    | with_reducible apply after (pushClosed ..)
    | with_reducible apply after (setRun ..)
    | decide
    | split

theorem runStart (p : PressIx) (number edition : Nat) (s : State) : Moves [.scu, .ltu, .flags] s (s.runStart p number edition) := by
  unfold State.runStart
  repeat' first
    | with_reducible exact .refl _
    | with_reducible refine .ite ?_ ?_
    | with_reducible apply after (closeRun ..)
    | with_reducible apply after (setRun ..)
    | with_reducible apply after (updPress ..)
    | decide

theorem runGood (p : PressIx) (s : State) : Moves [.scu] s (s.runGood p) := by
  unfold State.runGood
  repeat' first
    | with_reducible exact .refl _
    | with_reducible refine .ite ?_ ?_
    | with_reducible apply after (setRun ..)
    | with_reducible apply after (updPress ..)
    | decide
    | split

theorem runEdition (p : PressIx) (edition : Nat) (s : State) : Moves [.scu] s (s.runEdition p edition) := by
  unfold State.runEdition
  repeat' first
    | with_reducible exact .refl _
    | with_reducible refine .ite ?_ ?_
    | with_reducible apply after (updRun ..)
    | decide

theorem watchRun {m : List Part} (src press : Byte) (act : PressIx → State → State) (s : State)
    (h : ∀ x u, Moves m u (act x u)) (hm : [Part.ltu, .flags].all (m.contains ·) = true) :
    Moves m s (s.watchRun src press act) := by
  unfold State.watchRun
  split
  · exact .ite (h _ _) (.refl _)
  · exact (raise ..).mono hm

theorem chargeRoll (w : Nat) (id : RollId) (s : State) : Moves [.rolls, .calls, .vehicles, .places, .ltu, .flags] s (s.chargeRoll w id) := by
  unfold State.chargeRoll
  repeat' first
    | with_reducible exact .refl _
    | with_reducible refine .ite ?_ ?_
    | with_reducible apply after (updRoll ..)
    | decide

theorem monitorFlag (p : PressIx) (old new : Monitor) (s : State) : Moves [.ltu, .flags] s (s.monitorFlag p old new) := by
  unfold State.monitorFlag
  repeat' first
    | with_reducible exact .refl _
    | with_reducible refine .ite ?_ ?_
    | with_reducible apply after (raise ..)
    | decide
    | split

theorem completeBlock (p : PressIx) (s : State) : Moves [.scu, .ltu, .flags] s (s.completeBlock p) := by
  unfold State.completeBlock
  repeat' first
    | with_reducible exact .refl _
    | with_reducible refine .ite ?_ ?_
    | with_reducible apply after (updPress ..)
    | with_reducible apply after (monitorFlag ..)
    | decide

theorem countBlock (p : PressIx) (g w : Nat) (s : State) : Moves [.scu, .ltu, .flags] s (s.countBlock p g w) := by
  unfold State.countBlock
  repeat' first
    | with_reducible exact .refl _
    | with_reducible refine .ite ?_ ?_
    | with_reducible apply after (updPress ..)
    | with_reducible apply after (completeBlock ..)
    | decide

theorem chargeWaste (p : PressIx) (c : WasteClass) (w : Nat) (s : State) : Moves [.rolls, .calls, .vehicles, .places, .ltu, .flags] s (s.chargeWaste p c w) := by
  unfold State.chargeWaste
  repeat' first
    | with_reducible exact .refl _
    | with_reducible refine .ite ?_ ?_
    | with_reducible apply after (chargeRoll ..)
    | with_reducible refine .foldl ?_ fun s x => ?_
    | decide

theorem countCopies (p : PressIx) (g w : Nat) (reason : Byte) (s : State) : Moves [.scu, .rolls, .calls, .vehicles, .places, .ltu, .flags] s (s.countCopies p g w reason) := by
  unfold State.countCopies
  repeat' first
    | with_reducible exact .refl _
    | with_reducible refine .ite ?_ ?_
    | with_reducible apply after (setRun ..)
    | with_reducible apply after (updPress ..)
    | with_reducible apply after (chargeWaste ..)
    | with_reducible apply after (countBlock ..)
    | decide
    | split

theorem countSplice (p : PressIx) (st : StandIx) (new : RollId) (s : State) : Moves [.scu] s (s.countSplice p st new) := by
  unfold State.countSplice
  repeat' first
    | with_reducible exact .refl _
    | with_reducible refine .ite ?_ ?_
    | with_reducible apply after (updRun ..)
    | with_reducible apply after (updPress ..)
    | decide

theorem openBreak (p : PressIx) (id : RollId) (s : State) : Moves [.scu] s (s.openBreak p id) := by
  unfold State.openBreak
  repeat' first
    | with_reducible exact .refl _
    | with_reducible refine .ite ?_ ?_
    | with_reducible apply after (updPress ..)
    | decide

theorem countRollBreak (p : PressIx) (id : RollId) (s : State) : Moves [.rolls, .calls, .vehicles, .places, .ltu, .flags] s (s.countRollBreak p id) := by
  unfold State.countRollBreak
  repeat' first
    | with_reducible exact .refl _
    | with_reducible refine .ite ?_ ?_
    | with_reducible apply after (updRoll ..)
    | with_reducible apply after (addHold ..)
    | with_reducible apply after (raiseField ..)
    | decide
    | split
    | dsimp only

theorem countBreak (p : PressIx) (id : RollId) (s : State) : Moves [.scu, .rolls, .calls, .vehicles, .places, .ltu, .flags] s (s.countBreak p id) := by
  unfold State.countBreak
  repeat' first
    | with_reducible exact .refl _
    | with_reducible refine .ite ?_ ?_
    | with_reducible apply after (updRun ..)
    | with_reducible apply after (countRollBreak ..)
    | with_reducible apply after (openBreak ..)
    | decide

theorem countMissed (p : PressIx) (id : RollId) (s : State) : Moves [.scu, .rolls, .calls, .vehicles, .places, .ltu, .flags] s (s.countMissed p id) := by
  unfold State.countMissed
  repeat' first
    | with_reducible exact .refl _
    | with_reducible refine .ite ?_ ?_
    | with_reducible apply after (updRun ..)
    | with_reducible apply after (countBreak ..)
    | decide

theorem takeRun (x : Telegram) (s : State) : Moves [.scu] s (s.takeRun x).2 := by
  unfold State.takeRun
  split
  · rename_i c rest hq
    exact setClosed rest s fun k => by have := k.2.2.2.2; rw [hq] at this; exact Nat.le_of_succ_le this
  · exact .refl _

theorem actedOn {m : List Part} (st : StandIx) (act : PressIx → State → State) (s : State)
    (h : ∀ x u, Moves m u (act x u)) (hm : [Part.ltu, .flags].all (m.contains ·) = true) :
    Moves m s (s.actedOn st act) := by
  unfold State.actedOn
  split
  · exact h _ _
  · exact (raise ..).mono hm

theorem acceptDiameter (st : StandIx) (id : RollId) (D lr : Nat) (s : State) : Moves [.rolls, .calls, .vehicles, .places, .ltu, .flags, .stands, .fdu] s (s.acceptDiameter st id D lr) := by
  unfold State.acceptDiameter
  repeat' first
    | with_reducible exact .refl _
    | with_reducible refine .ite ?_ ?_
    | with_reducible apply after (updRoll ..)
    | with_reducible apply after (updStand ..)
    | with_reducible apply after (computeTs ..)
    | with_reducible apply after (starveTest ..)
    | with_reducible apply after (lateTest ..)
    | decide

theorem implausibleDiameter (st : StandIx) (id : RollId) (s : State) : Moves [.stands, .rolls, .calls, .vehicles, .places, .ltu, .flags] s (s.implausibleDiameter st id) := by
  unfold State.implausibleDiameter
  repeat' first
    | with_reducible exact .refl _
    | with_reducible refine .ite ?_ ?_
    | with_reducible apply after (updStand ..)
    | with_reducible apply after (addHold ..)
    | with_reducible apply after (raise ..)
    | decide

theorem judgeDiameter (st : StandIx) (id : RollId) (diameter : Nat) (s : State) : Moves [.rolls, .calls, .vehicles, .places, .ltu, .flags, .stands, .fdu] s (s.judgeDiameter st id diameter) := by
  unfold State.judgeDiameter
  repeat' first
    | with_reducible exact .refl _
    | with_reducible refine .ite ?_ ?_
    | with_reducible apply after (readRoll ..)
    | with_reducible apply after (implausibleDiameter ..)
    | with_reducible apply after (acceptDiameter ..)
    | decide
    | split
    | dsimp only

theorem standTaken (d : Half) (x y : RollId) (st : StandIx) (s : State) :
    Moves [.stands, .rolls, .calls, .vehicles, .places, .ltu, .flags, .fdu] s (s.standTaken d x y st) := by
  unfold State.standTaken
  refine actedOn _ _ _ (fun p u => ?_) (by decide)
  dsimp only
  have h1 : Moves [.stands, .rolls, .calls, .vehicles, .places, .ltu, .flags, .fdu] u (u.updStand st fun x => { x with lastTick := u.clock }) := (updStand ..).mono
  generalize (u.updStand st fun x => { x with lastTick := u.clock }) = w at h1 ⊢
  split
  · split
    · exact .ite h1 (h1.next (judgeDiameter ..))
    · exact h1
  · exact h1.next (raise ..)

theorem turnArms (p : PressIx) (st : StandIx) (new : RollId) (s : State) : Moves [.rolls, .calls, .vehicles, .places, .ltu, .flags, .stands] s (s.turnArms p st new) := by
  unfold State.turnArms
  repeat' first
    | with_reducible exact .refl _
    | with_reducible refine .ite ?_ ?_
    | with_reducible apply after (updRoll ..)
    | with_reducible apply after (updStand ..)
    | decide
    | split

theorem spliceAccepted (p : PressIx) (st : StandIx) (new : RollId) (s : State) : Moves [.rolls, .calls, .vehicles, .places, .ltu, .flags, .stands, .scu, .fdu] s (s.spliceAccepted p st new) := by
  unfold State.spliceAccepted
  repeat' first
    | with_reducible exact .refl _
    | with_reducible refine .ite ?_ ?_
    | with_reducible apply after (readActive ..)
    | with_reducible apply after (readRoll ..)
    | with_reducible apply after (turnArms ..)
    | with_reducible apply after (computeTs ..)
    | with_reducible apply after (countSplice ..)
    | with_reducible apply after (armEmptied ..)
    | with_reducible apply after (starveTest ..)
    | with_reducible apply after (lateTest ..)
    | with_reducible apply after (heldRunning ..)
    | decide

theorem spliceMadeTaken (x y : RollId) (st : StandIx) (s : State) :
    Moves [.rolls, .calls, .vehicles, .places, .ltu, .flags, .stands, .scu, .fdu] s (s.spliceMadeTaken x y st) :=
  actedOn _ _ _ (fun _ _ => .ite (spliceAccepted ..).mono (raise ..).mono) (by decide)

theorem spliceMissedTaken (x y : RollId) (st : StandIx) (s : State) :
    Moves [.scu, .rolls, .calls, .vehicles, .places, .ltu, .flags] s (s.spliceMissedTaken x y st) :=
  actedOn _ _ _ (fun _ _ => .ite (countMissed ..).mono (raise ..).mono) (by decide)

theorem spliceUnlistedTaken (st : StandIx) (s : State) : Moves [.ltu, .flags] s (s.spliceUnlistedTaken st) :=
  actedOn _ _ _ (fun _ _ => .refl _) (by decide)

theorem breakTaken (x : RollId) (st : StandIx) (s : State) :
    Moves [.scu, .rolls, .calls, .vehicles, .places, .ltu, .flags] s (s.breakTaken x st) :=
  actedOn _ _ _ (fun _ _ => .ite (countBreak ..).mono (raise ..).mono) (by decide)

theorem clearReady (p : Option PressIx) (s : State) : Moves [.pls] s (s.clearReady p) := by
  unfold State.clearReady
  repeat' first
    | with_reducible exact .refl _
    | with_reducible refine .ite ?_ ?_
    | with_reducible apply after (setReady ..)
    | decide
    | split

theorem moveStand (st : StandIx) (p : Option PressIx) (s : State) : Moves [.stands, .pls] s (s.moveStand st p) := by
  unfold State.moveStand
  repeat' first
    | with_reducible exact .refl _
    | with_reducible refine .ite ?_ ?_
    | with_reducible apply after (updStand ..)
    | with_reducible apply after (clearReady ..)
    | decide

theorem writeStands (t : Telegram) (s : State) : Moves [.stands, .pls] s (s.writeStands t).2 := by
  unfold State.writeStands
  repeat' first
    | with_reducible exact .refl _
    | with_reducible refine .ite ?_ ?_
    | with_reducible apply after (answered ..)
    | with_reducible apply after (moveStand ..)
    | with_reducible refine .foldl ?_ fun s x => ?_
    | decide
    | split
    | dsimp only

theorem clearStarved (t : Telegram) (s : State) : Moves [.fdu] s (s.clearStarved t).2 := by
  unfold State.clearStarved
  repeat' first
    | with_reducible exact .refl _
    | with_reducible refine .ite ?_ ?_
    | with_reducible apply after (answered ..)
    | with_reducible apply after (setStarved ..)
    | decide
    | split
    | dsimp only

theorem slewed_le {E sample step b : Nat} (h : E ≤ b) (k : sample ≤ b) : slewed E sample step ≤ b := by
  unfold slewed
  split <;> split <;> omega

theorem handOver (p : PressIx) (old : Nat) (s : State) : Moves [.stands, .rolls, .calls, .vehicles, .places, .ltu, .flags, .fdu] s (s.handOver p old) := by
  unfold State.handOver
  repeat' first
    | with_reducible exact .refl _
    | with_reducible refine .ite ?_ ?_
    | with_reducible apply after (computeTs ..)
    | with_reducible apply after (starveTest ..)
    | with_reducible refine .foldl ?_ fun s x => ?_
    | decide

theorem applySample (p : PressIx) (v : Nat) (s : State) (hv : v ≤ Config.maxSpeed) :
    Moves [.speeds, .stands, .rolls, .calls, .vehicles, .places, .ltu, .flags, .fdu] s (s.applySample p v) :=
  ((updSpeed _ _ s fun k => slewed_le (k.1 p) hv).mono).next (handOver ..)

theorem setSource (p : PressIx) (x : SpeedSource) (s : State) : Moves [.speeds] s (s.setSource p x) :=
  updSpeed _ _ s fun k => k.1 p

theorem setEstimate (p : PressIx) (x : SpeedSource) (v : Nat) (s : State) (h : s.speedsBounded → v ≤ Config.maxSpeed) :
    Moves [.speeds] s (s.setEstimate p x v) :=
  updSpeed _ _ s h

theorem enterHold (p : PressIx) (s : State) : Moves [.speeds, .ltu, .flags] s (s.enterHold p) :=
  (updSpeed _ _ s fun k => k.1 p).mono.next (raise ..)

theorem driveTaken (v : Nat) (p : PressIx) (s : State) : Moves [.speeds, .stands, .rolls, .calls, .vehicles, .places, .ltu, .flags, .fdu] s (s.driveTaken v p) := by
  unfold State.driveTaken
  dsimp only
  have h1 : Moves [.speeds, .stands, .rolls, .calls, .vehicles, .places, .ltu, .flags, .fdu] s (s.updSpeed p fun x => { x with lastDrive := s.clock, driveSilence := 0 }) :=
    (updSpeed _ _ s fun k => k.1 p).mono
  generalize (s.updSpeed p fun x => { x with lastDrive := s.clock, driveSilence := 0 }) = s1 at h1 ⊢
  split
  · exact h1
  · exact (h1.next (setSource ..)).next (applySample _ _ _ (Nat.min_le_left ..))

theorem takeInterval (p : PressIx) (n : Nat) (s : State) : Moves [.speeds] s (s.takeInterval p n) :=
  updSpeed _ _ s fun k => k.1 p

theorem sampleOf_le {s : State} {p : PressIx} {n v : Nat} (h : s.sampleOf? p n = some v) : v ≤ Config.maxSpeed := by
  unfold State.sampleOf? at h
  split at h
  · cases h
  · cases h
  · split at h
    · cases h; exact Nat.min_le_left ..
    · cases h

theorem countSpeed (p : PressIx) (n : Nat) (s : State) : Moves [.speeds, .stands, .rolls, .calls, .vehicles, .places, .ltu, .flags, .fdu] s (s.countSpeed p n) := by
  unfold State.countSpeed
  dsimp only
  have h1 : ∀ f : Speed → Speed, (∀ x, (f x).estimate = x.estimate) → Moves [.speeds, .stands, .rolls, .calls, .vehicles, .places, .ltu, .flags, .fdu] s (s.updSpeed p f) :=
    fun f hf => (updSpeed _ _ s fun k => by rw [hf]; exact k.1 p).mono
  have h2 := h1 (fun x => { x with lastCount := s.clock, countSilence := 0 }) fun _ => rfl
  generalize s.updSpeed p (fun x => { x with lastCount := s.clock, countSilence := 0 }) = s1 at h2 ⊢
  have h3 : Moves [.speeds, .stands, .rolls, .calls, .vehicles, .places, .ltu, .flags, .fdu] s
      (if ((s1.takeInterval p n).speed p).source.held = true then (s1.takeInterval p n).setSource p .trackSecondary
        else s1.takeInterval p n) :=
    .ite ((h2.next (takeInterval ..)).next (setSource ..)) (h2.next (takeInterval ..))
  split
  · rename_i _ v _ hv
    exact h3.next (applySample _ _ _ (sampleOf_le hv))
  · exact h3

theorem countTaken (good waste : Nat) (reason : Byte) (p : PressIx) (s : State) : Moves [.scu, .rolls, .calls, .vehicles, .places, .ltu, .flags, .speeds, .stands, .fdu] s (s.countTaken good waste reason p) := by
  unfold State.countTaken
  repeat' first
    | with_reducible exact .refl _
    | with_reducible refine .ite ?_ ?_
    | with_reducible apply after (countCopies ..)
    | with_reducible apply after (countSpeed ..)
    | decide

theorem driveFallsSilent (p : PressIx) (s : State) : Moves [.speeds, .ltu, .flags] s (s.driveFallsSilent p) := by
  unfold State.driveFallsSilent
  repeat' first
    | with_reducible exact .refl _
    | with_reducible refine .ite ?_ ?_
    | with_reducible apply after (setSource ..)
    | with_reducible apply after (enterHold ..)
    | decide

theorem countFallsSilent (p : PressIx) (s : State) : Moves [.speeds, .ltu, .flags] s (s.countFallsSilent p) := by
  have h1 : Moves [.speeds, .ltu, .flags] s (s.updSpeed p fun x => { x with interval := none }) :=
    (updSpeed _ _ s fun k => k.1 p).mono
  exact .ite (h1.next (enterHold ..)) h1

theorem holdoverLimit (p : PressIx) (s : State) : Moves [.speeds, .stands, .rolls, .calls, .vehicles, .places, .ltu, .flags, .fdu] s (s.holdoverLimit p) :=
  (((setEstimate _ _ _ s fun k => k.2.1 p).mono).next (raise ..)).next (handOver ..)

theorem onPress {m : List Part} (f : PressIx → State → Answer × State) (t : Telegram) (s : State)
    (h : ∀ x u, Moves m u (f x u).2) : Moves m s (State.onPress f t s).2 := by
  unfold State.onPress
  split
  · exact h _ _
  · exact .refl _

theorem forceSpeed (v : Nat) (p : PressIx) (s : State) : Moves [.speeds, .stands, .rolls, .calls, .vehicles, .places, .ltu, .flags, .fdu] s (s.forceSpeed v p).2 :=
  (setEstimate _ _ _ s fun _ => Nat.min_le_left ..).mono.next (handOver ..)

theorem freeSpeed (p : PressIx) (s : State) : Moves [.speeds, .ltu, .flags] s (s.freeSpeed p).2 := by
  unfold State.freeSpeed
  repeat' first
    | with_reducible exact .refl _
    | with_reducible refine .ite ?_ ?_
    | with_reducible apply after (setSource ..)
    | with_reducible apply after (enterHold ..)
    | with_reducible apply after (answered ..)
    | decide
    | split
    | dsimp only

theorem setNextPress (p : PressIx) (x : PressPart) (s : State) (h : x.nominal ≤ Config.maxSpeed) :
    Moves [.pls] s (s.setNextPress p x) :=
  ⟨fun p hp => by cases p <;> first | rfl | exact absurd (by decide) hp, id, id, id,
    fun k => ⟨k.1, k.2.1, fun q => by
      have := k.2.2 q
      simp only [State.setNextPress, Fin.getElem_fin, Vector.getElem_set] at this ⊢
      split <;> assumption⟩, id⟩

theorem setNextStand (st : StandIx) (x : StandPart) (s : State) : Moves [.pls] s (s.setNextStand st x) :=
  ⟨fun p hp => by cases p <;> first | rfl | exact absurd (by decide) hp, id, id, id, id, id⟩

theorem applyPlanWrite (body : List Byte) (w : PlanIndex × Nat) (s : State) : Moves [.pls] s (s.applyPlanWrite body w) := by
  unfold State.applyPlanWrite
  split
  · exact (setNextPress _ _ _ (by simp [PressPart.clamp, clampTo, Config.maxSpeed])).next (clearReady ..)
  · exact (setNextStand ..).next (clearReady ..)

theorem writePlanNext (t : Telegram) (s : State) : Moves [.pls] s (s.writePlanNext t).2 := by
  unfold State.writePlanNext
  repeat' first
    | with_reducible exact .refl _
    | with_reducible refine .ite ?_ ?_
    | with_reducible apply after (answered ..)
    | with_reducible apply after (applyPlanWrite ..)
    | with_reducible refine .foldl ?_ fun s x => ?_
    | decide
    | split
    | dsimp only

theorem planReady (p : PressIx) (s : State) : Moves [.pls] s (s.planReady p).2 := by
  unfold State.planReady
  repeat' first
    | with_reducible exact .refl _
    | with_reducible refine .ite ?_ ?_
    | with_reducible apply after (setReady ..)
    | with_reducible apply after (answered ..)
    | decide

theorem copyBank (p : PressIx) (s : State) : Moves [.pls] s (s.copyBank p) :=
  ⟨fun p hp => by cases p <;> first | rfl | exact absurd (by decide) hp, id, id, id,
    fun k => ⟨k.1, fun q => by
      have h1 := k.2.1 q
      have h2 := k.2.2 p
      simp only [State.copyBank, State.activePress, Fin.getElem_fin, Vector.getElem_set] at h1 h2 ⊢
      split <;> assumption, k.2.2⟩, id⟩

theorem leaveLead (st : StandIx) (s : State) : Moves [.stands, .calls, .rolls, .vehicles, .places, .ltu, .flags] s (s.leaveLead st) := by
  unfold State.leaveLead
  repeat' first
    | with_reducible exact .refl _
    | with_reducible refine .ite ?_ ?_
    | with_reducible apply after (updStand ..)
    | with_reducible apply after (removeCall ..)
    | decide

theorem planCheck (st : StandIx) (s : State) : Moves [.rolls, .calls, .vehicles, .places, .ltu, .flags] s (s.planCheck st) := by
  unfold State.planCheck
  repeat' first
    | with_reducible exact .refl _
    | with_reducible refine .ite ?_ ?_
    | with_reducible apply after (readActive ..)
    | with_reducible apply after (readNamed ..)
    | with_reducible apply after (raise ..)
    | decide

theorem alignStand (st : StandIx) (s : State) : Moves [.stands, .ltu, .flags, .fdu, .calls, .rolls, .vehicles, .places] s (s.alignStand st) := by
  unfold State.alignStand
  repeat' first
    | with_reducible exact .refl _
    | with_reducible refine .ite ?_ ?_
    | with_reducible apply after (updStand ..)
    | with_reducible apply after (starveTest ..)
    | with_reducible apply after (readActive ..)
    | with_reducible apply after (lateTest ..)
    | with_reducible apply after (planCheck ..)
    | decide

theorem judgeCall (st : StandIx) (s : State) : Moves [.rolls, .calls, .vehicles, .places, .ltu, .flags] s (s.judgeCall st) := by
  unfold State.judgeCall
  repeat' first
    | with_reducible exact .refl _
    | with_reducible refine .ite ?_ ?_
    | with_reducible apply after (readRoll ..)
    | with_reducible apply after (reopenCall ..)
    | decide
    | split
    | dsimp only

theorem swapBank (p : PressIx) (s : State) : Moves [.pls, .stands, .calls, .rolls, .vehicles, .places, .ltu, .flags, .fdu] s (s.swapBank p) := by
  unfold State.swapBank
  repeat' first
    | with_reducible exact .refl _
    | with_reducible refine .ite ?_ ?_
    | with_reducible apply after (copyBank ..)
    | with_reducible apply after (leaveLead ..)
    | with_reducible apply after (alignStand ..)
    | with_reducible apply after (judgeCall ..)
    | with_reducible apply after (clearNoRoll ..)
    | with_reducible apply after (startSearch ..)
    | with_reducible apply after (computeTs ..)
    | with_reducible refine .foldl ?_ fun s x => ?_
    | decide

theorem askSwap (p : PressIx) (s : State) : Moves [.pls, .stands, .calls, .rolls, .vehicles, .places, .ltu, .flags, .fdu] s (s.askSwap p) := by
  unfold State.askSwap
  repeat' first
    | with_reducible exact .refl _
    | with_reducible refine .ite ?_ ?_
    | with_reducible apply after (swapBank ..)
    | with_reducible apply after (raise ..)
    | decide

theorem planSwap (p : PressIx) (s : State) : Moves [.pls, .stands, .calls, .rolls, .vehicles, .places, .ltu, .flags, .fdu] s (s.planSwap p).2 := by
  unfold State.planSwap
  repeat' first
    | with_reducible exact .refl _
    | with_reducible refine .ite ?_ ?_
    | with_reducible apply after (askSwap ..)
    | with_reducible apply after (answered ..)
    | decide

theorem readCandidate (k : Nat) (s : State) : Moves [.rolls, .calls, .vehicles, .places, .ltu, .flags] s (s.readCandidate k) := by
  unfold State.readCandidate
  repeat' first
    | with_reducible exact .refl _
    | with_reducible refine .ite ?_ ?_
    | with_reducible apply after (readSlot ..)
    | with_reducible apply after (readPlace ..)
    | decide
    | split
    | dsimp only

theorem searchStep (s : State) : Moves [.rolls, .calls, .vehicles, .places, .ltu, .flags] s (s.searchStep) := by
  unfold State.searchStep
  repeat' first
    | with_reducible exact .refl _
    | with_reducible refine .ite ?_ ?_
    | with_reducible apply after (readCandidate ..)
    | with_reducible apply after (setSearch ..)
    | decide
    | split

theorem restartSearch (st : StandIx) (s : State) : Moves [.calls] s (s.restartSearch st) := by
  unfold State.restartSearch
  repeat' first
    | with_reducible exact .refl _
    | with_reducible refine .ite ?_ ?_
    | with_reducible apply after (setSearch ..)
    | decide

theorem reserveFor (c : Call) (k p : Nat) (s : State) : Moves [.rolls, .calls, .ltu, .flags, .vou, .vehicles, .places, .routes, .tcu, .stands] s (s.reserveFor c k p) := by
  unfold State.reserveFor
  repeat' first
    | with_reducible exact .refl _
    | with_reducible refine .ite ?_ ?_
    | with_reducible apply after (setSlot ..)
    | with_reducible apply after (setSearch ..)
    | with_reducible apply after (selectCall ..)
    | with_reducible apply after (tryCalls ..)
    | with_reducible apply after (startSearch ..)
    | decide
    | split

theorem foundNothing (c : Call) (s : State) : Moves [.calls, .ltu, .flags] s (s.foundNothing c) := by
  unfold State.foundNothing
  repeat' first
    | with_reducible exact .refl _
    | with_reducible refine .ite ?_ ?_
    | with_reducible apply after (putCall ..)
    | with_reducible apply after (setSearch ..)
    | with_reducible apply after (raise ..)
    | with_reducible apply after (startSearch ..)
    | decide

theorem searchComplete (s : State) : Moves [.rolls, .calls, .vehicles, .places, .ltu, .flags, .vou, .routes, .tcu, .stands] s (s.searchComplete) := by
  unfold State.searchComplete
  repeat' first
    | with_reducible exact .refl _
    | with_reducible refine .ite ?_ ?_
    | with_reducible apply after (readCandidate ..)
    | with_reducible apply after (reserveFor ..)
    | with_reducible apply after (restartSearch ..)
    | with_reducible apply after (foundNothing ..)
    | decide
    | split
    | dsimp only

theorem judgeOverdue (st : StandIx) (s : State) : Moves [.calls, .ltu, .flags] s (s.judgeOverdue st) := by
  unfold State.judgeOverdue
  repeat' first
    | with_reducible exact .refl _
    | with_reducible refine .ite ?_ ?_
    | with_reducible apply after (putCall ..)
    | with_reducible apply after (raise ..)
    | decide
    | split

theorem deadReckon (st : StandIx) (s : State) : Moves [.rolls, .calls, .vehicles, .places, .ltu, .flags, .stands, .fdu] s (s.deadReckon st) := by
  unfold State.deadReckon
  repeat' first
    | with_reducible exact .refl _
    | with_reducible refine .ite ?_ ?_
    | with_reducible apply after (updRoll ..)
    | with_reducible apply after (updStand ..)
    | with_reducible apply after (starveTest ..)
    | decide
    | split

theorem predictStand (s : State) (st : StandIx) :
    Moves [.calls, .ltu, .flags, .rolls, .vehicles, .places, .stands, .fdu] s (s.predictStand st) :=
  ((((judgeOverdue ..).mono).next (deadReckon ..)).next (lateTest ..)).next (computeTs ..)

theorem predict (s : State) : Moves [.calls, .ltu, .flags, .rolls, .vehicles, .places, .stands, .fdu] s s.predict := by
  unfold State.predict
  exact .foldl (.refl _) fun s x => (predictStand ..).mono

theorem goAutonomous (s : State) : Moves [.mode, .ltu, .flags, .vou, .vehicles, .places, .routes, .tcu, .stands, .calls, .rolls] s (s.goAutonomous) := by
  unfold State.goAutonomous
  repeat' first
    | with_reducible exact .refl _
    | with_reducible refine .ite ?_ ?_
    | with_reducible apply after (setMode ..)
    | with_reducible apply after (raise ..)
    | with_reducible apply after (tryCalls ..)
    | decide

theorem announceCall (st : StandIx) (s : State) : Moves [.rolls, .calls, .vehicles, .places, .ltu, .flags] s (s.announceCall st) := by
  unfold State.announceCall
  repeat' first
    | with_reducible exact .refl _
    | with_reducible refine .ite ?_ ?_
    | with_reducible apply after (readRoll ..)
    | with_reducible apply after (sendCall ..)
    | decide
    | split
    | dsimp only

theorem resume (x0 : Telegram) (s : State) : Moves [.mode, .sfu, .rolls, .calls, .vehicles, .places, .ltu, .flags] s (s.resume x0).2 := by
  unfold State.resume
  repeat' first
    | with_reducible exact .refl _
    | with_reducible refine .ite ?_ ?_
    | with_reducible apply after (setMode ..)
    | with_reducible apply after (setLinkCount ..)
    | with_reducible apply after (announceCall ..)
    | with_reducible apply after (answered ..)
    | with_reducible refine .foldl ?_ fun s x => ?_
    | decide
    | split

theorem rising_writtenNodes (ws : List (Nat × NodeWrite)) : ∀ {nd : List (Nat × NodeEntry)}, Table.rising nd = true →
    Table.rising (writtenNodes ws nd) = true := by
  unfold writtenNodes
  induction ws with
  | nil => exact id
  | cons w r ih =>
    intro nd h
    refine ih ?_
    dsimp only
    split
    · exact Table.rising_insert _ _ h
    · exact Table.rising_erase _ h

theorem rising_writtenRoutes (ws : List (Nat × RouteWrite)) : ∀ {rs : List (Nat × Route)}, Table.rising rs = true →
    Table.rising (writtenRoutes ws rs) = true := by
  unfold writtenRoutes
  induction ws with
  | nil => exact id
  | cons w r ih =>
    intro rs h
    refine ih ?_
    dsimp only
    split
    · exact Table.rising_insert _ _ h
    · exact Table.rising_erase _ h

theorem writeNodes (t : Telegram) (s : State) : Moves [.nd] s (s.writeNodes t).2 := by
  have h : ∀ ws : List (Nat × NodeWrite), Moves [.nd] s { s with nd := writtenNodes ws s.nd } := fun ws =>
    ⟨fun p hp => by cases p <;> first | rfl | exact absurd (by decide) hp, id, id,
      fun k => by
        simp only [State.tablesWf, Bool.and_eq_true] at k ⊢
        exact ⟨k.1, rising_writtenNodes ws k.2⟩, id, id⟩
  unfold State.writeNodes
  dsimp only
  repeat' split
  all_goals first
    | exact .refl _
    | exact h _

theorem writeSegments (t : Telegram) (s : State) : Moves [.tcu] s (s.writeSegments t).2 := by
  unfold State.writeSegments
  repeat' first
    | with_reducible exact .refl _
    | with_reducible refine .ite ?_ ?_
    | with_reducible apply after (answered ..)
    | with_reducible apply after (updSeg ..)
    | with_reducible refine .foldl ?_ fun s x => ?_
    | decide
    | split
    | dsimp only

theorem readKept (written : List Nat) (s : State) : Moves [.routes, .ltu, .flags] s (s.readKept written) := by
  unfold State.readKept
  repeat' first
    | with_reducible exact .refl _
    | with_reducible refine .ite ?_ ?_
    | with_reducible apply after (freeBadRoute ..)
    | with_reducible refine .foldl ?_ fun s x => ?_
    | decide

theorem writeRoutes (t : Telegram) (s : State) : Moves [.routes, .ltu, .flags] s (s.writeRoutes t).2 := by
  have h : ∀ (ws : List (Nat × RouteWrite)) (l : List Nat) (u : State),
      Moves [.routes] u { u with tmc := { u.tmc with routes := writtenRoutes ws u.tmc.routes, badRoutes := l } } :=
    fun ws l u => ⟨fun p hp => by cases p <;> first | rfl | exact absurd (by decide) hp, id, id,
      fun k => by
        simp only [State.tablesWf, Bool.and_eq_true] at k ⊢
        exact ⟨⟨⟨k.1.1.1, rising_writtenRoutes ws k.1.1.2⟩, k.1.2⟩, k.2⟩, id, id⟩
  have r : ∀ l, Moves [.routes, .ltu, .flags] s (s.readKept l) := fun l => readKept l s
  unfold State.writeRoutes
  dsimp only
  repeat' split
  all_goals first
    | exact .refl _
    | exact r _
    | exact (r _).next (h _ _ _)

theorem setSetting (f base : Nat) (g : SpeedSettings → SpeedSettings) (s : State) : Moves [.fdu] s (s.setSetting f base g) := by
  unfold State.setSetting
  repeat' first
    | with_reducible exact .refl _
    | with_reducible refine .ite ?_ ?_
    | with_reducible apply after (updSettings ..)
    | decide
    | split

theorem setHall (f v : Nat) (s : State) : Moves [.sfu, .tcu, .vou, .fdu] s (s.setHall f v) := by
  have lit : ∀ u, (∀ p, p ∉ [Part.sfu, .tcu, .vou, .fdu] → p.same s u) → u.queuesFit = s.queuesFit →
      u.alarmFollows = s.alarmFollows → u.tablesWf = s.tablesWf → u.speedsBounded = s.speedsBounded →
      u.callsOrdered = s.callsOrdered → Moves [.sfu, .tcu, .vou, .fdu] s u := fun u h1 h2 h3 h4 h5 h6 =>
    ⟨h1, fun k => h2 ▸ k, fun k => h3 ▸ k, fun k => h4 ▸ k, fun k => h5 ▸ k, fun k => h6 ▸ k⟩
  have set : ∀ n b g, Moves [.sfu, .tcu, .vou, .fdu] s (s.setSetting n b g) := fun n b g => (setSetting n b g s).mono
  unfold State.setHall
  refine .ite (lit _ ?_ rfl rfl rfl rfl rfl) (.ite (lit _ ?_ rfl rfl rfl rfl rfl) (.ite (lit _ ?_ rfl rfl rfl rfl rfl)
    (.ite (lit _ ?_ rfl rfl rfl rfl rfl) (.ite (lit _ ?_ rfl rfl rfl rfl rfl) (.ite (lit _ ?_ rfl rfl rfl rfl rfl)
    (.ite (lit _ ?_ rfl rfl rfl rfl rfl) (.ite ?_ (.ite (set ..) (.ite (set ..) (.ite (set ..) (set ..)))))))))))
  case refine_8 =>
    split
    · exact (updZone ..).mono
    · exact .refl _
  all_goals
    intro p hp
    cases p <;> first | rfl | exact absurd (by decide) hp

theorem writeHall (t : Telegram) (s : State) : Moves [.sfu, .tcu, .vou, .fdu] s (s.writeHall t).2 := by
  unfold State.writeHall
  repeat' first
    | with_reducible exact .refl _
    | with_reducible refine .ite ?_ ?_
    | with_reducible apply after (answered ..)
    | with_reducible apply after (setHall ..)
    | with_reducible refine .foldl ?_ fun s x => ?_
    | decide
    | split
    | dsimp only

theorem readRecord (code i : Nat) (s : State) : Moves [.routes, .ltu, .flags, .places, .rolls, .calls, .vehicles] s (s.readRecord code i) := by
  unfold State.readRecord
  repeat' first
    | with_reducible exact .refl _
    | with_reducible refine .ite ?_ ?_
    | with_reducible apply after (freeBadRoute ..)
    | with_reducible apply after (readPlace ..)
    | with_reducible apply after (readSlot ..)
    | decide
    | split

theorem readTable (t : Telegram) (s : State) : Moves [.routes, .ltu, .flags, .places, .rolls, .calls, .vehicles] s (s.readTable t).2 := by
  unfold State.readTable
  repeat' first
    | with_reducible exact .refl _
    | with_reducible refine .ite ?_ ?_
    | with_reducible apply after (answered ..)
    | with_reducible apply after (readRecord ..)
    | with_reducible refine .foldl ?_ fun s x => ?_
    | decide
    | split
    | dsimp only

theorem startVehicles (s : State) : Moves [.vehicles, .ltu, .flags] s (s.startVehicles) := by
  unfold State.startVehicles
  repeat' first
    | with_reducible exact .refl _
    | with_reducible refine .ite ?_ ?_
    | with_reducible apply after (mapVehicles ..)
    | with_reducible apply after (sendHold ..)
    | with_reducible refine .foldl ?_ fun s x => ?_
    | decide

theorem startSpeeds (s : State) : Moves [.speeds] s s.startSpeeds := mapSpeeds _ s fun _ h => h

theorem startHall (s : State) : Moves [.mode, .sfu, .speeds, .fdu, .vehicles, .places, .routes, .ltu, .flags, .tcu, .stands, .calls, .rolls] s s.startHall := by
  unfold State.startHall
  have h1 : Moves [.mode, .sfu, .speeds, .fdu, .vehicles, .places, .routes, .ltu, .flags, .tcu, .stands, .calls, .rolls] s ((((s.setMode .normal).setLinkCount 0).startVehicles).startSpeeds.setPrediction 0) :=
    (((((setMode ..).mono).next (setLinkCount ..)).next (startVehicles ..)).next (startSpeeds ..)).next (setPrediction ..)
  exact .foldl (.foldl h1 fun u x => (computeTs ..).mono) fun u x => (forward ..).mono

theorem start (x : Telegram) (s : State) : Moves [.mode, .sfu, .speeds, .fdu, .vehicles, .places, .routes, .ltu, .flags, .tcu, .stands, .calls, .rolls] s (s.start x).2 := by
  unfold State.start
  split
  · have h := startHall s
    generalize s.startHall = u at h ⊢
    exact h
  · exact .refl _

theorem unloseVehicles (s : State) : Moves [.vehicles, .tcu, .ltu, .flags] s s.unloseVehicles := by
  unfold State.unloseVehicles
  exact .foldl (.refl _) fun u x => (updVehicle ..).mono.next (leaveLostSets ..)

theorem dropReservations (which : Owner → Bool) (s : State) : Moves [.rolls, .calls, .vehicles, .places, .ltu, .flags] s (s.dropReservations which) := by
  unfold State.dropReservations
  repeat' first
    | with_reducible exact .refl _
    | with_reducible refine .ite ?_ ?_
    | with_reducible apply after (readSlot ..)
    | with_reducible apply after (storeReserved ..)
    | with_reducible refine .foldl ?_ fun s x => ?_
    | decide

theorem emptyCalls (s : State) : Moves [.calls] s s.emptyCalls :=
  (setCalls [] s fun _ => List.Pairwise.nil).next (setSearch ..)

theorem config (x : Telegram) (s : State) : Moves [.mode, .vehicles, .tcu, .ltu, .flags, .calls, .rolls, .places, .due] s (s.config x).2 := by
  unfold State.config
  split
  · exact .refl _
  · split
    · exact .refl _
    · exact (((((setMode ..).mono).next (unloseVehicles ..)).next (emptyCalls ..)).next (dropReservations ..)).next (setDue ..)

theorem dropPlaceClaims (s : State) : Moves [.places, .ltu, .flags] s s.dropPlaceClaims := by
  have h : ∀ u : State, Moves [.places] u
      { u with tmc := { u.tmc with places := Table.mapKeep {} (fun x => { x with claim := none }) u.tmc.places } } := fun u =>
    ⟨fun p hp => by cases p <;> first | rfl | exact absurd (by decide) hp, id, id,
      fun k => by
        simp only [State.tablesWf, Bool.and_eq_true] at k ⊢
        exact ⟨⟨⟨⟨k.1.1.1.1, Table.wf_mapKeep _ (Table.wf_iff.1 k.1.1.1.2).1⟩, k.1.1.2⟩, k.1.2⟩, k.2⟩, id, id⟩
  unfold State.dropPlaceClaims
  exact (Moves.foldl (.refl _) fun _ _ => readPlace ..).next (h _)

theorem restartTables (s : State) :
    Moves [.rolls, .calls, .vehicles, .places, .ltu, .flags, .tcu] s s.restartTables := by
  have h : ∀ u : State, Moves [.tcu] u { u with
      tcu := { u.tcu with
        segments := Table.mapKeep {} (fun x => { x with holders := [], waiters := [] }) u.tcu.segments
        zones := mapVec (fun z => { z with lost := 0, intruders := 0 }) u.tcu.zones } } := fun u =>
    ⟨fun p hp => by cases p <;> first | rfl | exact absurd (by decide) hp, id, id,
      fun k => by
        simp only [State.tablesWf, Bool.and_eq_true] at k ⊢
        exact ⟨⟨k.1.1, Table.wf_mapKeep _ (Table.wf_iff.1 k.1.2).1⟩, k.2⟩, id, id⟩
  unfold State.restartTables
  exact ((dropReservations ..).mono.next (dropPlaceClaims ..)).next (h _)

theorem restartFeed (s : State) : Moves [.stands, .speeds, .calls, .fdu] s s.restartFeed := by
  unfold State.restartFeed
  dsimp only
  have h1 : Moves [.stands, .speeds, .calls, .fdu] s
      ((s.mapStands fun x => { x with claim := none, ts := Config.unbounded }).mapSpeeds State.restartSpeed).emptyCalls :=
    ((mapStands ..).mono.next (mapSpeeds _ _ fun _ _ => Nat.zero_le _)).next (emptyCalls ..)
  generalize ((s.mapStands fun x => { x with claim := none, ts := Config.unbounded }).mapSpeeds
    State.restartSpeed).emptyCalls = u at h1 ⊢
  exact h1.trans ⟨fun p hp => by cases p <;> first | rfl | exact absurd (by decide) hp, id, id, id, id, id⟩

theorem restartScu (s : State) : Moves [.scu] s s.restartScu :=
  ⟨fun p hp => by cases p <;> first | rfl | exact absurd (by decide) hp,
    fun k => ⟨k.1, k.2.1, k.2.2.1, k.2.2.2.1, Nat.zero_le _⟩, id, id, id, id⟩

theorem restartQueues (s : State) : Moves [.ltu] s s.restartQueues :=
  setLtu _ s fun _ => ⟨by simp [List.length_take], Nat.zero_le _, Nat.zero_le _⟩

theorem restartHall (s : State) : Moves [.ltu, .vehicles, .rolls, .places, .tcu, .stands, .speeds, .calls, .fdu, .scu, .flags, .sfu, .mode, .due] s s.restartHall := by
  unfold State.restartHall
  dsimp only
  have h1 : Moves [.ltu, .vehicles, .rolls, .places, .tcu, .stands, .speeds, .calls, .fdu, .scu, .flags, .sfu, .mode, .due] s ((s.restartQueues.mapVehicles State.restartVehicle).restartTables.restartFeed.restartScu) :=
    (((((restartQueues ..).mono).next (mapVehicles ..)).next (restartTables ..)).next (restartFeed ..)).next (restartScu ..)
  generalize (s.restartQueues.mapVehicles State.restartVehicle).restartTables.restartFeed.restartScu = s1 at h1 ⊢
  refine h1.trans ?_
  exact ⟨fun p hp => by cases p <;> first | rfl | exact absurd (by decide) hp, id, fun _ => rfl, id, id, id⟩

theorem restart (x0 : Telegram) (s : State) : Moves [.ltu, .vehicles, .rolls, .places, .tcu, .stands, .speeds, .calls, .fdu, .scu, .flags, .sfu, .mode, .due] s (s.restart x0).2 := by
  unfold State.restart
  repeat' first
    | with_reducible exact .refl _
    | with_reducible refine .ite ?_ ?_
    | with_reducible apply after (restartHall ..)
    | with_reducible apply after (answered ..)
    | decide

theorem repartition (z : Sizes) (t : Telegram) (s : State) :
    Moves [.nd, .tcu, .vehicles, .vou, .rolls, .places, .routes, .sizes, .stands, .speeds, .calls, .fdu, .scu, .pls, .mode, .sfu,
      .mga, .due] s (s.repartition z t) :=
  ⟨fun p hp => by cases p <;> first | rfl | exact absurd (by decide) hp,
    fun k => ⟨k.1, k.2.1, k.2.2.1, k.2.2.2.1, Nat.zero_le _⟩, id, fun _ => rfl,
    fun _ => (by unfold State.speedsBounded; decide : State.reset.speedsBounded), fun _ => List.Pairwise.nil⟩

theorem partitionHall (t : Telegram) (s : State) : Moves [.mode, .vehicles, .tcu, .ltu, .flags, .calls, .rolls, .places, .due, .nd, .vou, .routes, .sizes, .stands, .speeds, .fdu, .scu, .pls, .sfu, .mga] s (s.partitionHall t) := by
  unfold State.partitionHall
  repeat' first
    | with_reducible exact .refl _
    | with_reducible refine .ite ?_ ?_
    | with_reducible apply after (config ..)
    | with_reducible apply after (reply ..)
    | with_reducible apply after (repartition ..)
    | decide

theorem clearingDone (s : State) :
    Moves [.rolls, .places, .routes, .mode, .mga, .ltu, .flags] s s.clearingDone := by
  have h1 : Moves [.rolls, .places, .routes, .mode, .mga, .ltu, .flags] s { s with
      tmc := { sizes := s.tmc.sizes }
      sfu := { s.sfu with mode := .config }
      mga := { s.mga with partitionWaiting := none } } :=
    ⟨fun p hp => by cases p <;> first | rfl | exact absurd (by decide) hp, id, id,
      fun k => by
        simp only [State.tablesWf, Bool.and_eq_true] at k ⊢
        exact ⟨⟨by decide, k.1.2⟩, k.2⟩, id, id⟩
  unfold State.clearingDone
  split
  · dsimp only
    split
    · exact h1.next (reply ..)
    · exact h1
  · exact .refl _

theorem flags_foldl (l : List Flag) (g : Flag → FlagRec → FlagRec) (s : State) :
    ∃ x, l.foldl (fun s f => s.updFlag f (g f)) s = { s with sfu := { s.sfu with flags := x } } := by
  induction l generalizing s with
  | nil => exact ⟨s.sfu.flags, rfl⟩
  | cons f r ih =>
    obtain ⟨x, hx⟩ := ih (s.updFlag f (g f))
    exact ⟨x, hx⟩

theorem clearFlags (t : Telegram) (s : State) : Moves [.flags] s (s.clearFlags t).2 := by
  unfold State.clearFlags
  dsimp only
  repeat' split
  all_goals first
    | exact .refl _
    | exact driven _ _ s

theorem setMasks (t : Telegram) (s : State) : Moves [.flags] s (s.setMasks t).2 := by
  unfold State.setMasks
  dsimp only
  split
  · exact .refl _
  · obtain ⟨x, hx⟩ := flags_foldl Flag.all (fun f r => { r with masked := setHas (u32 t.body 1) f.ix.val }) s
    simp only [State.answered, hx]
    exact driven _ _ s

theorem setTime (t : Telegram) (s : State) : Moves [.clock] s (s.setTime t).2 := by
  unfold State.setTime
  repeat' first
    | with_reducible exact .refl _
    | with_reducible refine .ite ?_ ?_
    | with_reducible apply after (setClock ..)
    | with_reducible apply after (answered ..)
    | decide

theorem tickRunning (s : State) : Moves [.vehicles, .speeds, .fdu] s s.tickRunning := by
  unfold State.tickRunning
  have h1 : Moves [.vehicles, .speeds, .fdu] s (s.mapVehicles Vehicle.tick) := (mapVehicles ..).mono
  have h2 : Moves [.vehicles, .speeds, .fdu] s ((s.mapVehicles Vehicle.tick).mapSpeeds Speed.tick) :=
    h1.next (mapSpeeds _ _ fun _ h => h)
  exact .ite (h2.next (setPrediction ..)) (.refl _)

theorem tickLink (s : State) : Moves [.sfu] s (s.tickLink) := by
  unfold State.tickLink
  repeat' first
    | with_reducible exact .refl _
    | with_reducible refine .ite ?_ ?_
    | with_reducible apply after (setLinkCount ..)
    | decide

theorem tickPulse (s : State) : Moves [.flags] s s.tickPulse := driven _ _ s

theorem hallTick (s : State) : Moves [.clock, .vehicles, .speeds, .fdu, .sfu, .flags, .due] s s.hallTick :=
  (((((setClock ..).mono).next (tickRunning ..)).next (tickLink ..)).next (tickPulse ..)).next (setDue ..)

theorem pulseEnd (s : State) : Moves [.flags] s s.pulseEnd := .ite (driven _ _ s) (.refl _)

theorem runWatched (t : Telegram) (s : State) :
    Moves [.scu, .ltu, .flags, .pls, .stands, .calls, .rolls, .vehicles, .places, .fdu] s (s.runWatched t) := by
  unfold State.runWatched
  dsimp only
  split
  · exact watchRun _ _ _ _ (fun _ _ => (runStart ..).mono) (by decide)
  · exact watchRun _ _ _ _ (fun _ _ => (runGood ..).mono) (by decide)
  · exact watchRun _ _ _ _ (fun _ _ => (runEdition ..).mono.next (askSwap ..)) (by decide)
  · exact watchRun _ _ _ _ (fun _ _ => (closeRun ..).mono) (by decide)
  · exact (mismatch ..).mono

theorem runReceived (t : Telegram) (s : State) : Moves [.scu, .ltu, .flags, .pls, .stands, .calls, .rolls, .vehicles, .places, .fdu] s (s.runReceived t) := by
  unfold State.runReceived
  repeat' first
    | with_reducible exact .refl _
    | with_reducible refine .ite ?_ ?_
    | with_reducible apply after (runWatched ..)
    | with_reducible apply after (placeNormal ..)
    | with_reducible apply after (mismatch ..)
    | decide

theorem receiveUpper (t : Telegram) (s : State) :
    Moves [.sfu, .mga, .ltu, .flags, .rolls, .calls, .vehicles, .places, .routes, .stands, .tcu, .vou, .scu, .pls, .fdu] s (s.receiveUpper t) := by
  unfold State.receiveUpper
  exact .ite (upperGate _ _ _ (fun _ => (moveTaken ..).mono) (by decide))
    (.ite (upperGate _ _ _ (fun _ => (runReceived ..).mono) (by decide))
      (upperGate _ _ _ (fun _ => (placeNormal ..).mono) (by decide)))

theorem floorTaken (t : Telegram) (e : NodeEntry) (s : State) :
    Moves [.vehicles, .tcu, .ltu, .flags, .vou, .places, .routes, .stands, .calls, .rolls, .fdu, .scu, .speeds]
      s (State.floorTaken t e s) := by
  unfold State.floorTaken
  repeat' split
  all_goals first
    | exact .refl _
    | exact forVehicle _ _ _ fun _ _ => (vposTaken ..).mono
    | exact forVehicle _ _ _ fun _ _ => (pickTaken ..).mono
    | exact forVehicle _ _ _ fun _ _ => (dropTaken ..).mono
    | exact forVehicle _ _ _ fun _ _ => (vdoneTaken ..).mono
    | exact forStand _ _ _ fun _ _ => (standTaken ..).mono
    | exact forStand _ _ _ fun _ _ => (spliceMadeTaken ..).mono
    | exact forStand _ _ _ fun _ _ => (spliceMissedTaken ..).mono
    | exact forStand _ _ _ fun _ _ => (spliceUnlistedTaken ..).mono
    | exact forStand _ _ _ fun _ _ => (breakTaken ..).mono
    | exact forPress _ _ _ fun _ _ => (driveTaken ..).mono
    | exact forPress _ _ _ fun _ _ => (countTaken ..).mono

theorem receiveFloor (t : Telegram) (s : State) :
    Moves [.ltu, .flags, .vehicles, .tcu, .vou, .places, .routes, .stands, .calls, .rolls, .fdu, .scu, .speeds] s (s.receiveFloor t) :=
  floorGate _ _ _ (fun _ _ => (floorTaken ..).mono) (by decide)

theorem receive (port : Port) (rx : Receive) (s : State) : Moves [.ltu, .flags, .sfu, .mga, .rolls, .calls, .vehicles, .places, .routes, .stands, .tcu, .vou, .scu, .pls, .fdu, .speeds] s (s.receive port rx) := by
  unfold State.receive
  repeat' first
    | with_reducible exact .refl _
    | with_reducible refine .ite ?_ ?_
    | with_reducible apply after (badReceived ..)
    | with_reducible apply after (receiveUpper ..)
    | with_reducible apply after (receiveFloor ..)
    | decide
    | split

theorem transmit (q : Port) (s : State) : Moves [.ltu] s (s.transmit q) := by
  unfold State.transmit
  split
  · split
    · rename_i hq
      exact setLtu _ s fun k => ⟨k.1, k.2.1, by have := k.2.2.1; rw [hq] at this; exact Nat.le_of_succ_le this⟩
    · exact .refl _
  · split
    · rename_i hq
      exact setLtu _ s fun k => ⟨by have := k.1; rw [hq] at this; exact Nat.le_of_succ_le this, k.2.1, k.2.2.1⟩
    · rename_i hq
      exact setLtu _ s fun k => ⟨k.1, by have := k.2.1; rw [hq] at this; exact Nat.le_of_succ_le this, k.2.2.1⟩
    · exact .refl _

theorem placeRestartHold (s : State) : Moves [.ltu] s s.placeRestartHold := by
  unfold State.placeRestartHold
  split
  · split
    · rename_i h
      exact setLtu _ s fun k => ⟨by simpa [Nat.succ_le_iff] using h, k.2.1, k.2.2.1⟩
    · exact .refl _
  · exact .refl _

/-! ### Commands -/

/-- Every part but the queue of commands, the straps and the clock. -/
def working : List Part :=
  [.flags, .ltu, .nd, .tcu, .vehicles, .vou, .rolls, .places, .routes, .sizes, .stands, .speeds, .calls, .fdu, .scu,
    .pls, .mode, .sfu, .mga, .due]

theorem awake {m : List Part} {f : State → State} {s t : State} (h : Moves m s (f s))
    (e : Machine.awake f s = .next t) : Moves m s t := by
  unfold Machine.awake at e
  injection e with e
  subst e
  exact .ite (.refl _) h

theorem execHallTick {s t : State} (e : Machine.exec .hallTick s = .next t) : Moves (.clock :: working) s t :=
  awake (hallTick s).mono e

theorem execSetTime {s t : State} (e : Machine.exec .setTime s = .next t) : Moves (.clock :: working) s t :=
  awake (serveRequest _ _ s (fun _ _ => (setClock ..).mono) (by decide)) e

theorem clearZoneRequest {x : Option ZoneIx} (u : State) : Moves working u
    (match x with
      | some z => (u.clearZone z).answered .ok
      | none => u.answered .badIndex).2 := by
  split
  · rename_i z
    exact (clearZone z u).mono (m := working)
  · exact .refl _

/-- What a command can do: every command but RESET, RST_PIN_LOW, HALL_TICK and SET_TIME leaves the straps, the queue of
commands and the clock, and keeps the invariants. -/
theorem exec {i : Instr} {s t : State} (h1 : i ≠ .reset) (h2 : i ≠ .rstPinLow) (h3 : i ≠ .hallTick) (h4 : i ≠ .setTime)
    (e : Machine.exec i s = .next t) : Moves working s t := by
  cases i
  case reset => exact absurd rfl h1
  case clearingPassComplete => exact awake ((clearingDone s).mono) e
  case hallTick => exact absurd rfl h3
  case badReceive => exact awake ((receive _ _ s).mono) e
  case upperForward => exact awake ((receiveUpper _ s).mono) e
  case mgmtRequestReceived => exact awake ((receiveUpper _ s).mono) e
  case moveNew => exact awake (upperGate _ _ s (fun _ => (moveTaken ..).mono) (by decide)) e
  case moveCancel => exact awake (upperGate _ _ s (fun _ => (moveTaken ..).mono) (by decide)) e
  case runStart => exact awake (runGate _ _ s (fun _ => watchRun _ _ _ _ (fun _ _ => (runStart ..).mono) (by decide)) (by decide)) e
  case runGood => exact awake (runGate _ _ s (fun _ => watchRun _ _ _ _ (fun _ _ => (runGood ..).mono) (by decide)) (by decide)) e
  case runEdition => exact awake (runGate _ _ s (fun _ => watchRun _ _ _ _ (fun _ _ => (runEdition ..).mono.next (askSwap ..)) (by decide)) (by decide)) e
  case runEnd => exact awake (runGate _ _ s (fun _ => watchRun _ _ _ _ (fun _ _ => (closeRun ..).mono) (by decide)) (by decide)) e
  case floorUnacted => exact awake ((receiveFloor _ s).mono) e
  case vpos => exact awake (floorGate _ _ s (fun e u => forVehicle _ e u fun _ _ => (vposTaken ..).mono) (by decide)) e
  case vloadPick => exact awake (floorGate _ _ s (fun e u => forVehicle _ e u fun _ _ => (pickTaken ..).mono) (by decide)) e
  case vloadDrop => exact awake (floorGate _ _ s (fun e u => forVehicle _ e u fun _ _ => (dropTaken ..).mono) (by decide)) e
  case vdone => exact awake (floorGate _ _ s (fun e u => forVehicle _ e u fun _ _ => (vdoneTaken ..).mono) (by decide)) e
  case standReport => exact awake (floorGate _ _ s (fun e u => forStand _ e u fun _ _ => (standTaken ..).mono) (by decide)) e
  case spliceMade => exact awake (floorGate _ _ s (fun e u => forStand _ e u fun _ _ => (spliceMadeTaken ..).mono) (by decide)) e
  case spliceMissed => exact awake (floorGate _ _ s (fun e u => forStand _ e u fun _ _ => (spliceMissedTaken ..).mono) (by decide)) e
  case webBreak => exact awake (floorGate _ _ s (fun e u => forStand _ e u fun _ _ => (breakTaken ..).mono) (by decide)) e
  case drive => exact awake (floorGate _ _ s (fun e u => forPress _ e u fun _ _ => (driveTaken ..).mono) (by decide)) e
  case count => exact awake (floorGate _ _ s (fun e u => forPress _ e u fun _ _ => (countTaken ..).mono) (by decide)) e
  case transmitStart => exact awake ((transmit _ s).mono) e
  case restartHoldPlaced => exact awake ((placeRestartHold s).mono) e
  case alarmPulseEnd => exact awake ((pulseEnd s).mono) e
  case vehicleLost => exact awake (onDue _ _ _ s (fun _ => (loseVehicle ..).mono) (by decide)) e
  case lostRetryHold => exact awake (onDue _ _ _ s (fun _ => (retryHold ..).mono) (by decide)) e
  case driveSilent => exact awake (onDue _ _ _ s (fun _ => (driveFallsSilent ..).mono) (by decide)) e
  case countSilent => exact awake (onDue _ _ _ s (fun _ => (countFallsSilent ..).mono) (by decide)) e
  case holdoverLimit => exact awake (onDue _ _ _ s (fun _ => (holdoverLimit ..).mono) (by decide)) e
  case predictionTick => exact awake (onDue _ _ _ s (fun _ => (predict ..).mono) (by decide)) e
  case searchStep => exact awake ((searchStep s).mono) e
  case searchComplete => exact awake ((searchComplete s).mono) e
  case linkFallenSilent => exact awake (onDue _ _ _ s (fun _ => (goAutonomous ..).mono) (by decide)) e
  case mread => exact awake (serveRequest _ _ s (fun _ _ => (readTable ..).mono) (by decide)) e
  case mwriteNodes => exact awake (serveRequest _ _ s (fun _ _ => (writeNodes ..).mono) (by decide)) e
  case mwriteVehicles => exact awake (serveRequest _ _ s (fun _ _ => (writeVehicles ..).mono) (by decide)) e
  case mwriteSegments => exact awake (serveRequest _ _ s (fun _ _ => (writeSegments ..).mono) (by decide)) e
  case mwriteRoutes => exact awake (serveRequest _ _ s (fun _ _ => (writeRoutes ..).mono) (by decide)) e
  case mwritePlaces => exact awake (serveRequest _ _ s (fun _ _ => (writePlaces ..).mono) (by decide)) e
  case rollAnnounce => exact awake (serveRequest _ _ s (fun _ _ => (announceRoll ..).mono) (by decide)) e
  case mwriteStands => exact awake (serveRequest _ _ s (fun _ _ => (writeStands ..).mono) (by decide)) e
  case mwritePlanNext => exact awake (serveRequest _ _ s (fun _ _ => (writePlanNext ..).mono) (by decide)) e
  case mwriteHall => exact awake (serveRequest _ _ s (fun _ _ => (writeHall ..).mono) (by decide)) e
  case mwriteOther => exact awake (serveRequest _ _ s (fun _ _ => .refl _) (by decide)) e
  case start => exact awake (serveRequest _ _ s (fun _ _ => (start ..).mono) (by decide)) e
  case config => exact awake (serveRequest _ _ s (fun _ _ => (config ..).mono) (by decide)) e
  case restart => exact awake (serveRequest _ _ s (fun _ u => Moves.mono (restartHall u)) (by decide)) e
  case partition => exact awake (takeRequest _ _ s (fun _ _ => (partitionHall ..).mono) (by decide)) e
  case resume => exact awake (serveRequest _ _ s (fun _ _ => (resume ..).mono) (by decide)) e
  case planReady => exact awake (serveRequest _ _ s (fun t u => onPress _ t u fun _ _ => (planReady ..).mono) (by decide)) e
  case planSwap => exact awake (serveRequest _ _ s (fun t u => onPress _ t u fun _ _ => (planSwap ..).mono) (by decide)) e
  case clearFlags => exact awake (serveRequest _ _ s (fun _ _ => (clearFlags ..).mono) (by decide)) e
  case setMasks => exact awake (serveRequest _ _ s (fun _ _ => (setMasks ..).mono) (by decide)) e
  case setTime => exact absurd rfl h4
  case blockPlace => exact awake (serveRequest _ _ s (fun t u => onPlace _ t u fun _ _ => (blockPlace ..).mono) (by decide)) e
  case unblockPlace => exact awake (serveRequest _ _ s (fun t u => onPlace _ t u fun _ _ => (unblockPlace ..).mono) (by decide)) e
  case blockSegment => exact awake (serveRequest _ _ s (fun _ _ => (blockSegment ..).mono) (by decide)) e
  case unblockSegment => exact awake (serveRequest _ _ s (fun _ _ => (unblockSegment ..).mono) (by decide)) e
  case vehicleOff => exact awake (serveRequest _ _ s (fun t u => onVehicle _ t u fun _ _ => (turnOff ..).mono) (by decide)) e
  case vehicleOn => exact awake (serveRequest _ _ s (fun t u => onVehicle _ t u fun _ _ => (turnOn ..).mono) (by decide)) e
  case writeOff => exact awake (serveRequest _ _ s (fun t u => onVehicle _ t u fun _ _ => (writeOffVehicle ..).mono) (by decide)) e
  case clearZone => exact awake (serveRequest _ _ s (fun _ u => clearZoneRequest u) (by decide)) e
  case speedForce => exact awake (serveRequest _ _ s (fun t u => onPress _ t u fun _ _ => (forceSpeed ..).mono) (by decide)) e
  case speedFree => exact awake (serveRequest _ _ s (fun t u => onPress _ t u fun _ _ => (freeSpeed ..).mono) (by decide)) e
  case takeRun => exact awake (serveRequest _ _ s (fun _ _ => (takeRun ..).mono) (by decide)) e
  case clearStarved => exact awake (serveRequest _ _ s (fun _ _ => (clearStarved ..).mono) (by decide)) e
  case mrollNone => exact awake (serveRequest _ _ s (fun t u => rollRequest _ t u (fun _ _ _ => .refl _) (by decide)) (by decide)) e
  case mrollReserve => exact awake (serveRequest _ _ s (fun t u => rollRequest _ t u (fun _ _ _ => (reserveRoll ..).mono) (by decide)) (by decide)) e
  case mrollRelease => exact awake (serveRequest _ _ s (fun t u => rollRequest _ t u (fun _ _ _ => (releaseRoll ..).mono) (by decide)) (by decide)) e
  case mrollHold => exact awake (serveRequest _ _ s (fun t u => rollRequest _ t u (fun _ _ _ => (holdRoll ..).mono) (by decide)) (by decide)) e
  case mrollUnhold => exact awake (serveRequest _ _ s (fun t u => rollRequest _ t u (fun _ _ _ => (unholdRoll ..).mono) (by decide)) (by decide)) e
  case mrollRemove => exact awake (serveRequest _ _ s (fun t u => rollRequest _ t u (fun _ _ _ => (removeRoll ..).mono) (by decide)) (by decide)) e
  case rstPinLow => exact absurd rfl h2
  case badActionRequest => exact awake (serveRequest _ _ s (fun _ _ => .refl _) (by decide)) e

end Moves

end Sys2Proof.Machine
end

