-- ==== Sys2Proof/Tests/Slice0.lean ====
section
/-! SUPPORT. Tests by evaluation. Each theorem is about one step or one shared operation on a small state, and those
named witness show that the hypotheses of a statement's clause can be met together, at the ends of a range where it has
them. -/

namespace Sys2Proof.Tests

open Sys2Proof Sys2Proof.Machine

set_option maxRecDepth 200000

/-! ### Small states and telegrams -/

/-- Command i takes s to t. -/
def ran (i : Instr) (s t : State) : Bool :=
  match exec i s with
  | .next u => decide (u = t)
  | _ => false

theorem ran_next {i : Instr} {s t : State} (h : ran i s t = true) : exec i s = .next t := by
  unfold ran at h
  split at h
  · rename_i u e
    rw [e, of_decide_eq_true h]
  · cases h

/-- A part in NORMAL with collector 12 and some nodes of each kind. -/
def base : State :=
  { State.reset with
    sfu := { mode := .normal, collector := 12 }
    nd := [(1, ⟨101, .vehicle, 1, 20⟩), (2, ⟨102, .vehicle, 2, 20⟩), (3, ⟨116, .vehicle, 16, 50⟩), (4, ⟨131, .stand, 1, 0⟩),
      (5, ⟨133, .stand, 3, 0⟩), (6, ⟨154, .stand, 24, 0⟩), (7, ⟨161, .drive, 1, 0⟩), (8, ⟨171, .folder, 1, 0⟩)] }

def withMode (m : Mode) (s : State) : State := { s with sfu := { s.sfu with mode := m } }

def cfg : State := withMode .config base

/-- A request of the upper station to the part. -/
def rq (cls : Byte) (body : List Nat) : Telegram := ⟨241, 12, cls, body.map (BitVec.ofNat 8)⟩

def act (body : List Nat) : Telegram := rq 0x73 body

def wr (body : List Nat) : Telegram := rq 0x72 body

def asked (t : Telegram) (s : State) : State := { s with mga := { s.mga with queue := [t] } }

/-- The MGA executes the oldest request t by its row, which leaves u and the answer. -/
def Does (row : Row) (t : Telegram) (a : Answer) (s u : State) : Prop :=
  Ready row t [] (asked t s) ∧ ran row.command (asked t s) (u.reply t a) = true

theorem heard {k : NodeKind} {n : Nat} {dst src : Byte} {s : State}
    (h : s.pins.rstLow = false ∧ s.running = true ∧ dst ≠ s.ownAddr ∧
      (s.node? src).any (fun e => decide (e.kind = k ∧ e.subject = n)) = true) : Heard k n dst src s := by
  obtain ⟨h1, h2, h3, h4⟩ := h
  cases e : s.node? src with
  | none => rw [e] at h4; cases h4
  | some x =>
    rw [e] at h4
    exact ⟨h1, h2, h3, x, e, of_decide_eq_true h4⟩

/-- The roll of the worked example (01): 12 paper, 1,800 mm wide. -/
def aRoll (id : Nat) (st : RollStatus) : Roll :=
  { id := BitVec.ofNat 32 id, grade := 12, width := 1800, dann := 1250, core := 100, caliper := 72, dcur := 1250
    lr := 169351, status := st, announced := 412300 }

def withRolls (l : List (Nat × Roll)) (s : State) : State := { s with tmc := { s.tmc with rolls := l } }

def withRoutes (l : List (Nat × Route)) (s : State) : State := { s with tmc := { s.tmc with routes := l } }

def with1 (r : Roll) : State := withRolls [(1, r)] base

/-- A vehicle with another record. -/
def veh (v : VehicleIx) (f : Vehicle → Vehicle) (s : State) : State := s.setVehicle v (f (s.vehicle v))

def idle (v : VehicleIx) : State → State := veh v fun x => { x with status := .idle }

def seg (n cap zone : Nat) (s : State) : State := s.setSeg n { capacity := cap, zone := zone }

def sp (lead : Bool) : StandPart := { lead := lead, grade := 12, width := 1800, minLength := 2000, splice := 160, callLead := 900 }

def pp : PressPart :=
  { inUse := true, cutoff := 560, nominal := 700, block := 2000, warn := 15, alarm := 30, hyst := 3, spliceLen := 300
    breakLen := 500, breakLimit := 2 }

def usePress (p : PressIx) (s : State) : State :=
  { s with pls := { s.pls with activePress := s.pls.activePress.set p pp } }

def lead (st : StandIx) (s : State) : State :=
  { s with pls := { s.pls with activeStand := s.pls.activeStand.set st (sp true) } }

def stand (st : StandIx) (f : Stand → Stand) (s : State) : State := s.setStand st (f (s.stand st))

def speedOf (p : PressIx) (f : Speed → Speed) (s : State) : State := s.setSpeed p (f (s.speed p))

def withCalls (l : List Call) (s : State) : State := { s with fdu := { s.fdu with calls := l } }

def longBody (n : Nat) : List Byte := List.replicate n 0

def fullUpper (n : Nat) : State := { base with ltu := { upper := List.replicate n ⟨12, 1, 0, []⟩ } }

theorem passed {dst : Byte} {s : State} (h : s.pins.rstLow = false ∧ s.sfu.mode ≠ .startUp ∧ dst ≠ s.ownAddr) :
    Passed dst s := h

def otherClass : Telegram := ⟨9, 12, 0x80, [7]⟩

def fullNormal (n : Nat) : State := { base with ltu := { normal := List.replicate n otherClass } }

/-- The body of a MOVE behind its kind byte. -/
def mv (tag addr pk pn dk dn roll : Nat) : List Byte :=
  [tag, addr, pk, pn / 256, pn, dk, dn / 256, dn].map (BitVec.ofNat 8) ++ be32 roll

def road (a b : Loc) (l : List Nat) : Route := ⟨a, b, l⟩

/-- A travel order to dock 1. -/
def travel (tag : Byte) : Order :=
  { tag := tag, source := .upper, reply := 12, pickup := ⟨.none, 0⟩, drop := ⟨.dock, 1⟩, roll := 0, progress := .toDrop }

def pressed : State := usePress 0 base

def aRun : Run := { number := 417, edition := 2, phase := .good, startTick := 0, good := 9 }

def running : State := { pressed with scu := { pressed.scu with runs := pressed.scu.runs.set 0 (some aRun) } }

/-! ### Well-formedness: a term for each check, which the check refuses -/

theorem test_wf_accepts : Instr.wf (.upperForward ⟨5, 12, 0, longBody 60⟩) = true ∧
    Instr.wf (.moveNew 101 12 (longBody 59)) = true ∧ Instr.wf (.badReceive .upper ⟨[], 3⟩) = true ∧
    Instr.wf (.badReceive .floor ⟨[1], 0⟩) = true ∧ Instr.wf .start = true := by decide

theorem test_wf_refuses_long_upper : Instr.wf (.upperForward ⟨5, 12, 0, longBody 61⟩) = false := by decide

theorem test_wf_refuses_long_request : Instr.wf (.mgmtRequestReceived ⟨241, 12, 0x71, longBody 61⟩) = false := by decide

theorem test_wf_refuses_long_floor : Instr.wf (.floorUnacted ⟨12, 5, 0, longBody 61⟩) = false := by decide

theorem test_wf_refuses_long_move : Instr.wf (.moveNew 101 12 (longBody 60)) = false := by decide

theorem test_wf_refuses_long_cancel : Instr.wf (.moveCancel 101 12 (longBody 60)) = false := by decide

theorem test_wf_refuses_empty_receive : Instr.wf (.badReceive .upper ⟨[], 0⟩) = false := by decide

theorem test_no_word_spells_a_command : decodeTableWord 8 0x73 = none ∧
    State.reset.withFetchWord 8 0x73 = State.reset := by decide

/-! ### Steps, reset, the clock and the flags -/

theorem test_step_takes_front : (match step { base with pending := [.hallTick, .start] } with
    | .next t => decide (t.pending = [.start] ∧ t.clock = 1)
    | _ => false) = true := by decide

theorem test_witness_idle : State.reset.pending = [] ∧ (match step State.reset with
    | .next t => decide (t = State.reset)
    | _ => false) = true := by decide

theorem test_reset : ran .reset { base with pins := { addr := 5, msizeHigh := true, rstLow := true } }
    { State.reset with pins := { addr := 5, msizeHigh := true } } = true := by decide

def lowPin : State := { base with pins := { rstLow := true } }

theorem test_rst_pin : ran .rstPinLow { base with pins := { alarmLow := true } } lowPin = true ∧
    lowPin.pins.rstLow = true ∧ Instr.hallTick ≠ .reset ∧ Instr.hallTick ≠ .rstPinLow ∧
    ran .hallTick lowPin lowPin = true := by decide

def partitionRq : Telegram := act [4, 2, 0, 1, 0, 0, 64]

theorem test_clearing_pass : State.reset.pins.rstLow = false ∧ State.reset.sfu.mode = .startUp ∧
    State.reset.mga.partitionWaiting = none ∧
    ran .clearingPassComplete State.reset (withMode .config State.reset) = true ∧
    ran .clearingPassComplete { State.reset with mga := { partitionWaiting := some partitionRq } }
      ((withMode .config State.reset).reply partitionRq { result := .ok }) = true ∧
    ran .clearingPassComplete base base = true := by decide

theorem test_clock_wraps : ran .hallTick { State.reset with clock := 4294967295 } State.reset = true ∧
    ran .hallTick State.reset { State.reset with clock := 1 } = true := by decide

def tenth : State := { idle 0 base with fdu := { base.fdu with predictionCount := 9 } }

theorem test_tenth_tick_counts : tenth.pins.rstLow = false ∧ tenth.running = true ∧ 9 ≤ tenth.fdu.predictionCount ∧
    (match exec .hallTick tenth with
    | .next t => decide (t.fdu.predictionCount = 0 ∧ t.due = [.prediction] ∧ (t.vehicle 0).supCount = 1 ∧ (t.speed 3).age = 1)
    | _ => false) = true := by decide

theorem test_set_time : Does .setTime (act [10, 0xFF, 0xFF, 0xFF, 0xFF]) { result := .ok } cfg
    { cfg with clock := 4294967295 } := by unfold Does Ready; decide

theorem test_witness_clock_of_another_command : Instr.mread ≠ .reset ∧ Instr.mread ≠ .hallTick ∧ Instr.mread ≠ .setTime := by
  decide

/-- STAND-STARVED of stand 11, latched and not masked. -/
def starvedFlag : State := base.raise .standStarved 11

theorem test_alarm_pulse_end : starvedFlag.pins.rstLow = false ∧ starvedFlag.sfu.pulse = 0 ∧ starvedFlag.alarmLevel = true ∧
    ran .alarmPulseEnd { base with pins := { alarmLow := true } } base = true ∧
    ran .alarmPulseEnd (base.raise .wasteWarn 1) (base.raise .wasteWarn 1) = true ∧
    (base.raise .wasteWarn 1).sfu.pulse ≠ 0 := by decide

theorem test_set_masks : Does .setMasks (act [9, 0, 0, 128, 0]) { result := .ok } starvedFlag
      (State.driveAlarm (starvedFlag.updFlag .standStarved fun r => { r with masked := true })) ∧
    (State.driveAlarm (starvedFlag.updFlag .standStarved fun r => { r with masked := true })).pins.alarmLow = false := by
  unfold Does Ready; decide

theorem test_witness_set_masks_ends : (u32 (act [9, 0x3F, 0xFF, 0xFF, 0xFF]).body 1).toNat < 2 ^ 30 ∧
    formCheck (act [9, 0x3F, 0xFF, 0xFF, 0xFF]) = none ∧ rowOf (act [9, 0x3F, 0xFF, 0xFF, 0xFF]) = .setMasks := by decide

theorem test_clear_one_subject : Does .clearFlags (act [8, 16, 0, 0, 4, 0]) { result := .ok } starvedFlag
    (State.driveAlarm (starvedFlag.updFlag .standStarved fun r => { r with latched := false, subjects := 0 })) ∧
    u8 (act [8, 16, 0, 0, 4, 0]).body 1 = 16 ∧ Flag.number .standStarved = 16 := by unfold Does Ready; decide

theorem test_clear_flags_ends : Does .clearFlags (act [8, 0, 0, 0, 0, 0]) { result := .ok } base base ∧
    Does .clearFlags (act [8, 16, 1, 0, 0, 0]) { result := .badValue } base base ∧
    2 ^ Flag.subjectCount .standStarved ≤ (u32 (act [8, 16, 1, 0, 0, 0]).body 2).toNat ∧
    Does .clearFlags (act [8, 16, 0, 0xFF, 0xFF, 0xFF]) { result := .ok } base base ∧
    (u32 (act [8, 16, 0, 0xFF, 0xFF, 0xFF]).body 2).toNat < 2 ^ Flag.subjectCount .standStarved ∧
    Does .clearFlags (act [8, 28, 0, 0, 0, 0]) { result := .ok } base base ∧ Flag.subjectCount .autonomous = 0 := by
  unfold Does Ready; decide

theorem test_setting_event : (base.flag .wasteWarn).latched = false ∧ (base.flag .wasteWarn).masked = false ∧
    base.sfu.collector ≠ 0 ∧ (fullUpper 31).ltu.upper.length < 32 ∧
    ((fullUpper 31).raise .wasteWarn 1).ltu.upper.length = 32 ∧ ((fullUpper 31).raise .wasteWarn 1).sfu.pulse = 2 ∧
    32 ≤ (fullUpper 32).ltu.upper.length ∧ ((fullUpper 32).raise .standStarved 11).ltu = (fullUpper 32).ltu ∧
    (((fullUpper 32).raise .standStarved 11).flag .noticeDropped).subject = 30 := by decide

theorem test_setting_event_quiet : (starvedFlag.flag .standStarved).latched = true ∧
    (starvedFlag.raise .standStarved 24).ltu = starvedFlag.ltu ∧
    ((starvedFlag.raise .standStarved 24).flag .standStarved).subjects = 0x800400 ∧
    (State.reset.raise .standStarved 1).ltu = {} ∧ State.reset.sfu.collector = 0 := by decide

/-! ### Telegram transit -/

def readRq : Telegram := rq 0x71 [11, 0, 32, 1]

def longest : Telegram := ⟨9, 12, 0, longBody 60⟩

theorem test_good_receives : Receive.judge ⟨readRq.bytes, 0⟩ = some readRq ∧ Receive.judge ⟨longest.bytes, 0⟩ = some longest ∧
    Receive.judge ⟨(⟨9, 12, 0, []⟩ : Telegram).bytes, 0⟩ = some ⟨9, 12, 0, []⟩ := by decide

theorem test_bad_receives : Receive.judge ⟨readRq.bytes, 3⟩ = none ∧ Receive.judge ⟨readRq.bytes ++ [0], 0⟩ = none ∧
    Receive.judge ⟨[9, 12, 0, 0, 0], 0⟩ = none ∧ Receive.judge ⟨(⟨9, 12, 0, longBody 61⟩ : Telegram).bytes, 0⟩ = none ∧
    Receive.judge ⟨readRq.head ++ [0, 0], 0⟩ = none := by decide

/-- The CHECK of an empty telegram from 12 to 9, from the polynomial 8005 with preset FFFF (R30). -/
theorem test_crc_of_the_check_string : crc [0x31, 0x32, 0x33, 0x34, 0x35, 0x36, 0x37, 0x38, 0x39] = 0xAEE7 := by decide

theorem test_bad_receive_counts : Receive.judge ⟨[1], 0⟩ = none ∧
    ran (.badReceive .floor ⟨[1], 0⟩) { base with ltu := { floorErrors := 65535 } }
      (({ base with ltu := { floorErrors := 65535 } } : State).raise .lineCheck 2) = true ∧
    ran (.badReceive .upper ⟨[1], 0⟩) base (({ base with ltu := { upperErrors := 1 } } : State).raise .lineCheck 1) = true := by
  decide

theorem test_good_receive_is_taken : Receive.judge ⟨readRq.bytes, 0⟩ = some readRq ∧
    ran (.badReceive .upper ⟨readRq.bytes, 0⟩) base (asked readRq base) = true ∧
    ran (.mgmtRequestReceived readRq) base (asked readRq base) = true := by decide

/-- The receive that spells a telegram. -/
def heardAs (dst src cls : Byte) (body : List Byte) : Bool :=
  decide (Receive.judge ⟨(⟨dst, src, cls, body⟩ : Telegram).bytes, 0⟩ = some ⟨dst, src, cls, body⟩)

theorem test_witness_rows_are_receives : heardAs 101 12 0x11 (1 :: longBody 59) = true ∧ heardAs 101 12 0x11 [2] = true ∧
    heardAs 255 12 0x12 (runBody 1 1 418 1) = true ∧ heardAs 255 12 0x12 (runBody 1 2 418 1) = true ∧
    heardAs 255 12 0x12 (runBody 1 3 418 1) = true ∧ heardAs 255 12 0x12 (runBody 1 4 418 1) = true ∧
    heardAs 12 101 0x21 (vposBody 20 1 0 21) = true ∧ heardAs 12 101 0x22 (vloadBody 1 1 17 70114) = true ∧
    heardAs 12 101 0x22 (vloadBody 2 1 17 70114) = true ∧ heardAs 12 101 0x23 [61, 1] = true ∧
    heardAs 12 131 0x31 (standBody 1100 70114 0) = true ∧ heardAs 12 131 0x32 (spliceBody 1 0 70114) = true ∧
    heardAs 12 131 0x32 (spliceBody 2 0 70114) = true ∧ heardAs 12 131 0x33 (beWord 70114) = true ∧
    heardAs 12 161 0x41 (driveBody 1 750) = true ∧ heardAs 12 171 0x42 (countBody 1 11 0 0) = true := by decide

def requests (n : Nat) : State := { base with mga := { queue := List.replicate n readRq } }

theorem test_requests_join_or_are_dropped : readRq.wf = true ∧ readRq.dst = base.ownAddr ∧ (requests 3).mga.queue.length < 4 ∧
    4 ≤ (requests 4).mga.queue.length ∧ ran (.mgmtRequestReceived readRq) (requests 3) (requests 4) = true ∧
    ran (.mgmtRequestReceived readRq) (requests 4) ((requests 4).raise .mgmtOverflow 12) = true := by decide

theorem test_upper_forward : otherClass.wf = true ∧ otherClass.dst ≠ base.ownAddr ∧ otherClass.cls ≠ clsMove ∧
    otherClass.cls ≠ clsRun ∧ (fullNormal 23).ltu.normal.length < 24 ∧ 24 ≤ (fullNormal 24).ltu.normal.length ∧
    ran (.upperForward otherClass) (fullNormal 23) (fullNormal 24) = true ∧
    ran (.upperForward otherClass) (fullNormal 24) ((fullNormal 24).raise .queueOverflow 2) = true := by decide

theorem test_upper_forward_in_start_up : ran (.upperForward ⟨9, 12, 0x11, []⟩) State.reset
    { State.reset with ltu := { normal := [⟨9, 12, 0x11, []⟩] } } = true ∧ State.reset.ownAddr = 241 := by decide

theorem test_floor_unacted : ran (.floorUnacted ⟨241, 101, 0x21, []⟩) base (base.raise .floorMgmt 101) = true ∧
    ran (.floorUnacted ⟨12, 101, 0x21, []⟩) (withMode .startUp base)
      ((withMode .startUp base).placeUpper ⟨12, 101, 0x21, []⟩) = true ∧
    base.node? 99 = none ∧
    ran (.floorUnacted ⟨12, 99, 0x21, []⟩) base ((base.raise .nodeMismatch 99).placeUpper ⟨12, 99, 0x21, []⟩) = true := by
  decide

theorem test_floor_unacted_by_form : NodeKind.allows .vehicle 0x41 = false ∧ NodeKind.allows .vehicle 0x23 = true ∧
    floorLength 0x23 ≠ some 1 ∧ floorLength 0x23 = some 2 ∧
    ran (.floorUnacted ⟨12, 101, 0x41, [0, 0, 0]⟩) base
      ((base.raise .nodeMismatch 101).placeUpper ⟨12, 101, 0x41, [0, 0, 0]⟩) = true ∧
    ran (.floorUnacted ⟨12, 101, 0x23, [0]⟩) base ((base.raise .nodeMismatch 101).placeUpper ⟨12, 101, 0x23, [0]⟩) = true ∧
    ran (.floorUnacted ⟨12, 101, 0x23, [9, 1]⟩) cfg (cfg.placeUpper ⟨12, 101, 0x23, [9, 1]⟩) = true := by decide

def fullUrgent (n : Nat) : State := { base with ltu := { urgent := List.replicate n otherClass } }

theorem test_full_queues : (fullUrgent 7).placeUrgent otherClass = fullUrgent 8 ∧
    (fullUrgent 8).placeUrgent otherClass = (fullUrgent 8).raise .queueOverflow 1 ∧ (fullUrgent 8).ltu.restartHolds = [] ∧
    (fullNormal 23).placeNormal otherClass = fullNormal 24 ∧
    (fullNormal 24).placeNormal otherClass = (fullNormal 24).raise .queueOverflow 2 ∧
    (fullUpper 31).placeUpper ⟨12, 1, 0, []⟩ = fullUpper 32 ∧
    (fullUpper 32).placeUpper otherClass = (fullUpper 32).raise .queueOverflow 3 ∧
    (fullUpper 32).placeAnswer otherClass = (fullUpper 32).raise .upperOverflow 9 := by decide

theorem test_transmit_start : ran (.transmitStart .upper) (fullUpper 1)
      { base with ltu := { upperSending := some ⟨12, 1, 0, []⟩ } } = true ∧
    ran (.transmitStart .floor) { base with ltu := { urgent := [otherClass], normal := [longest] } }
      { base with ltu := { normal := [longest], floorSending := some otherClass } } = true ∧
    ran (.transmitStart .floor) { base with ltu := { normal := [longest] } }
      { base with ltu := { floorSending := some longest } } = true := by decide

theorem test_restart_hold_placed : ran .restartHoldPlaced { base with ltu := { (fullUrgent 7).ltu with restartHolds := [otherClass] } }
      (fullUrgent 8) = true ∧
    ran .restartHoldPlaced { base with ltu := { (fullUrgent 8).ltu with restartHolds := [otherClass] } }
      { base with ltu := { (fullUrgent 8).ltu with restartHolds := [otherClass] } } = true ∧
    ran .restartHoldPlaced base base = true := by decide

/-! ### Move orders -/

/-- Vehicle 1 on segment 20, with a route from its home to dock 1. -/
def yard : State :=
  idle 0 base |> seg 20 1 1 |> seg 21 1 1 |> withRoutes [(1, road ⟨.home, 1⟩ ⟨.dock, 1⟩ [20, 21])] |>
    veh 0 fun x => { x with currentSeg := 20 }

/-- The REFUSE of a MOVE NEW of vehicle 1. -/
def refuses (rest : List Byte) (r : Reason) (s : State) : Bool :=
  ran (.moveNew 101 12 rest) s (s.refuseTo 12 (u8 rest 0) 101 r)

theorem test_witness_passed : Passed 101 yard ∧ Passed 101 cfg ∧ Passed 255 base :=
  ⟨passed (by decide), passed (by decide), passed (by decide)⟩

theorem test_move_bad_format : (longBody 11).length ≠ 12 ∧
    ran (.moveNew 101 12 (longBody 11)) base ((base.refuseTo 12 0 0 .badFormat).raise .nodeMismatch 12) = true ∧
    (101 : Byte) ≠ u8 (mv 1 102 0 0 3 1 0) 1 ∧ (mv 1 102 0 0 3 1 0).length = 12 ∧
    ran (.moveCancel 101 12 (mv 1 102 0 0 3 1 0)) base ((base.refuseTo 12 1 102 .badFormat).raise .nodeMismatch 12) = true := by
  decide

theorem test_move_modes_and_vehicles : refuses (mv 1 101 0 0 3 1 0) .notRunning cfg = true ∧
    refuses (mv 1 101 0 0 3 1 0) .autonomous (withMode .autonomous base) = true ∧
    refuses (mv 1 101 0 0 3 1 0) .vehicleOff base = true ∧
    refuses (mv 1 101 0 0 3 1 0) .vehicleLost (veh 0 (fun x => { x with status := .lost }) base) = true ∧
    base.vehicleAt? 131 = none ∧ ran (.moveNew 131 12 (mv 1 131 0 0 3 1 0)) base
      (base.refuseTo 12 1 131 .unknownVehicle) = true := by decide

def queued (n : Nat) : State := veh 0 (fun x => { x with queue := List.replicate n (travel 7) }) yard

theorem test_move_tags_and_queue : refuses (mv 0 101 0 0 3 1 0) .badTag yard = true ∧
    refuses (mv 200 101 0 0 3 1 0) .badTag yard = true ∧ refuses (mv 7 101 0 0 3 1 0) .tagInUse (queued 1) = true ∧
    refuses (mv 199 101 0 0 3 1 0) .queueFull (queued 4) = true ∧ 4 ≤ ((queued 4).vehicle 0).queue.length ∧
    ∀ o ∈ ((queued 4).vehicle 0).outstanding ++ ((queued 4).vehicle 0).queue, o.tag ≠ 199 := by decide

theorem test_move_locations : refuses (mv 1 101 7 0 3 1 0) .badLocation yard = true ∧
    refuses (mv 1 101 0 0 7 1 0) .badLocation yard = true ∧ refuses (mv 1 101 0 0 3 9 0) .badLocation yard = true ∧
    yard.locationsOk 0 ⟨.none, 0⟩ ⟨.dock, 9⟩ = false ∧ yard.locationsOk 0 ⟨.none, 0⟩ ⟨.dock, 8⟩ = true ∧
    locAt (mv 1 101 7 0 3 1 0) 2 = none ∧ locAt (mv 1 101 0 0 3 9 0) 5 = some ⟨.dock, 9⟩ := by decide

theorem test_travel_order_is_forwarded : MoveAllowed 0 101 (mv 199 101 0 0 3 1 0) ⟨.none, 0⟩ ⟨.dock, 1⟩ yard ∧ yard.noParity ∧
    u32 (mv 199 101 0 0 3 1 0) 8 = 0 ∧ (yard.vehicle 0).queue = [] ∧ 0 < (yard.vehicle 0).window ∧
    yard.vehicleEntry? 0 = some ⟨101, .vehicle, 1, 20⟩ ∧ (yard.lookup ⟨.home, 1⟩ ⟨.dock, 1⟩).1 = .clear [20, 21] ∧
    yard.dropBlocked ⟨.dock, 1⟩ = false ∧ (match exec (.moveNew 101 12 (mv 199 101 0 0 3 1 0)) yard with
    | .next t => decide (t.ltu.normal = [⟨101, 12, 0x11, [1, 199, 101, 0, 0, 0, 3, 0, 1, 0, 0, 0, 0, 0, 2, 20, 21]⟩] ∧
        (t.vehicle 0).status = .busy ∧ (t.vehicle 0).claims = [⟨20, some 0⟩] ∧ (t.vehicle 0).endLoc = ⟨.dock, 1⟩)
    | _ => false) = true := by unfold MoveAllowed Passed State.noParity; decide

theorem test_travel_route_checks : refuses (mv 1 101 0 0 3 2 0) .routeMissing yard = true ∧
    (yard.lookupLegs (yard.plannedStart 0) ⟨.none, 0⟩ ⟨.dock, 2⟩).2.1 = .missing ∧
    refuses (mv 1 101 0 0 3 1 0) .routeBlocked (yard.setSeg 21 { capacity := 1, zone := 1, blocked := true }) = true := by decide

/-- Roll 80001 STORED at place 12, to go to stand 3, with both legs. -/
def store : State :=
  (withRolls [(1, aRoll 80001 (.stored 12)), (2, aRoll 80002 (.reserved 13 (.call 8)))]
    (withRoutes [(1, road ⟨.home, 1⟩ ⟨.place, 12⟩ [20]), (2, road ⟨.place, 12⟩ ⟨.stand, 3⟩ [20, 21])] yard)).setPlace 12
      { access := 20, occupant := some 80001 } |>.setPlace 13 { access := 20, occupant := some 80002 } |>
    usePress 0 |> lead 2 |> stand 2 fun x => { x with press := some 0 }

theorem test_witness_roll_order : MoveAllowed 0 101 (mv 1 101 1 12 2 3 80001) ⟨.place, 12⟩ ⟨.stand, 3⟩ store ∧ store.noParity ∧
    store.rollOk 0 80001 ⟨.place, 12⟩ = true ∧ store.reservedElsewhere 80001 ⟨.stand, 3⟩ = false ∧
    store.dropOccupied ⟨.stand, 3⟩ = false ∧ store.dropClaimed ⟨.stand, 3⟩ = false ∧
    ran (.moveNew 101 12 (mv 1 101 1 12 2 3 80001)) store
      (store.accept 0 .upper 12 1 ⟨.place, 12⟩ ⟨.stand, 3⟩ 80001) = true := by
  unfold MoveAllowed Passed State.noParity; decide

theorem test_roll_order_checks : refuses (mv 1 101 1 12 2 3 80009) .rollState store = true ∧
    refuses (mv 1 101 1 13 2 3 80002) .reservedRoll store = true ∧
    refuses (mv 1 101 1 12 2 3 80001) .locationOccupied (stand 2 (fun x => { x with other := .standby 5 }) store) = true ∧
    refuses (mv 1 101 1 12 2 3 80001) .locationClaimed (stand 2 (fun x => { x with claim := some ⟨3, 9⟩ }) store) = true := by
  decide

def halted : State := veh 0 (fun x => { x with causes := { management := true } }) store

theorem test_admitted_order_waits_in_halt : (halted.vehicle 0).causes.none = false ∧
    (halted.accept 0 .upper 12 1 ⟨.none, 0⟩ ⟨.dock, 1⟩ 0) = veh 0 (fun x => { x with queue := [travel 1] }) halted ∧
    ((halted.accept 0 .upper 12 1 ⟨.place, 12⟩ ⟨.place, 40⟩ 80001).place 40).claim = some ⟨0, 1⟩ ∧
    standLoc 2 = ⟨.stand, 3⟩ ∧ halted.call? 2 = none ∧ (halted.stand 2).other = .none ∧
    ((halted.accept 0 .upper 12 1 ⟨.place, 12⟩ ⟨.stand, 3⟩ 80001).stand 2).claim = some ⟨0, 1⟩ := by decide

theorem test_admitted_order_at_a_butt : ((((stand 2 (fun x => { x with other := .butt 5 }) halted).accept 0 .upper 12 1
    ⟨.place, 12⟩ ⟨.stand, 3⟩ 80001).vehicle 0).queue.map Order.claim) = [.pending] := by decide

def cancels (tag : Nat) (s t : State) : Bool := ran (.moveCancel 101 12 (mv tag 101 0 0 0 0 0)) s t

theorem test_cancel_checks : cancels 1 cfg (cfg.refuseTo 12 1 101 .notRunning) = true ∧
    cancels 1 (withMode .autonomous base) ((withMode .autonomous base).refuseTo 12 1 101 .autonomous) = true ∧
    ran (.moveCancel 131 12 (mv 1 131 0 0 0 0 0)) base (base.refuseTo 12 1 131 .unknownVehicle) = true ∧
    cancels 0 base (base.refuseTo 12 0 101 .badTag) = true ∧ cancels 1 base (base.refuseTo 12 1 101 .notFound) = true := by
  decide

def heldOrder : State := veh 0 (fun x => { x with causes := { management := true } }) (queued 1)

def outOrder (s : State) : State :=
  veh 0 (fun x => { x with status := .busy, outstanding := [travel 7] }) s

theorem test_cancel_of_orders : ((heldOrder.vehicle 0).queue.find? fun o => o.tag = 7) = some (travel 7) ∧
    (heldOrder.vehicle 0).causes.none = false ∧
    cancels 7 heldOrder ((heldOrder.endQueuedOrder 0 (travel 7)).vdoneOnBehalf 0 (travel 7)) = true ∧
    (∃ o ∈ ((outOrder base).vehicle 0).outstanding, o.tag = 7) ∧
    cancels 7 (outOrder base) { outOrder base with ltu := { normal := [⟨101, 12, 0x11, 2 :: mv 7 101 0 0 0 0 0⟩] } } = true ∧
    cancels 7 (outOrder (fullNormal 24))
      (((outOrder (fullNormal 24)).raise .queueOverflow 2).refuseTo 12 7 101 .queueFull) = true := by decide

/-! ### Runs -/

def closedRuns (n : Nat) (s : State) : State :=
  { s with scu := { s.scu with closed := List.replicate n { press := 3, run := aRun, endTick := 0, cause := .ended } } }

def started (s : State) : State :=
  { s with scu := { s.scu with
      runs := s.scu.runs.set 0 (some { number := 418, edition := 1, phase := .startUp, startTick := s.clock })
      presses := s.scu.presses.set 0 {} } }

theorem test_run_start : Passed 255 pressed ∧ pressed.running = true ∧ (1 : Byte).toNat = num (0 : PressIx) ∧ pressed.inUse 0 = true ∧
    pressed.run? 0 = none ∧
    ran (.runStart 255 12 1 418 1) pressed ((started pressed).placeNormal ⟨255, 12, 0x12, [1, 1, 1, 162, 1]⟩) = true := by
  unfold Passed; decide

theorem test_run_start_closes : running.run? 0 = some aRun ∧ (closedRuns 7 running).scu.closed.length < 8 ∧
    (closedRuns 8 running).scu.closed.length = 8 ∧
    (match exec (.runStart 255 12 1 418 1) (closedRuns 7 running) with
    | .next t => decide (t.scu.closed.length = 8 ∧ t.scu.closed.getLast? = some { press := 0, run := aRun, endTick := 0, cause := .started } ∧
        (t.flag .runLost).latched = false)
    | _ => false) = true ∧
    (match exec (.runStart 255 12 1 418 1) (closedRuns 8 running) with
    | .next t => decide (t.scu.closed.length = 8 ∧ (t.flag .runLost).subject = 4)
    | _ => false) = true := by decide

theorem test_run_phases : ran (.runGood 255 12 1 418 1) running
      (({ running with scu := { running.scu with presses := running.scu.presses.set 0 {} } } : State).placeNormal
        ⟨255, 12, 0x12, [1, 2, 1, 162, 1]⟩) = true ∧
    pressed.pls.ready[(0 : PressIx)] = false ∧
    ran (.runEdition 255 12 1 418 3) pressed ((pressed.raise .planNotReady 1).placeNormal ⟨255, 12, 0x12, [1, 3, 1, 162, 3]⟩) = true ∧
    (match exec (.runEdition 255 12 1 418 3) running with
    | .next t => decide ((t.run? 0).map (fun r => (r.phase, r.edition)) = some (.plateChange, 3))
    | _ => false) = true := by decide

theorem test_run_end : ran (.runEnd 255 12 1 418 1) running
    ((({ running with scu := { running.scu with closed := [{ press := 0, run := aRun, endTick := 0, cause := .ended }] } } : State).setRun 0 none).placeNormal
      ⟨255, 12, 0x12, [1, 4, 1, 162, 1]⟩) = true := by decide

theorem test_run_unwatched : Passed 255 cfg ∧ base.inUse 3 = false ∧ (4 : Byte).toNat = num (3 : PressIx) ∧
    ran (.runGood 255 12 1 418 1) cfg (cfg.placeNormal ⟨255, 12, 0x12, [1, 2, 1, 162, 1]⟩) = true ∧
    ran (.runEnd 255 12 4 418 1) base (base.placeNormal ⟨255, 12, 0x12, [4, 4, 1, 162, 1]⟩) = true ∧
    ran (.runStart 255 12 0 418 1) base ((base.raise .nodeMismatch 12).placeNormal ⟨255, 12, 0x12, [0, 1, 1, 162, 1]⟩) = true ∧
    ran (.runEdition 255 12 5 418 1) base
      ((base.raise .nodeMismatch 12).placeNormal ⟨255, 12, 0x12, [5, 3, 1, 162, 1]⟩) = true := by unfold Passed; decide

/-! ### Track claims and position reports -/

/-- Vehicle 1 under way from segment 20 over 21 and 22, claiming its own segment. -/
def way : State :=
  base |> seg 20 1 1 |> seg 21 1 1 |> seg 22 2 2 |>
    veh 0 (fun x => { x with
      status := .busy, outstanding := [travel 7], path := [⟨20, 7⟩, ⟨21, 7⟩, ⟨22, 7⟩, ⟨21, 7⟩], currentSeg := 20
      claims := [⟨20, some 0⟩] }) |> fun s => s.setSeg 20 { capacity := 1, zone := 1, holders := [0] }

def halt : State → State := veh 0 fun x => { x with causes := { zone := true } }

theorem test_request_cases : (halt way).request 0 21 = (halt way).sendGrant 0 21 .halted ∧
    base.request 0 0 = base.sendGrant 0 0 .granted ∧ base.request 0 5 = base.sendGrant 0 5 .idle ∧
    way.request 0 30 = way.sendGrant 0 30 .offRoute ∧ way.request 0 20 = way.sendGrant 0 20 .granted ∧
    (way.vehicle 0).outstanding ≠ [] ∧ (base.vehicle 0).outstanding = [] := by decide

def full : State → State := veh 0 fun x => { x with claims := [⟨20, some 0⟩, ⟨8, none⟩, ⟨9, none⟩] }

def taken : State → State := fun s => s.setSeg 21 { capacity := 1, zone := 1, holders := [1] }

def zoned : State → State := fun s => { s with tcu := { s.tcu with zones := s.tcu.zones.set 0 { lost := 2 } } }

theorem test_request_claims : way.request 0 21 = ((way.setSeg 21 { capacity := 1, zone := 1, holders := [0] }).setVehicle 0
      { way.vehicle 0 with claims := [⟨20, some 0⟩, ⟨21, some 1⟩] }).sendGrant 0 21 .granted ∧
    (full way).request 0 21 = full way ∧ (full way).tcu.claimDepth ≤ ((full way).vehicle 0).claims.length ∧
    (taken way).request 0 21 = (taken way).waitCheck 0 21 ∧
    (zoned way).request 0 21 = (zoned way).waitCheck 0 21 ∧ num (0 : ZoneIx) = ((zoned way).seg 21).zone := by decide

/-- Segment 21 held by vehicle 2, with the waiters given. -/
def busySeg (l : List VehicleIx) : State := way.setSeg 21 { capacity := 1, zone := 1, holders := [1], waiters := l }

def elsewhere : State := (busySeg []).setSeg 22 { capacity := 2, zone := 2, waiters := [0] }

theorem test_wait_check : (busySeg [0]).waitCheck 0 21 = (busySeg [0]).sendGrant 0 21 .wait ∧
    (busySeg []).closesCycle 0 21 = false ∧ (busySeg []).waitsFor? 0 = none ∧
    (busySeg []).waitCheck 0 21 = (busySeg [0]).sendGrant 0 21 .wait ∧
    (elsewhere.waitsFor? 0 = some 22 ∧ elsewhere.waitCheck 0 21 =
      ((elsewhere.setSeg 22 { capacity := 2, zone := 2 }).setSeg 21
        { capacity := 1, zone := 1, holders := [1], waiters := [0] }).sendGrant 0 21 .wait) := by decide

def cyclic : State := (busySeg []).setSeg 20 { capacity := 1, zone := 1, holders := [0], waiters := [1] }

theorem test_wait_check_finds_cycle : cyclic.closesCycle 0 21 = true ∧
    cyclic.waitCheck 0 21 = ((cyclic.sendGrant 0 21 .deadlock).raise .deadlock 1).setVehicle 0
      { cyclic.vehicle 0 with causes := { deadlock := true } } := by decide

theorem test_send_grant : way.vehicleEntry? 0 = some ⟨101, .vehicle, 1, 20⟩ ∧
    way.sendGrant 0 255 .wait = way.placeUrgent ⟨101, 241, 0x51, [255, 2]⟩ ∧ State.reset.vehicleEntry? 0 = none ∧
    State.reset.sendGrant 0 1 .wait = State.reset := by decide

def freed : List VehicleIx → State := fun l => way.setSeg 21 { capacity := 1, zone := 1, waiters := l }

theorem test_serve : (busySeg [0]).serve 21 = busySeg [0] ∧ (freed [0]).serve 21 = (freed []).grantClaim 0 21 ∧
    ((freed [0]).vehicle 0).status ≠ .lost ∧ way.serve 21 = way ∧
    (((freed [0]).setSeg 21 { (freed [0]).seg 21 with blocked := true }).serve 21 =
      (freed [0]).setSeg 21 { (freed [0]).seg 21 with blocked := true }) ∧
    (freed [0]).serveWaiting 0 = (freed [0]).serve 21 ∧ way.serveWaiting 0 = way := by decide

theorem test_release_claims : way.releaseClaims 0 [] [] = way.setVehicle 0 { way.vehicle 0 with claims := [] } ∧
    way.releaseClaims 0 [⟨20, some 0⟩] [] =
      (((way.setVehicle 0 { way.vehicle 0 with claims := [] }).setSeg 20 { capacity := 1, zone := 1 }).serve 20).serveWaiting 0 := by
  decide

theorem test_vpos_off : Heard .vehicle (num (0 : VehicleIx)) 12 101 (seg 9 1 1 base) ∧
    ran (.vpos 12 101 9 1 70114 0) (seg 9 1 1 base)
      ((veh 0 (fun x => { x with motion := 1, repLoad := 70114, currentSeg := 9 }) (seg 9 1 1 base)).placeUpper
        ⟨12, 101, 0x21, [9, 1, 0, 1, 0x11, 0xE2, 0]⟩) = true ∧
    ran (.vpos 12 101 9 1 0 0) base ((veh 0 (fun x => { x with motion := 1 }) base).placeUpper
      ⟨12, 101, 0x21, [9, 1, 0, 0, 0, 0, 0]⟩) = true := ⟨heard (by decide), by decide⟩

def moving : State := (veh 0 (fun x => { x with claims := [⟨20, some 0⟩, ⟨21, some 1⟩] }) way).setSeg 21
  { capacity := 1, zone := 1, holders := [0] }

def movedOn : State := veh 0 (fun x => { x with motion := 1, pointer := 1, currentSeg := 21, claims := [⟨21, some 1⟩] })
  (moving.setSeg 20 { capacity := 1, zone := 1 })

theorem test_vpos_moves_on : Heard .vehicle (num (0 : VehicleIx)) 12 101 moving ∧ (moving.seg 21).capacity ≠ 0 ∧
    (moving.vehicle 0).claims = [⟨20, some 0⟩] ++ ⟨21, some 1⟩ :: [] ∧
    ran (.vpos 12 101 21 1 0 22) moving ((movedOn.request 0 22).placeUpper ⟨12, 101, 0x21, [21, 1, 0, 0, 0, 0, 22]⟩) = true :=
  ⟨heard (by decide), by decide⟩

def fresh : State := veh 0 (fun x => { x with claims := [], currentSeg := 0 }) way

theorem test_vpos_unjudged : ran (.vpos 12 101 99 1 0 0) way
      ((veh 0 (fun x => { x with motion := 1 }) way).placeUpper ⟨12, 101, 0x21, [99, 1, 0, 0, 0, 0, 0]⟩) = true ∧
    (way.seg 99).capacity = 0 ∧ (fresh.vehicle 0).claims = [] ∧ (fresh.vehicle 0).currentSeg = 0 ∧
    ran (.vpos 12 101 21 1 0 0) fresh
      ((veh 0 (fun x => { x with motion := 1, currentSeg := 21 }) fresh).placeUpper ⟨12, 101, 0x21, [21, 1, 0, 0, 0, 0, 0]⟩) = true := by
  decide

/-- The zone of segment 22 halts one vehicle only. -/
def lenient (s : State) : State := { s with tcu := { s.tcu with zones := s.tcu.zones.set 1 { haltOne := true } } }

def stray : State := lenient way

def again : State := veh 0 (fun x => { x with causes := { intrusion := true } }) stray

set_option maxHeartbeats 1000000 in
theorem test_vpos_intrusion : Heard .vehicle (num (0 : VehicleIx)) 12 101 stray ∧ (stray.seg 22).zone = num (1 : ZoneIx) ∧
    (stray.zone 1).haltOne = true ∧ (∀ y, (stray.zone y).lost.getLsbD (0 : VehicleIx).val = false) ∧
    (∀ k ∈ (stray.vehicle 0).claims, k.seg ≠ 22) ∧
    ran (.vpos 12 101 22 1 0 0) stray (((veh 0 (fun x => { x with currentSeg := 22 })
      ((veh 0 (fun x => { x with motion := 1, intrusionZones := 2, causes := { intrusion := true } })
        (stray.raise .intrusion 1)).sendHold 0))).placeUpper ⟨12, 101, 0x21, [22, 1, 0, 0, 0, 0, 0]⟩) = true :=
  ⟨heard (by decide), by decide⟩

theorem test_vpos_intrusion_again : (again.vehicle 0).causes.intrusion = true ∧ ran (.vpos 12 101 22 1 0 0) again
    ((veh 0 (fun x => { x with motion := 1, intrusionZones := 2, currentSeg := 22 }) (again.raise .intrusion 1)).placeUpper
      ⟨12, 101, 0x21, [22, 1, 0, 0, 0, 0, 0]⟩) = true := by decide

def missing : State := veh 0 (fun x => { x with status := .lost, beforeLoss := .busy, retryCount := 4 }) way

theorem test_vpos_of_lost : Heard .vehicle (num (0 : VehicleIx)) 12 101 missing ∧ missing.sfu.mode = .normal ∧
    (missing.vehicle 0).claims = [⟨20, some 0⟩] ∧ missing.waitsFor? 0 = none ∧
    (∀ y, (missing.zone y).lost.getLsbD (0 : VehicleIx).val = false) ∧
    ran (.vpos 12 101 20 1 0 0) missing
      (((veh 0 (fun x => { x with motion := 1, status := .busy, retryCount := 0 }) missing).sendRelease 0).placeUpper
        ⟨12, 101, 0x21, [20, 1, 0, 0, 0, 0, 0]⟩) = true := ⟨heard (by decide), by decide⟩

/-- Vehicle 1 BUSY with one order and no claim. -/
def atEnd (o : Order) : State := veh 0 (fun x => { x with status := .busy, outstanding := [o], endLoc := ⟨.dock, 1⟩ }) base

theorem test_vdone_stray : Heard .vehicle (num (0 : VehicleIx)) 12 101 (atEnd (travel 7)) ∧
    ran (.vdone 12 101 8 1) (atEnd (travel 7)) (((atEnd (travel 7)).raise .strayReport 1).placeUpper ⟨12, 101, 0x23, [8, 1]⟩) = true ∧
    ran (.vdone 12 101 7 0) (atEnd (travel 7)) (((atEnd (travel 7)).raise .strayReport 1).placeUpper ⟨12, 101, 0x23, [7, 0]⟩) = true ∧
    ran (.vdone 12 101 7 5) (atEnd (travel 7)) (((atEnd (travel 7)).raise .strayReport 1).placeUpper ⟨12, 101, 0x23, [7, 5]⟩) = true :=
  ⟨heard (by decide), by decide⟩

def toPlace : Order := { travel 7 with drop := ⟨.place, 40⟩, claim := .held }

theorem test_vdone_ends : (atEnd (travel 7)).waitsFor? 0 = none ∧
    ran (.vdone 12 101 7 1) (atEnd (travel 7))
      ((veh 0 (fun x => { x with status := .idle, endLoc := ⟨.dock, 1⟩ }) base).placeUpper ⟨12, 101, 0x23, [7, 1]⟩) = true ∧
    ran (.vdone 12 101 7 4) (atEnd (travel 7))
      ((veh 0 (fun x => { x with status := .idle }) base).placeUpper ⟨12, 101, 0x23, [7, 4]⟩) = true ∧
    ran (.vdone 12 101 7 4) ((atEnd toPlace).setPlace 40 { claim := some ⟨0, 7⟩ })
      ((veh 0 (fun x => { x with status := .idle }) base).placeUpper ⟨12, 101, 0x23, [7, 4]⟩) = true ∧
    ran (.vdone 12 101 7 4) ((atEnd toPlace).setPlace 40 { claim := some ⟨1, 7⟩ })
      (((veh 0 (fun x => { x with status := .idle }) base).setPlace 40 { claim := some ⟨1, 7⟩ }).placeUpper
        ⟨12, 101, 0x23, [7, 4]⟩) = true := by decide

def silent (n : Nat) : State :=
  { veh 0 (fun x => { x with supCount := n }) way with due := [.vehicleLost 0] } |> lenient |>
    fun s => { s with tcu := { s.tcu with zones := s.tcu.zones.set 0 { haltOne := true } } }

theorem test_vehicle_lost : (silent 20).vehicleEntry? 0 = some ⟨101, .vehicle, 1, 20⟩ ∧ (silent 20).running = true ∧
    (∀ z : ZoneIx, ((silent 20).seg ((silent 20).vehicle 0).currentSeg).zone = num z → ((silent 20).zone z).haltOne = true) ∧
    ran (.vehicleLost 0) (silent 20)
      (((veh 0 (fun x => { x with status := .lost, beforeLoss := .busy }) { silent 20 with due := [] }).raise .vehicleLost 1).placeUrgent
        ⟨101, 241, 0x52, [0x10]⟩) = true ∧
    ran (.vehicleLost 0) (silent 19) { silent 19 with due := [] } = true ∧ ran (.vehicleLost 0) way way = true := by decide

def retrying (n : Nat) : State := { veh 0 (fun x => { x with retryCount := n }) missing with due := [.lostRetry 0] }

theorem test_lost_retry : ran (.lostRetryHold 0) (retrying 10)
      (veh 0 (fun x => { x with retryCount := 0 }) (State.placeUrgent ⟨101, 241, 0x52, [0x10]⟩ { retrying 10 with due := [] })) = true ∧
    ran (.lostRetryHold 0) { way with due := [.lostRetry 0] } way = true ∧ ran (.lostRetryHold 0) way way = true := by decide

/-! ### Picks and drops -/

/-- Vehicle 1 IDLE, and roll 70114 in slot 1 with the state given. -/
def roll1 (st : RollStatus) : State := idle 0 (with1 (aRoll 70114 st))

def picked (kind number : Nat) (s t : State) : Bool :=
  ran (.vloadPick 12 101 (BitVec.ofNat 8 kind) (BitVec.ofNat 16 number) 70114) s
    (t.placeUpper ⟨12, 101, 0x22, [1, BitVec.ofNat 8 kind] ++ be16 number ++ beWord 70114⟩)

def dropped (kind number : Nat) (s t : State) : Bool :=
  ran (.vloadDrop 12 101 (BitVec.ofNat 8 kind) (BitVec.ofNat 16 number) 70114) s
    (t.placeUpper ⟨12, 101, 0x22, [2, BitVec.ofNat 8 kind] ++ be16 number ++ beWord 70114⟩)

/-- Roll 70114 CARRIED on vehicle 1, whose load it is. -/
def onBoard : State := (roll1 (.carried (some 0))).setLoad 0 (.roll 70114)

theorem test_locations_kept : base.keptLoc? 1 1 = some ⟨.place, 1⟩ ∧ base.keptLoc? 1 512 = some ⟨.place, 512⟩ ∧
    base.keptLoc? 1 513 = none ∧ base.keptLoc? 1 0 = none ∧ base.keptLoc? 3 8 = some ⟨.dock, 8⟩ ∧ base.keptLoc? 3 9 = none ∧
    base.keptLoc? 2 24 = some ⟨.stand, 24⟩ ∧ base.keptLoc? 0 0 = none ∧ base.keptLoc? 7 1 = none ∧ base.keptLoc? 5 1 = none := by
  decide

theorem test_pick_at_its_dock : Heard .vehicle (num (0 : VehicleIx)) 12 101 (roll1 (.announced 8)) ∧
    (roll1 (.announced 8)).noParity ∧ (roll1 (.announced 8)).findRoll 70114 = some (1, aRoll 70114 (.announced 8)) ∧
    (roll1 (.announced 8)).callNaming? 70114 = none ∧ picked 3 8 (roll1 (.announced 8)) onBoard = true ∧
    picked 3 1 (roll1 (.announced 8)) (onBoard.raiseField .rollMisplaced 70114 70114) = true ∧
    picked 1 1 onBoard onBoard = true := ⟨heard (by decide), by unfold State.noParity; decide⟩

theorem test_pick_at_a_place : picked 1 512 ((roll1 (.stored 512)).setPlace 512 { access := 5, occupant := some 70114 })
      (onBoard.setPlace 512 { access := 5 }) = true ∧
    picked 1 1 ((roll1 (.reserved 512 .management)).setPlace 512 { occupant := some 70114 })
      (onBoard.raiseField .rollMisplaced 70114 70114) = true := by decide

theorem test_pick_from_a_vehicle_or_none : picked 3 1 (roll1 (.carried none)) (onBoard.raiseField .rollMisplaced 70114 70114) = true ∧
    (1 : VehicleIx) ≠ 0 ∧ picked 3 1 ((roll1 (.carried (some 1))).setLoad 1 (.roll 70114))
      (onBoard.raiseField .rollMisplaced 70114 70114) = true := by decide

def buttAt (st : StandIx) : State := stand st (fun x => { x with other := .butt 70114 }) (roll1 (.butt st))

theorem test_pick_of_a_butt : (buttAt 23).keptLoc? 2 24 = some (standLoc 23) ∧ ((buttAt 23).stand 23).state ≠ .armed ∧
    picked 2 24 (buttAt 23) onBoard = true := by decide

/-- Vehicle 1 comes for roll 70114 at dock 8, with roll 70200 on board. -/
def coming : State :=
  withRolls [(1, aRoll 70114 (.announced 8)), (2, aRoll 70200 (.carried (some 0)))] base |>
    veh 0 fun x => { x with status := .busy, load := .roll 70200, outstanding := [
      { travel 7 with pickup := ⟨.dock, 8⟩, drop := ⟨.place, 4⟩, roll := 70114, progress := .toPickup }] }

theorem test_pick_moves_order : Heard .vehicle (num (0 : VehicleIx)) 12 101 coming ∧ coming.tablesWf = true ∧ coming.noParity ∧
    coming.fdu.calls = [] ∧ coming.findRoll 70200 = some (2, aRoll 70200 (.carried (some 0))) ∧
    (match exec (.vloadPick 12 101 3 8 70114) coming with
    | .next t => decide ((t.vehicle 0).outstanding.map Order.progress = [.toDrop] ∧ (t.vehicle 0).load = .roll 70114 ∧
        t.slot? 2 = some { aRoll 70200 (.carried none) with holds := { lostTrack := true } })
    | _ => false) = true := ⟨heard (by decide), by unfold State.noParity; decide⟩

theorem test_unknown_rolls : Heard .vehicle (num (0 : VehicleIx)) 12 101 base ∧ base.noParity ∧ base.findRoll 70114 = none ∧
    picked 1 513 base (base.raise .placeConflict 1) = true ∧ dropped 1 0 base (base.raise .placeConflict 1) = true ∧
    dropped 7 1 base (base.raise .placeConflict 1) = true ∧
    picked 1 1 base ((base.setLoad 0 .unknown).raise .unknownRoll 1) = true ∧
    dropped 1 1 base (base.raise .unknownRoll 1) = true ∧
    dropped 1 1 (base.setLoad 0 .unknown) (base.raise .unknownRoll 1) = true ∧
    ran (.vloadDrop 12 101 1 1 0xFFFFFFFF) (base.setLoad 0 .unknown)
      (base.placeUpper ⟨12, 101, 0x22, [2, 1, 0, 1, 255, 255, 255, 255]⟩) = true :=
  ⟨heard (by decide), by unfold State.noParity; decide⟩

/-- Roll 70114 set down on a place. -/
def setDown (p : Nat) : State := (roll1 (.stored p)).setPlace p { occupant := some 70114 }

theorem test_drop_at_a_place : Heard .vehicle (num (0 : VehicleIx)) 12 101 onBoard ∧ onBoard.fdu.search = none ∧
    onBoard.findRoll 70114 = some (1, aRoll 70114 (.carried (some 0))) ∧ dropped 1 1 onBoard (setDown 1) = true ∧
    dropped 1 512 onBoard (setDown 512) = true ∧
    dropped 1 1 (onBoard.setPlace 1 { blocked := true }) ((onBoard.setPlace 1 { blocked := true }).raise .placeConflict 1) = true ∧
    dropped 1 1 (onBoard.setPlace 1 { occupant := some 5 }) ((onBoard.setPlace 1 { occupant := some 5 }).raise .placeConflict 1) = true :=
  ⟨heard (by decide), by decide⟩

/-- An order of a vehicle that holds the drop claim on place 1. -/
def claims (v : VehicleIx) (s : State) : State :=
  veh v (fun x => { x with outstanding := [{ travel 7 with drop := ⟨.place, 1⟩, claim := .held, progress := .toDrop }] }) s

def unclaims (v : VehicleIx) (c : DropHold) (s : State) : State :=
  veh v (fun x => { x with outstanding := [{ travel 7 with drop := ⟨.place, 1⟩, claim := c, progress := .toDrop }] }) s

theorem test_drop_consumes_or_cancels_claims :
    dropped 1 1 ((claims 0 onBoard).setPlace 1 { claim := some ⟨0, 7⟩ }) (unclaims 0 .consumed (setDown 1)) = true ∧
    dropped 1 1 ((claims 1 onBoard).setPlace 1 { claim := some ⟨1, 7⟩ })
      ((unclaims 1 .none (setDown 1)).raise .placeConflict 2) = true := by decide

def bareStand (f : Stand → Stand) (s : State) : State := stand 23 (fun x => f { x with press := some 0 }) s

theorem test_drop_on_a_stand : dropped 2 24 (bareStand id onBoard)
      (bareStand (fun x => { x with other := .standby 70114 }) (roll1 (.standby 23))) = true ∧
    dropped 2 24 (lead 23 (usePress 0 (bareStand (fun x => { x with state := .starved }) onBoard)))
      (lead 23 (usePress 0 (bareStand (fun x => { x with state := .armed, other := .standby 70114 }) (roll1 (.standby 23))))) = true ∧
    dropped 2 24 (bareStand (fun x => { x with other := .butt 5 }) onBoard)
      ((bareStand (fun x => { x with other := .butt 5 }) onBoard).raise .placeConflict 1) = true := by decide

def wrongGrade (s : State) : State :=
  { s with pls := { s.pls with activeStand := s.pls.activeStand.set 23 { sp true with grade := 11 } } }

theorem test_drop_of_the_wrong_paper : (wrongGrade (usePress 0 (bareStand id onBoard))).inLead 23 = true ∧
    dropped 2 24 (wrongGrade (usePress 0 (bareStand id onBoard)))
      ((wrongGrade (usePress 0 (bareStand (fun x => { x with other := .standby 70114 }) (roll1 (.standby 23))))).raise .planMismatch 24) = true := by
  decide

theorem test_drop_at_dock_and_waste : dropped 3 1 onBoard (roll1 (.announced 1)) = true ∧
    dropped 3 8 onBoard (roll1 (.announced 8)) = true ∧
    dropped 4 1 onBoard { idle 0 base with scu := { base.scu with scrapped := 169351 } } = true ∧
    dropped 4 4 onBoard { idle 0 base with scu := { base.scu with scrapped := 169351 } } = true := by decide

def usedRoll : Roll := { aRoll 70114 (.carried (some 0)) with hasRun := true, lastPress := some 2 }

theorem test_drop_of_a_butt_at_waste :
    dropped 4 1 ((idle 0 (with1 usedRoll)).setLoad 0 (.roll 70114))
      { idle 0 base with scu := { base.scu with presses := base.scu.presses.set 2 { unassigned := 169351 } } } = true ∧
    dropped 4 1 { (idle 0 (with1 usedRoll)).setLoad 0 (.roll 70114) with scu := { base.scu with runs := base.scu.runs.set 2 (some aRun) } }
      { idle 0 base with scu := { base.scu with runs := base.scu.runs.set 2 (some { aRun with butt := 169351 }) } } = true := by decide

theorem test_drop_corrects : Heard .vehicle (num (0 : VehicleIx)) 12 101 (roll1 (.carried none)) ∧
    dropped 1 512 (roll1 (.carried none)) ((setDown 512).raiseField .rollMisplaced 70114 70114) = true :=
  ⟨heard (by decide), by decide⟩

/-! ### Reel stands -/

/-- Stand 1 of press 1 with roll 70114 RUNNING, out of the lead. -/
def runs (f : Stand → Stand) : State :=
  stand 0 (fun x => f { x with press := some 0, active := some 70114 }) (with1 { aRoll 70114 (.running 0) with dcur := 1100 })

def reported (d : Nat) (s t : State) : Bool :=
  ran (.standReport 12 131 (BitVec.ofNat 16 d) 70114 0) s (t.placeUpper ⟨12, 131, 0x31, be16 d ++ beWord 70114 ++ beWord 0⟩)

def rolled (d l : Nat) : State :=
  stand 0 (fun x => { x with press := some 0, active := some 70114, lr := l }) (with1 { aRoll 70114 (.running 0) with dcur := d, lr := l })

theorem test_diameter_accepted : Heard .stand (num (0 : StandIx)) 12 131 (runs id) ∧ otherAgrees ((runs id).stand 0).other 0 = true ∧
    (runs id).inLead 0 = false ∧ (runs id).call? 0 = none ∧ reported 1100 (runs id) (rolled 1100 130900) = true ∧
    reported 1105 (runs id) (rolled 1105 132102) = true ∧ reported 100 (runs id) (rolled 100 0) = true ∧
    reported 99 (runs id) (rolled 100 0) = true ∧ reported 0 (runs id) (rolled 100 0) = true :=
  ⟨heard (by decide), by decide⟩

theorem test_diameter_implausible : reported 1106 (runs id) (runs fun x => { x with implausible := 1 }) = true ∧
    reported 1251 (runs fun x => { x with implausible := 2 })
      (((runs fun x => { x with implausible := 3, deadReckon := true }).addHold 70114 .diameter).raise .diameterImplausible 1) = true ∧
    reported 1300 (runs fun x => { x with deadReckon := true }) (runs fun x => { x with deadReckon := true }) = true := by decide

theorem test_stand_without_press : Heard .stand (num (23 : StandIx)) 12 154 base ∧
    ran (.standReport 12 154 1100 0 0) base
      ((base.raise .armMismatch 24).placeUpper ⟨12, 154, 0x31, be16 1100 ++ beWord 0 ++ beWord 0⟩) = true ∧
    ran (.spliceMade 12 154 0 5) base ((base.raise .armMismatch 24).placeUpper ⟨12, 154, 0x32, 1 :: (beWord 0 ++ beWord 5)⟩) = true ∧
    ran (.spliceMissed 12 154 0 5) base ((base.raise .armMismatch 24).placeUpper ⟨12, 154, 0x32, 2 :: (beWord 0 ++ beWord 5)⟩) = true ∧
    ran (.webBreak 12 154 5) base ((base.raise .armMismatch 24).placeUpper ⟨12, 154, 0x33, beWord 5⟩) = true :=
  ⟨heard (by decide), by decide⟩

theorem test_disagreeing_reports : activeAgrees ((runs id).stand 0).active 5 = false ∧
    ran (.standReport 12 131 1100 5 0) (runs id)
      (((runs id).raise .armMismatch 1).placeUpper ⟨12, 131, 0x31, be16 1100 ++ beWord 5 ++ beWord 0⟩) = true ∧
    ran (.standReport 12 131 1100 0 0) (stand 0 (fun x => { x with press := some 0 }) base)
      ((stand 0 (fun x => { x with press := some 0 }) base).placeUpper ⟨12, 131, 0x31, be16 1100 ++ beWord 0 ++ beWord 0⟩) = true ∧
    ran (.spliceMade 12 131 0 5) (stand 0 (fun x => { x with press := some 0 }) base)
      (((stand 0 (fun x => { x with press := some 0 }) base).raise .armMismatch 1).placeUpper ⟨12, 131, 0x32, 1 :: (beWord 0 ++ beWord 5)⟩) = true ∧
    ran (.webBreak 12 131 5) (runs id) (((runs id).raise .armMismatch 1).placeUpper ⟨12, 131, 0x33, beWord 5⟩) = true := by decide

/-- Stand 1 with roll 70114 RUNNING and roll 70200 STANDBY. -/
def ready2 : State :=
  stand 0 (fun x => { x with press := some 0, active := some 70114, other := .standby 70200, late := true })
    (withRolls [(1, aRoll 70114 (.running 0)), (2, aRoll 70200 (.standby 0))] pressed)

theorem test_splice_made : Heard .stand (num (0 : StandIx)) 12 131 ready2 ∧ ready2.findRoll 70200 = some (2, aRoll 70200 (.standby 0)) ∧
    ready2.inLead 0 = false ∧ (ready2.stand 0).state = .out ∧ (match exec (.spliceMade 12 131 70114 70200) ready2 with
    | .next t => decide (t.slot? 1 = some (aRoll 70114 (.butt 0)) ∧
        t.slot? 2 = some { aRoll 70200 (.running 0) with hasRun := true, lastPress := some 0 } ∧
        t.stand 0 = { press := some 0, active := some 70200, other := .butt 70114, lr := 169351 } ∧
        (t.press 0).splice = { remaining := 300, stand := some 0, roll := some 70200 })
    | _ => false) = true := ⟨heard (by decide), by decide⟩

/-- Stand 1 with roll 70114 RUNNING, its breaks and holds given. -/
def breaking (n : Nat) (h : Holds) : State :=
  { stand 0 (fun x => { x with press := some 0, active := some 70114, other := .standby 70200 })
      (with1 { aRoll 70114 (.running 0) with breaks := n, holds := h }) with
    pls := pressed.pls, scu := running.scu }

/-- What a break leaves of it. -/
def broke (n : Nat) (h : Holds) (missed : Nat) : State :=
  { breaking n h with scu := { running.scu with
      runs := running.scu.runs.set 0 (some { aRun with breaks := 1, missed := missed })
      presses := running.scu.presses.set 0 { brk := { remaining := 500, roll := some 70114 } } } }

theorem test_breaks_are_counted : Heard .stand (num (0 : StandIx)) 12 131 (breaking 0 {}) ∧
    ran (.webBreak 12 131 70114) (breaking 0 {}) ((broke 1 {} 0).placeUpper ⟨12, 131, 0x33, beWord 70114⟩) = true ∧
    ran (.spliceMissed 12 131 70114 70200) (breaking 0 {})
      ((broke 1 {} 1).placeUpper ⟨12, 131, 0x32, 2 :: (beWord 70114 ++ beWord 70200)⟩) = true ∧
    ran (.webBreak 12 131 70114) (breaking 1 { management := true })
      (((broke 2 { management := true, breaks := true } 0).raiseField .rollBreakHold 70114 70114).placeUpper
        ⟨12, 131, 0x33, beWord 70114⟩) = true ∧
    ran (.webBreak 12 131 70114) (breaking 7 { breaks := true })
      ((broke 7 { breaks := true } 0).placeUpper ⟨12, 131, 0x33, beWord 70114⟩) = true := ⟨heard (by decide), by decide⟩

/-! ### Time to splice, starvation and calls -/

/-- Stand 1 of press 1, FEEDING in the lead with roll 70114, at the press speed given. -/
def feeding (speed lr : Nat) : State :=
  (withRolls [(1, { aRoll 70114 (.running 0) with lr := lr })] (lead 0 pressed)) |>
    stand 0 (fun x => { x with press := some 0, active := some 70114, state := .feeding, lr := lr, lres := 1701 }) |>
    speedOf 0 fun x => { x with estimate := speed }

def timed (t : Nat) (s : State) : State := stand 0 (fun x => { x with ts := t }) s

def opened (due : Nat) (early : Bool) : Call := { stand := 0, phase := .opened, due := due, early := early }

theorem test_ts_opens_call : (feeding 750 169351).inLead 0 = true ∧ (feeding 750 169351).running = true ∧
    (feeding 750 169351).computeTs 0 = timed 1341 (feeding 750 169351) ∧
    (feeding 30 6201).computeTs 0 = ((timed 900 (feeding 30 6201)).putCall (opened 900 false)).startSearch ∧
    (feeding 30 6206).computeTs 0 = timed 901 (feeding 30 6206) ∧
    (feeding 29 6201).computeTs 0 = timed 65535 (feeding 29 6201) ∧
    (withMode .config (feeding 30 6201)).computeTs 0 = timed 900 (withMode .config (feeding 30 6201)) := by decide

def held : State := withRolls [(1, { aRoll 70114 (.running 0) with holds := { management := true } })] (feeding 750 169351)

def called : Bool → State := fun e => withCalls [opened 5 e] (feeding 750 169351)

def standby : State := stand 0 (fun x => { x with other := .standby 70200 }) (feeding 30 6201)

theorem test_ts_of_held_and_called_rolls : (held.activeHeld 0 = true ∧
      held.computeTs 0 = ((timed 1341 held).putCall (opened 0 true)).startSearch) ∧
    (called false).computeTs 0 = (timed 1341 (called false)).putCall (opened 1341 false) ∧
    (called true).computeTs 0 = timed 1341 (called true) ∧
    standby.computeTs 0 = timed 900 standby := by decide

/-- The stand of feeding 1 0 after it has starved, but for its call. -/
def starvedStand (s : State) : State :=
  stand 0 (fun x => { x with state := .starved, ts := 65535 })
    { s.raise .standStarved 1 with fdu := { s.fdu with lastStarved := 1, lastStarvedTick := s.clock, starved := 1 } }

theorem test_starvation : (feeding 1 0).starveTest 0 = ((starvedStand (feeding 1 0)).putCall (opened 0 true)).startSearch ∧
    (feeding 0 0).starveTest 0 = feeding 0 0 ∧ (feeding 1 1).starveTest 0 = feeding 1 1 ∧
    (withMode .config (feeding 1 0)).starveTest 0 = withMode .config (feeding 1 0) ∧
    (withCalls [opened 77 false] (feeding 1 0)).starveTest 0 =
      (starvedStand (withCalls [opened 77 false] (feeding 1 0))).putCall (opened 0 true) := by decide

theorem test_late_splice : (feeding 0 701).lateTest 0 = ((stand 0 (fun x => { x with late := true }) (feeding 0 701)).raise .spliceLate 1) ∧
    (feeding 0 702).lateTest 0 = feeding 0 702 ∧ (feeding 0 0).fdu.lateMargin = 100 ∧
    (stand 0 (fun x => { x with late := true }) (feeding 0 0)).lateTest 0 = stand 0 (fun x => { x with late := true }) (feeding 0 0) := by
  decide

/-! ### Press speed -/

/-- Press 1 at 100 m/min, its last update n ticks ago. -/
def at100 (n : Nat) : State := speedOf 0 (fun x => { x with estimate := 100, age := n }) base

def moved (e : Nat) (l : Bool) : State := speedOf 0 (fun x => { x with estimate := e, limiting := l }) base

theorem test_slew : (at100 1).applySample 0 112 = moved 112 false ∧ (at100 1).applySample 0 113 = moved 112 true ∧
    (at100 1).applySample 0 88 = moved 88 false ∧ (at100 1).applySample 0 87 = moved 88 true ∧
    (at100 0).applySample 0 102 = moved 101 true ∧ (at100 0).applySample 0 100 = moved 100 false ∧
    (at100 1).applySample 0 1500 = moved 112 true := by decide

def driven (press v : Nat) (s t : State) : Bool :=
  ran (.drive 12 161 (BitVec.ofNat 8 press) (BitVec.ofNat 16 v)) s (t.placeUpper ⟨12, 161, 0x41, BitVec.ofNat 8 press :: be16 v⟩)

theorem test_drive : Heard .drive (num (0 : PressIx)) 12 161 (at100 1) ∧ driven 1 113 (at100 1) (moved 112 true) = true ∧
    driven 4 1501 (at100 200) (moved 1500 false) = true ∧ driven 1 65535 (at100 200) (moved 1500 false) = true ∧
    driven 1 300 (speedOf 0 (fun x => { x with source := .forced, driveSilence := 9 }) base)
      (speedOf 0 (fun x => { x with source := .forced }) base) = true ∧
    driven 1 0 (speedOf 0 (fun x => { x with source := .nominal }) base) base = true := ⟨heard (by decide), by decide⟩

theorem test_hand_over : (stand 0 (fun x => { x with ts := 3 }) (feeding 30 6206)).handOver 0 30 =
      stand 0 (fun x => { x with ts := 3 }) (feeding 30 6206) ∧
    (feeding 30 6206).handOver 0 0 = timed 901 (feeding 30 6206) := by decide

/-- Press 1 in the source state given, with the count interval given. -/
def counting (src : SpeedSource) (k : Option Nat) (pend : Nat) : State :=
  speedOf 0 (fun x => { x with source := src, interval := k, pendingInc := pend, estimate := 700, age := 5 }) pressed

theorem test_count_intervals : (counting .hold none 4).countSpeed 0 9 = counting .trackSecondary (some 0) 0 ∧
    (counting .nominal (some 0) 4).countSpeed 0 9 = counting .trackSecondary (some 0) 13 ∧
    (counting .trackPrimary (some 0) 16777210).countSpeed 0 9 = counting .trackPrimary (some 0) 16777215 ∧
    (counting .forced (some 5) 4).countSpeed 0 9 = counting .forced (some 0) 0 ∧
    (counting .trackPrimary (some 5) 4).countSpeed 0 9 = counting .trackPrimary (some 0) 0 ∧
    (counting .hold (some 5) 0).countSpeed 0 11 =
      speedOf 0 (fun x => { x with estimate := 739, age := 0 }) (counting .trackSecondary (some 0) 0) ∧
    (counting .trackSecondary (some 1) 65535).countSpeed 0 65535 =
      speedOf 0 (fun x => { x with estimate := 760, age := 0, limiting := true }) (counting .trackSecondary (some 0) 0) := by decide

def dueNow (d : Due) (s : State) : State := { s with due := [d] }

def sourced (f : Speed → Speed) : State := speedOf 0 f pressed

theorem test_drive_silent : pressed.inUse 0 = true ∧ pressed.running = true ∧
    ran (.driveSilent 0) (dueNow (.driveSilent 0) (sourced fun x => { x with driveSilence := 20 }))
      ((sourced fun x => { x with driveSilence := 20, source := .hold }).raise .speedHoldover 1) = true ∧
    ran (.driveSilent 0) (dueNow (.driveSilent 0) (sourced fun x => { x with driveSilence := 20, interval := some 3 }))
      (sourced fun x => { x with driveSilence := 20, interval := some 3, source := .trackSecondary }) = true := by decide

theorem test_count_silent : ran (.countSilent 0)
      (dueNow (.countSilent 0) (sourced fun x => { x with countSilence := 20, interval := some 20, source := .trackSecondary }))
      ((sourced fun x => { x with countSilence := 20, source := .hold }).raise .speedHoldover 1) = true ∧
    ran (.countSilent 0) (dueNow (.countSilent 0) (sourced fun x => { x with countSilence := 20, interval := some 20 }))
      (sourced fun x => { x with countSilence := 20 }) = true := by decide

theorem test_holdover_limit : ran (.holdoverLimit 0)
    (dueNow (.holdover 0) (sourced fun x => { x with source := .hold, holdover := 1200, estimate := 5, age := 9 }))
    ((sourced fun x => { x with source := .nominal, holdover := 1200, estimate := 700 }).raise .speedNominal 1) = true := by decide

theorem test_speed_force : Does .speedForce (act [17, 1, 5, 220]) { result := .ok } pressed
      (sourced fun x => { x with source := .forced, estimate := 1500 }) ∧
    Does .speedForce (act [17, 1, 5, 221]) { result := .clamped } pressed
      (sourced fun x => { x with source := .forced, estimate := 1500 }) ∧
    Does .speedForce (act [17, 4, 0, 0]) { result := .ok } pressed (speedOf 3 (fun x => { x with source := .forced }) pressed) := by
  unfold Does Ready; decide

def forced (d c : Nat) (src : SpeedSource) : State :=
  sourced fun x => { x with source := src, driveSilence := d, countSilence := c }

theorem test_speed_free : Does .speedFree (act [18, 1]) { result := .ok } pressed pressed ∧
    Does .speedFree (act [18, 1]) { result := .ok } (forced 19 20 .forced) (forced 19 20 .trackPrimary) ∧
    Does .speedFree (act [18, 1]) { result := .ok } (forced 20 19 .forced) (forced 20 19 .trackPrimary) ∧
    Does .speedFree (act [18, 1]) { result := .ok } (forced 20 20 .forced) ((forced 20 20 .hold).raise .speedHoldover 1) ∧
    Does .speedFree (act [18, 5]) { result := .badIndex } pressed pressed := by unfold Does Ready; decide

/-! ### Copies -/

def windows (b s : Nat) (ph : Option Phase) : State :=
  { pressed with scu := { pressed.scu with
      runs := pressed.scu.runs.set 0 (ph.map fun p => { aRun with phase := p })
      presses := pressed.scu.presses.set 0 { splice := { remaining := s, roll := some 70114 }, brk := { remaining := b, roll := some 70200 } } } }

theorem test_waste_class : (windows 1 1 none).wasteClass 0 1 = .startUp ∧ (windows 1 1 none).wasteClass 0 2 = .splice ∧
    (windows 0 1 none).wasteClass 0 3 = .brk ∧ (windows 1 1 none).wasteClass 0 4 = .plateChange ∧
    (windows 1 1 none).wasteClass 0 5 = .other ∧ (windows 1 1 none).wasteClass 0 0 = .brk ∧ (windows 1 1 none).wasteClass 0 6 = .brk ∧
    (windows 0 1 none).wasteClass 0 0 = .splice ∧ (windows 0 0 (some .startUp)).wasteClass 0 0 = .startUp ∧
    (windows 0 0 (some .plateChange)).wasteClass 0 255 = .plateChange ∧ (windows 0 0 (some .good)).wasteClass 0 0 = .other ∧
    (windows 0 0 none).wasteClass 0 0 = .other := by decide

def counted (g w reason : Nat) (s t : State) : Bool :=
  ran (.count 12 171 1 (BitVec.ofNat 16 g) (BitVec.ofNat 16 w) (BitVec.ofNat 8 reason)) s
    ((t.countSpeed 0 (g + w)).placeUpper ⟨12, 171, 0x42, 1 :: (be16 g ++ be16 w ++ be8 reason)⟩)

theorem test_count : Heard .folder (num (0 : PressIx)) 12 171 (windows 5 9 none) ∧
    counted 5 2 0 (windows 5 9 none) { windows 5 9 none with scu := { (windows 5 9 none).scu with
      presses := (windows 5 9 none).scu.presses.set 0 { (windows 0 2 none).press 0 with idleGood := 5, idleWaste := 2 } } } = true ∧
    counted 5 2 2 (windows 0 9 (some .startUp)) { windows 0 2 (some .startUp) with scu := { (windows 0 2 (some .startUp)).scu with
      runs := base.scu.runs.set 0 (some { aRun with phase := .startUp, good := 14, wasteSplice := 2 }) } } = true :=
  ⟨heard (by decide), by decide⟩

theorem test_count_charges_rolls : counted 5 2 2 (withRolls [(1, aRoll 70114 (.running 0))] (windows 0 0 none))
    { withRolls [(1, { aRoll 70114 (.running 0) with waste := 2 })] (windows 0 0 none) with scu := { (windows 0 0 none).scu with
      presses := (windows 0 0 none).scu.presses.set 0 { (windows 0 0 none).press 0 with idleGood := 5, idleWaste := 2 } } } = true := by
  decide

def block (c w : Nat) (m : Monitor) (ratio : Nat) : State :=
  { running with scu := { running.scu with
      presses := running.scu.presses.set 0 { blockCopies := c, blockWaste := w, monitor := m, lastRatio := ratio } } }

theorem test_block : (block 1900 20 .ok 0).countBlock 0 90 9 = block 1999 29 .ok 0 ∧
    (block 1900 20 .ok 0).countBlock 0 90 10 = (block 0 0 .warn 15).raise .wasteWarn 1 ∧
    (block 1900 20 .ok 0).countBlock 0 60 40 = (block 0 0 .alarm 30).raise .wasteAlarm 1 ∧
    (block 1900 20 .warn 0).countBlock 0 91 9 = block 0 0 .warn 14 ∧
    (block 1900 20 .ok 0).countBlock 0 100 0 = block 0 0 .ok 10 ∧
    (windows 0 0 none).countBlock 0 60 40 = windows 0 0 none := by decide

theorem test_monitor_rows : Monitor.next .ok 30 15 30 3 = .alarm ∧ Monitor.next .ok 15 15 30 3 = .warn ∧
    Monitor.next .ok 14 15 30 3 = .ok ∧ Monitor.next .warn 30 15 30 3 = .alarm ∧ Monitor.next .warn 11 15 30 3 = .ok ∧
    Monitor.next .warn 12 15 30 3 = .warn ∧ Monitor.next .alarm 11 15 30 3 = .ok ∧ Monitor.next .alarm 26 15 30 3 = .warn ∧
    Monitor.next .alarm 27 15 30 3 = .alarm ∧ Monitor.next .warn 0 2 30 3 = .warn := by decide

/-! ### The prediction tick and the roll search -/

def runsOut : State := stand 0 (fun x => { x with press := some 0, active := some 70114 }) (with1 (aRoll 70114 (.running 0)))

theorem test_prediction_tick : (dueNow .prediction (feeding 750 169351)).running = true ∧
    (feeding 750 169351).deadReckon 0 = stand 0 (fun x => { x with lr := 169226 })
      (withRolls [(1, { aRoll 70114 (.running 0) with lr := 169226 })] (feeding 750 169351)) ∧
    (feeding 750 125).deadReckon 0 = (stand 0 (fun x => { x with lr := 0 })
      (withRolls [(1, { aRoll 70114 (.running 0) with lr := 0 })] (feeding 750 125))).starveTest 0 ∧
    (runsOut.inLead 0 = false ∧ runsOut.deadReckon 0 = runsOut) ∧ base.deadReckon 0 = base ∧ ran .predictionTick base base = true ∧
    (match exec .predictionTick (dueNow .prediction (feeding 751 169351)) with
    | .next t => decide ((t.stand 0).lr = 169226 ∧ (t.stand 0).carry = 1 ∧ t.due = [])
    | _ => false) = true := by decide

/-- A call in SELECTED, due at second 5. -/
def selected : Call := { stand := 0, phase := .selected 70114, due := 5, early := false }

theorem test_judge_overdue : ({ withCalls [selected] base with clock := 60 } : State).judgeOverdue 0 =
      (withCalls [{ selected with overdue := true }] { base with clock := 60 }).raise .callOverdue 1 ∧
    ({ withCalls [selected] base with clock := 59 } : State).judgeOverdue 0 = { withCalls [selected] base with clock := 59 } ∧
    ({ withCalls [opened 5 false] base with clock := 60 } : State).judgeOverdue 0 = { withCalls [opened 5 false] base with clock := 60 } := by
  decide

/-- A search for stand 1 at slot n, over the roll given. -/
def searching (n : Nat) (b : Option Candidate) (r : Roll) : State :=
  { (with1 r).setPlace 12 { occupant := some r.id } with
    fdu := { base.fdu with calls := [{ opened 9 false with phase := .searching }], search := some { stand := 0, next := n, best := b } } }
    |> lead 0 |> usePress 0 |> stand 0 fun x => { x with press := some 0 }

def found : Candidate := { slot := 1, roll := 70114, hasRun := false, announced := 412300, place := 12 }

theorem test_search_step : (searching 1 none (aRoll 70114 (.stored 12))).noParity ∧
    ran .searchStep (searching 1 none (aRoll 70114 (.stored 12))) (searching 2 (some found) (aRoll 70114 (.stored 12))) = true ∧
    ran .searchStep (searching 1024 none (aRoll 70114 (.stored 12))) (searching 1025 none (aRoll 70114 (.stored 12))) = true ∧
    ran .searchStep (searching 1025 none (aRoll 70114 (.stored 12))) (searching 1025 none (aRoll 70114 (.stored 12))) = true := by
  unfold State.noParity; decide

theorem test_candidates : (searching 1 none (aRoll 70114 (.announced 1))).candidate? 0 1 = none ∧
    (searching 1 none { aRoll 70114 (.stored 12) with holds := { breaks := true } }).candidate? 0 1 = none ∧
    (searching 1 none { aRoll 70114 (.stored 12) with lr := 20000 }).candidate? 0 1 = some found ∧
    (searching 1 none { aRoll 70114 (.stored 12) with lr := 19999 }).candidate? 0 1 = none ∧
    ((searching 1 none (aRoll 70114 (.stored 12))).setPlace 12 { blocked := true }).candidate? 0 1 = none ∧
    (searching 1 none (aRoll 70114 (.stored 12))).candidate? 0 2 = none := by decide

theorem test_better_candidates : Candidate.better { found with hasRun := true } found = true ∧
    Candidate.better found { found with hasRun := true } = false ∧ Candidate.better { found with announced := 1 } found = true ∧
    Candidate.better { found with place := 11 } found = true ∧ Candidate.better found found = false := by decide

/-- The search for stand 1 has read every slot; there is no collector. -/
def scanned (b : Option Candidate) (n : Bool) (st : RollStatus) : State :=
  { searching 1025 b (aRoll 70114 st) with sfu := { mode := .normal } } |>
    fun s => { s with fdu := { s.fdu with search := s.fdu.search.map fun x => { x with noticed := n } } }

def idleSearch (c : List Call) (s : State) : State := { s with fdu := { s.fdu with search := none, calls := c } }

theorem test_search_complete : (scanned (some found) false (.stored 12)).candidate? 0 1 = some found ∧
    (scanned none false (.stored 12)).tmc.sizes.rolls < 1025 ∧
    ran .searchComplete (scanned (some found) false (.stored 12))
      (idleSearch [{ opened 9 false with phase := .selected 70114 }] (scanned none false (.reserved 12 (.call 0)))) = true ∧
    ran .searchComplete (scanned none false (.stored 12))
      ((idleSearch [{ opened 9 false with noRoll := true }] (scanned none false (.stored 12))).raise .noRoll 1) = true := by decide

theorem test_search_starts_anew : (scanned (some found) false (.announced 2)).candidate? 0 1 = none ∧
    ran .searchComplete (scanned (some found) false (.announced 2)) { (scanned none false (.announced 2)) with
      fdu := { (scanned none false (.announced 2)).fdu with search := some { stand := 0 } } } = true ∧
    ran .searchComplete (scanned none true (.stored 12)) { (scanned none true (.stored 12)) with
      fdu := { (scanned none true (.stored 12)).fdu with search := some { stand := 0 } } } = true := by decide

theorem test_availability : (withCalls [{ opened 9 false with noRoll := true }] base).availability =
      { base with fdu := { base.fdu with calls := [{ opened 9 false with phase := .searching }], search := some { stand := 0 } } } ∧
    (withCalls [{ opened 9 false with noRoll := true }] cfg).availability = withCalls [opened 9 false] cfg ∧
    (searching 7 none (aRoll 1 (.stored 12))).availability = { searching 7 none (aRoll 1 (.stored 12)) with
      fdu := { (searching 7 none (aRoll 1 (.stored 12))).fdu with search := some { stand := 0, next := 7, noticed := true } } } := by
  decide

theorem test_witness_two_calls_ordered :
    (withCalls [{ opened 8 false with phase := .searching }, { opened 9 false with stand := 1 }] base).callsOrdered := by
  unfold State.callsOrdered State.callPair; decide

/-! ### Autonomous running -/

def quiet (n : Nat) : State := { base with sfu := { base.sfu with linkPeriod := 600, linkCount := n } }

theorem test_link_silent : (quiet 600).sfu.linkPeriod ≤ (quiet 600).sfu.linkCount ∧
    ran .linkFallenSilent (dueNow .linkSilent (quiet 600)) ((withMode .autonomous (quiet 600)).raise .autonomous 0) = true ∧
    ran .linkFallenSilent base base = true := by decide

theorem test_resume : Does .resume (act [5]) { result := .wrongMode } base base ∧
    Does .resume (act [5]) { result := .ok } (withMode .autonomous (quiet 600)) (quiet 0) ∧
    Does .resume (act [5]) { result := .ok } (withMode .autonomous (withCalls [selected] base))
      ((withCalls [selected] base).placeUpper ⟨12, 241, 0x61, [1, 0, 1, 0x11, 0xE2, 0, 0, 0, 0, 0, 5]⟩) := by
  unfold Does Ready; decide

/-! ### Management requests -/

theorem test_request_outcomes : ran .start (asked (act [1]) (withMode .startUp base))
      ((withMode .startUp base).reply (act [1]) { result := .notReady }) = true ∧
    rowOf (act [1]) = .start ∧ ran .start (asked (act [1, 0]) base) (base.reply (act [1, 0]) { result := .badValue }) = true ∧
    rowOf (act [21]) = .badAction ∧
    ran .badActionRequest (asked (act [21]) base) (base.reply (act [21]) { result := .badAction }) = true ∧
    ran .mread (asked (act [1]) base) (asked (act [1]) base) = true ∧ ran .start base base = true := by decide

theorem test_reply_bytes : (State.reply (rq 0x71 [1, 0, 3, 9]) { result := .ok, data := [7], carried := 1 } base).ltu.upper =
      [⟨12, 241, 0x7F, [0x71, 0, 1, 0, 3, 1, 7]⟩] ∧
    (State.reply (act [6, 2]) { result := .badValue } base).ltu.upper = [⟨12, 241, 0x7F, [0x73, 4, 6, 2, 0, 0]⟩] ∧
    State.reply ⟨241, 0, 0x73, [1]⟩ { result := .ok } base = base := by decide

theorem test_form_check : formCheck (act []) = some .badAction ∧ formCheck (rq 0x71 []) = some .badTable ∧ formCheck (wr []) = some .badTable ∧
    formCheck (rq 0x75 [1]) = some .badAction ∧ formCheck (rq 0x71 [0, 0, 1, 1]) = some .badTable ∧
    formCheck (rq 0x72 [15, 0, 1, 1]) = some .badTable ∧ formCheck (rq 0x71 [14, 0, 1, 1]) = none ∧
    formCheck (rq 0x71 [1, 0, 1]) = some .badValue ∧ formCheck (rq 0x71 [1, 0, 1, 0]) = some .badIndex ∧
    formCheck (wr [1, 0, 1, 1, 0, 0, 0]) = some .badValue ∧ formCheck (wr [1, 0, 1, 1, 0, 0, 0, 0]) = none ∧
    formCheck (act [0]) = some .badAction ∧ formCheck (act [21]) = some .badAction ∧
    formCheck (act [20, 0, 0, 0]) = some .badValue ∧ formCheck (act [20, 0, 0, 0, 0]) = none ∧
    formCheck (rq 0x74 [0, 0, 0, 1, 0]) = some .badValue ∧ formCheck (rq 0x74 [0, 0, 0, 1, 0, 0]) = none := by decide

/-- The sizes of the MWRITE forms at both ends of each table (R188). -/
def formOf (code i size : Nat) : Bool := decide (formCheck (wr ([code, 0, i, 1] ++ List.replicate size 0)) = none)

theorem test_record_sizes_of_writes : formOf 1 1 4 = true ∧ formOf 2 1 5 = true ∧ formOf 3 1 23 = true ∧ formOf 4 1 40 = true ∧
    formOf 5 1 9 = true ∧ formOf 6 1 34 = true ∧ formOf 7 1 31 = true ∧ formOf 8 1 24 = true ∧ formOf 9 4 18 = true ∧
    formOf 9 5 10 = true ∧ formOf 10 4 18 = true ∧ formOf 10 5 10 = true ∧ formOf 11 1 4 = true ∧ formOf 12 1 13 = true ∧
    formOf 13 4 43 = true ∧ formOf 13 5 36 = true ∧ formOf 14 1 15 = true := by decide

def reads (code i n : Nat) (a : Answer) (s : State) : Prop := Does .mread (rq 0x71 [code, i / 256, i % 256, n]) a s s

theorem test_read_of_a_roll : reads 6 1 2 { result := .ok, carried := 1, data :=
    [0, 1, 0x11, 0xE2, 12, 7, 8, 4, 0xE2, 100, 72, 4, 0xE2, 0, 2, 0x95, 0x87, 0, 3, 0, 2] ++ List.replicate 9 0 ++ [0, 6, 0x4A, 0x8C] }
    (with1 (aRoll 70114 (.announced 2))) := by unfold reads Does Ready; decide

theorem test_reads_of_nodes : reads 1 8 57 { result := .ok, carried := 13, data := [171, 2, 1, 0] ++ List.replicate 48 0 } base ∧
    reads 1 64 1 { result := .ok, carried := 1, data := [0, 0, 0, 0] } base ∧ reads 1 64 2 { result := .badIndex } base ∧
    reads 1 0 1 { result := .badIndex } base ∧ tableMax base 1 = 64 := by unfold reads Does Ready; decide

theorem test_reads_of_calls : reads 14 24 9 { result := .ok, carried := 1, data := longBody 15 } base ∧ reads 14 25 1 { result := .badIndex } base ∧
    reads 14 1 1 { result := .ok, carried := 1, data := [1, 0, 0, 0, 0, 0, 0, 0, 0, 0, 0, 0, 9, 0, 0] }
      (withCalls [opened 9 false] base) := by unfold reads Does Ready; decide

/-- A part whose HALL fields all differ from their reset values. -/
def aHall : State :=
  { base with
    pins := { base.pins with addr := 5, msizeHigh := true }
    clock := 90000
    ltu := { base.ltu with upperErrors := 3, floorErrors := 4, urgent := [otherClass], normal := [otherClass, otherClass], upper := [] }
    tcu := { base.tcu with claimDepth := 4, zones := base.tcu.zones.set 7 { haltOne := true, lost := 1, intruders := 0x8000 } }
    vou := { base.vou with retryInterval := 20 }
    tmc := { base.tmc with sizes := ⟨2048, 1024, 128⟩ }
    fdu := { base.fdu with
      settings := base.fdu.settings.set 3 { slew := 11, silence := 30, holdover := 700, floor := 31 }
      tolerance := 9, implausibleLimit := 4, lateMargin := 60, starved := 0x800000, lastStarved := 24, lastStarvedTick := 89000 }
    scu := { base.scu with closed := [{ press := 0, run := aRun, endTick := 7, cause := .ended }], scrapped := 70000 }
    sfu := { mode := .autonomous, collector := 12, linkPeriod := 300, linkCount := 77 } }

/-- MREAD of HALL from a field onward reads these values. -/
def hallReads (f : Nat) (l : List Nat) : Prop :=
  reads 11 f l.length { result := .ok, carried := l.length, data := l.flatMap be32 } aHall

theorem test_reads_of_hall :
    hallReads 1 [12, 4, 20, 9, 4, 60, 300, 0, 0, 0, 0, 0, 0] ∧ hallReads 14 [0, 1] ∧ hallReads 19 [11] ∧
    hallReads 23 [30] ∧ hallReads 27 [700] ∧ hallReads 31 [31, 3, 90000, 3, 4, 1, 2, 0] ∧ hallReads 46 [0, 0x18000, 24, 89000, 0x800000] ∧
    hallReads 51 [1, 70000, 77, 2048, 1024, 128, 131072, 246] ∧ reads 11 58 2 { result := .badIndex } base := by
  unfold hallReads reads Does Ready; decide

theorem test_reads_of_free_slots : reads 4 256 1 { result := .ok, carried := 1, data := longBody 40 } base ∧
    reads 6 1024 1 { result := .ok, carried := 1, data := longBody 34 } base ∧ reads 4 257 1 { result := .badIndex } base ∧
    reads 6 1025 1 { result := .badIndex } base := by unfold reads Does Ready; decide

/-- An MWRITE of one record in each index of a table, with n records from i. -/
def wrAt (code i n : Nat) (l : List Nat) : Telegram := wr ([code, i / 256, i % 256, n] ++ l)

def zeros (n : Nat) : List Nat := List.replicate n 0

theorem test_write_segments : Does .mwriteSegments (wrAt 3 255 1 ([2, 8] ++ zeros 21)) { result := .ok } cfg (seg 255 2 8 cfg) ∧
    Does .mwriteSegments (wrAt 3 1 2 ([1, 1] ++ zeros 21 ++ [0, 9] ++ zeros 21)) { result := .ok } cfg (seg 2 0 9 (seg 1 1 1 cfg)) ∧
    Does .mwriteSegments (wrAt 3 1 1 ([3, 1] ++ zeros 21)) { result := .badValue } cfg cfg ∧
    Does .mwriteSegments (wrAt 3 1 1 ([1, 0] ++ zeros 21)) { result := .badValue } cfg cfg ∧
    Does .mwriteSegments (wrAt 3 1 1 ([1, 9] ++ zeros 21)) { result := .badValue } cfg cfg := by unfold Does Ready; decide

theorem test_write_segments_index : Does .mwriteSegments (wrAt 3 0 1 (zeros 23)) { result := .badIndex } cfg cfg ∧
    Does .mwriteSegments (wrAt 3 255 2 (zeros 46)) { result := .badIndex } cfg cfg ∧
    Does .mwriteSegments (wrAt 3 1 1 (zeros 23)) { result := .wrongMode } base base := by unfold Does Ready; decide

theorem test_write_places : Does .mwritePlaces (wrAt 5 512 1 ([255, 8] ++ zeros 7)) { result := .ok } cfg
      (cfg.setPlace 512 { access := 255, zone := 8 }) ∧
    Does .mwritePlaces (wrAt 5 1 2 (zeros 9 ++ [1, 9] ++ zeros 7)) { result := .badValue } cfg cfg ∧
    Does .mwritePlaces (wrAt 5 512 2 (zeros 18)) { result := .badIndex } cfg cfg ∧
    Does .mwritePlaces (wrAt 5 1 1 (zeros 9)) { result := .wrongMode } base base := by unfold Does Ready; decide

/-- A ROUTES record. -/
def routeRec (a b : List Nat) (l : List Nat) : List Nat :=
  [1] ++ a ++ b ++ [l.length] ++ l.flatMap (fun n => [n / 256, n % 256]) ++ zeros (32 - 2 * l.length)

def oneRoute : State := withRoutes [(7, road ⟨.home, 1⟩ ⟨.dock, 2⟩ [20, 21])] cfg

theorem test_write_routes : Does .mwriteRoutes (wrAt 4 256 1 (routeRec [5, 0, 1] [3, 0, 1] (List.replicate 16 20))) { result := .ok }
      oneRoute (withRoutes [(7, road ⟨.home, 1⟩ ⟨.dock, 2⟩ [20, 21]), (256, road ⟨.home, 1⟩ ⟨.dock, 1⟩ (List.replicate 16 20))] cfg) ∧
    Does .mwriteRoutes (wrAt 4 7 1 (zeros 40)) { result := .ok } oneRoute cfg ∧
    Does .mwriteRoutes (wrAt 4 8 1 (routeRec [5, 0, 1] [3, 0, 2] [20])) { result := .duplicate } oneRoute oneRoute ∧
    Does .mwriteRoutes (wrAt 4 257 1 (zeros 40)) { result := .badIndex } cfg cfg ∧
    Does .mwriteRoutes (wrAt 4 1 1 (zeros 40)) { result := .wrongMode } base base := by unfold Does Ready; decide

theorem test_write_routes_values : Does .mwriteRoutes (wrAt 4 1 1 (routeRec [7, 0, 1] [3, 0, 1] [20])) { result := .badValue } cfg cfg ∧
    Does .mwriteRoutes (wrAt 4 1 1 (routeRec [5, 0, 1] [0, 0, 1] [20])) { result := .badValue } cfg cfg ∧
    Does .mwriteRoutes (wrAt 4 1 1 (routeRec [5, 0, 1] [6, 0, 1] [20])) { result := .badValue } cfg cfg ∧
    Does .mwriteRoutes (wrAt 4 1 1 (routeRec [3, 0, 1] [3, 0, 1] [20])) { result := .badValue } cfg cfg ∧
    Does .mwriteRoutes (wrAt 4 1 1 (routeRec [5, 0, 1] [3, 0, 9] [20])) { result := .badValue } cfg cfg ∧
    Does .mwriteRoutes (wrAt 4 1 1 (routeRec [5, 0, 1] [3, 0, 1] [])) { result := .badValue } cfg cfg ∧
    Does .mwriteRoutes (wrAt 4 1 1 (routeRec [5, 0, 1] [3, 0, 1] [20, 0])) { result := .badValue } cfg cfg ∧
    Does .mwriteRoutes (wrAt 4 1 1 (routeRec [6, 0, 255] [4, 0, 4] [1])) { result := .ok } cfg
      (withRoutes [(1, road ⟨.segment, 255⟩ ⟨.waste, 4⟩ [1])] cfg) := by unfold Does Ready; decide

theorem test_witness_no_route_clash : anyClash Route.clashes (oneRoute.tmc.routes.map Prod.snd) = false ∧
    anyClash NodeEntry.clashes (cfg.nd.map Prod.snd) = false := by decide

theorem test_write_a_node : Does .mwriteNodes (wrAt 1 64 1 [240, 0, 15, 51]) { result := .clamped } cfg
      { cfg with nd := cfg.nd ++ [(64, ⟨240, .vehicle, 15, 50⟩)] } ∧
    Does .mwriteNodes (wrAt 1 9 1 [1, 3, 4, 9]) { result := .ok } cfg { cfg with nd := cfg.nd ++ [(9, ⟨1, .drive, 4, 0⟩)] } ∧
    Does .mwriteNodes (wrAt 1 9 1 [12, 4, 99, 9]) { result := .ok } cfg { cfg with nd := cfg.nd ++ [(9, ⟨12, .upper, 0, 0⟩)] } ∧
    Does .mwriteNodes (wrAt 1 8 1 [0, 9, 9, 9]) { result := .ok } cfg { cfg with nd := cfg.nd.take 7 } := by unfold Does Ready; decide

theorem test_write_a_node_refused : Does .mwriteNodes (wrAt 1 9 1 [241, 0, 15, 20]) { result := .badValue } cfg cfg ∧
    Does .mwriteNodes (wrAt 1 9 1 [1, 5, 1, 20]) { result := .badValue } cfg cfg ∧
    Does .mwriteNodes (wrAt 1 9 1 [1, 0, 17, 20]) { result := .badValue } cfg cfg ∧
    Does .mwriteNodes (wrAt 1 9 1 [1, 1, 0, 0]) { result := .badValue } cfg cfg ∧
    Does .mwriteNodes (wrAt 1 9 1 [101, 0, 15, 20]) { result := .duplicate } cfg cfg ∧
    Does .mwriteNodes (wrAt 1 9 1 [1, 0, 16, 20]) { result := .duplicate } cfg cfg ∧
    Does .mwriteNodes (wrAt 1 65 1 [1, 0, 15, 20]) { result := .badIndex } cfg cfg ∧
    Does .mwriteNodes (wrAt 1 9 1 [1, 0, 15, 20]) { result := .wrongMode } base base ∧
    Does .mwriteNodes (wrAt 1 1 1 [0, 0, 0, 0]) { result := .wrongState } (idle 0 cfg) (idle 0 cfg) := by unfold Does Ready; decide

def hall (f : Nat) (v : Nat) : Telegram := wrAt 11 f 1 [0, 0, v / 256, v % 256]

theorem test_write_hall : Does .mwriteHall (hall 1 240) { result := .ok } base { base with sfu := { base.sfu with collector := 240 } } ∧
    Does .mwriteHall (hall 1 241) { result := .badValue } base base ∧
    Does .mwriteHall (hall 2 9) { result := .clamped } cfg { cfg with tcu := { cfg.tcu with claimDepth := 4 } } ∧
    Does .mwriteHall (hall 2 3) { result := .wrongMode } base base ∧ Does .mwriteHall (hall 32 0) { result := .badIndex } base base ∧
    Does .mwriteHall (hall 0 0) { result := .badIndex } base base ∧
    Does .mwriteHall (hall 15 1) { result := .ok } cfg { cfg with tcu := { cfg.tcu with zones := cfg.tcu.zones.set 7 { haltOne := true } } } ∧
    Does .mwriteHall (hall 8 2) { result := .badValue } cfg cfg := by unfold Does Ready; decide

theorem test_write_hall_tuning : Does .mwriteHall (hall 7 601) { result := .clamped } (quiet 9) (quiet 0) ∧
    Does .mwriteHall (hall 6 1001) { result := .clamped } base { base with fdu := { base.fdu with lateMargin := 1000 } } ∧
    Does .mwriteHall (hall 19 9) { result := .clamped } base
      { base with fdu := { base.fdu with settings := base.fdu.settings.set 3 { slew := 10 } } } ∧
    Does .mwriteHall (hall 31 200) { result := .ok } base
      { base with fdu := { base.fdu with settings := base.fdu.settings.set 3 { floor := 200 } } } := by unfold Does Ready; decide

theorem test_hall_clamps : [2, 3, 4, 5, 6, 7, 16, 20, 24, 28].map (fun f => (hallClamp f 0, hallClamp f 65535)) =
    [(2, 4), (1, 50), (0, 20), (1, 15), (0, 1000), (0, 600), (10, 600), (1, 50), (1, 600), (5, 200)] := by decide

def vrec (home window causes : Nat) : Telegram := wrAt 2 1 1 [5, 0, home, window, causes]

theorem test_write_vehicle : Does .mwriteVehicles (vrec 16 4 0) { result := .clamped } cfg
      (veh 0 (fun x => { x with home := 16, window := 3 }) cfg) ∧
    Does .mwriteVehicles (vrec 16 2 0) { result := .wrongMode } base base ∧
    Does .mwriteVehicles (vrec 17 2 0) { result := .badValue } cfg cfg ∧ Does .mwriteVehicles (vrec 0 2 0) { result := .badValue } cfg cfg ∧
    Does .mwriteVehicles (wrAt 2 1 1 [3, 0, 1, 2, 0]) { result := .badValue } cfg cfg ∧
    Does .mwriteVehicles (wrAt 2 0 1 [5, 0, 1, 2, 0]) { result := .badIndex } cfg cfg ∧
    Does .mwriteVehicles (wrAt 2 16 2 ([5, 0, 1, 2, 0] ++ [5, 0, 1, 2, 0])) { result := .badIndex } cfg cfg := by
  unfold Does Ready; decide

theorem test_management_halt : Does .mwriteVehicles (vrec 1 2 4) { result := .ok } (idle 0 base)
      ((veh 0 (fun x => { x with causes := { management := true } }) (idle 0 base)).sendHold 0) ∧
    Does .mwriteVehicles (vrec 1 2 0) { result := .ok } base base ∧
    Does .mwriteVehicles (vrec 1 2 0) { result := .ok } (veh 0 (fun x => { x with causes := { management := true } }) base) base ∧
    Does .mwriteVehicles (vrec 1 2 0) { result := .ok } (veh 0 (fun x => { x with status := .busy, causes := { deadlock := true } }) base)
      ((veh 0 (fun x => { x with status := .busy }) base).sendRelease 0) := by unfold Does Ready; decide

theorem test_write_stand : Does .mwriteStands (wrAt 7 24 1 (4 :: zeros 30)) { result := .ok } cfg
      (stand 23 (fun x => { x with press := some 3 }) cfg) ∧
    Does .mwriteStands (wrAt 7 1 1 (5 :: zeros 30)) { result := .badValue } cfg cfg ∧
    Does .mwriteStands (wrAt 7 1 1 (zeros 31)) { result := .ok } base base ∧
    Does .mwriteStands (wrAt 7 1 1 (1 :: zeros 30)) { result := .wrongMode } base base ∧
    Does .mwriteStands (wrAt 7 25 1 (zeros 31)) { result := .badIndex } cfg cfg ∧
    Does .mwriteStands (wrAt 7 0 1 (zeros 31)) { result := .badIndex } cfg cfg := by unfold Does Ready; decide

/-- An announcement with the fields given. -/
def announce (id : List Nat) (grade width dann core caliper kind dock : Nat) : Telegram :=
  wr ([6, 0, 0, 1] ++ id ++ [grade, width / 256, width % 256, dann / 256, dann % 256, core, caliper] ++ zeros 7 ++ [kind, 0, dock] ++ zeros 13)

theorem test_announce : Does .rollAnnounce (announce [0, 1, 0x11, 0xE2] 12 1800 1250 100 72 3 2) { result := .ok }
      { base with clock := 412300 } (withRolls [(1, aRoll 70114 (.announced 2))] { base with clock := 412300 }) ∧
    Does .rollAnnounce (announce [0, 1, 0x11, 0xE2] 12 1800 1250 100 72 3 2) { result := .duplicate }
      (with1 (aRoll 70114 (.stored 3))) (with1 (aRoll 70114 (.stored 3))) ∧
    Does .rollAnnounce (announce [0, 0, 0, 0] 12 1800 1250 100 72 3 2) { result := .badValue } base base ∧
    Does .rollAnnounce (announce [255, 255, 255, 255] 12 1800 1250 100 72 3 2) { result := .badValue } base base := by
  unfold Does Ready; decide

def announced (grade width dann core caliper kind dock : Nat) : Result :=
  (State.announceRoll (announce [0, 0, 0, 9] grade width dann core caliper kind dock) base).1.result

theorem test_announce_ranges : announced 1 300 400 70 40 3 1 = .ok ∧ announced 63 2200 1500 160 150 3 8 = .ok ∧
    announced 0 300 400 70 40 3 1 = .badValue ∧ announced 64 300 400 70 40 3 1 = .badValue ∧
    announced 1 299 400 70 40 3 1 = .badValue ∧ announced 1 2201 400 70 40 3 1 = .badValue ∧
    announced 1 300 399 70 40 3 1 = .badValue ∧ announced 1 300 1501 70 40 3 1 = .badValue ∧
    announced 1 300 400 69 40 3 1 = .badValue ∧ announced 1 300 400 161 40 3 1 = .badValue ∧
    announced 1 300 400 70 39 3 1 = .badValue ∧ announced 1 300 400 70 151 3 1 = .badValue ∧
    announced 1 300 400 70 40 3 0 = .badValue ∧ announced 1 300 400 70 40 3 9 = .badValue ∧ announced 1 300 400 70 40 1 1 = .badValue := by
  decide

def smallTable : State := { with1 (aRoll 1 (.stored 1)) with tmc := { (with1 (aRoll 1 (.stored 1))).tmc with sizes := { rolls := 1 } } }

theorem test_announce_fills : Does .rollAnnounce (announce [0, 0, 0, 9] 1 300 400 70 40 3 1) { result := .noFit } smallTable smallTable ∧
    Does .rollAnnounce (wr ([6, 0, 1, 1] ++ zeros 34)) { result := .badIndex } base base ∧
    freeKey 1 [(1, aRoll 1 (.stored 1)), (3, aRoll 3 (.stored 1))] = 2 ∧ Table.rising smallTable.tmc.rolls = true := by
  unfold Does Ready; decide

/-! ### Plans -/

def partBytes : List Nat := [1, 2, 48, 2, 188, 7, 208, 0, 15, 0, 30, 0, 3, 1, 44, 1, 244, 2]

def standBytes (l g w : Nat) : List Nat := [l, g, w / 256, w % 256, 7, 208, 0, 160, 3, 132]

def nextPress (p : PressIx) (x : PressPart) (s : State) : State := { s with pls := { s.pls with nextPress := s.pls.nextPress.set p x } }

def nextStand (p : StandIx) (x : StandPart) (s : State) : State := { s with pls := { s.pls with nextStand := s.pls.nextStand.set p x } }

def readied (s : State) : State := { s with pls := { s.pls with ready := s.pls.ready.set 3 true } }

def owned (s : State) : State := stand 23 (fun x => { x with press := some 3 }) s

theorem test_write_plan : Does .mwritePlanNext (wrAt 10 4 1 partBytes) { result := .ok } (readied base) (nextPress 3 pp base) ∧
    Does .mwritePlanNext (wrAt 10 28 1 (standBytes 1 12 1800)) { result := .ok } (readied (owned base)) (nextStand 23 (sp true) (owned base)) ∧
    Does .mwritePlanNext (wrAt 10 28 1 (standBytes 1 12 1800)) { result := .badIndex } base base ∧
    Does .mwritePlanNext (wrAt 10 0 1 partBytes) { result := .badIndex } base base ∧
    Does .mwritePlanNext (wrAt 10 29 1 (standBytes 1 12 1800)) { result := .badIndex } base base := by unfold Does Ready; decide

theorem test_write_plan_values : Does .mwritePlanNext (wrAt 10 1 1 (2 :: partBytes.tail)) { result := .badValue } base base ∧
    Does .mwritePlanNext (wrAt 10 28 1 (standBytes 2 12 1800)) { result := .badValue } (owned base) (owned base) ∧
    Does .mwritePlanNext (wrAt 10 28 1 (standBytes 1 0 1800)) { result := .badValue } (owned base) (owned base) ∧
    Does .mwritePlanNext (wrAt 10 28 1 (standBytes 1 64 1800)) { result := .badValue } (owned base) (owned base) ∧
    Does .mwritePlanNext (wrAt 10 28 1 (standBytes 1 63 2201)) { result := .badValue } (owned base) (owned base) ∧
    Does .mwritePlanNext (wrAt 10 28 1 (standBytes 1 1 299)) { result := .badValue } (owned base) (owned base) ∧
    Does .mwritePlanNext (wrAt 10 4 1 (zeros 18)) { result := .clamped } base (nextPress 3 (PressPart.clamp {}) base) := by
  unfold Does Ready; decide

def planned (l : Bool) : State := nextPress 3 pp (nextStand 23 (sp l) (owned base))

theorem test_plan_ready : Does .planReady (act [6, 4]) { result := .ok } (planned true) (readied (planned true)) ∧
    Does .planReady (act [6, 4]) { result := .badValue } (readied (planned false)) (planned false) ∧
    Does .planReady (act [6, 4]) { result := .badValue } (readied base) base ∧
    Does .planReady (act [6, 0]) { result := .badIndex } base base ∧ Does .planReady (act [6, 5]) { result := .badIndex } base base ∧
    pp.clamp = pp ∧ (sp true).clamp = sp true ∧ (sp true).paperOk = true := by unfold Does Ready; decide

def swapped (x : StandPart) (s : State) : State :=
  { s with pls := { s.pls with activePress := s.pls.activePress.set 3 pp, activeStand := s.pls.activeStand.set 23 x } }

def outgoing : State := stand 23 (fun x => { x with state := .feeding, lres := 1701, ts := 9 }) (swapped (sp true) (planned false))

theorem test_plan_swap : Does .planSwap (act [7, 4]) { result := .wrongState } (planned true) ((planned true).raise .planNotReady 4) ∧
    Does .planSwap (act [7, 4]) { result := .ok } (readied (nextPress 3 pp base))
      { nextPress 3 pp base with pls := { (nextPress 3 pp base).pls with activePress := base.pls.activePress.set 3 pp } } ∧
    outgoing.inLead 23 = true ∧ (∀ r, (outgoing.stand r).press = some 3 ↔ r = 23) ∧
    Does .planSwap (act [7, 4]) { result := .ok } (readied outgoing) (stand 23 (fun x => { x with state := .out, lres := 0, ts := 65535 })
      (swapped (sp false) outgoing)) := by unfold Does Ready; decide

/-! ### Runs, starved stands, blocks and roll actions -/

def closedOne : ClosedRun := { press := 3, run := aRun, endTick := 7, cause := .ended }

theorem test_take_run : Does .takeRun (act [19]) { result := .notFound } base base ∧
    Does .takeRun (act [19]) { result := .ok, data := closedOne.bytes }
      { base with scu := { base.scu with closed := [closedOne] } } base := by unfold Does Ready; decide

theorem test_clear_starved : Does .clearStarved (act [20, 0, 128, 0, 1]) { result := .ok }
      { base with fdu := { base.fdu with starved := 0x800003 } } { base with fdu := { base.fdu with starved := 2 } } ∧
    Does .clearStarved (act [20, 1, 0, 0, 0]) { result := .badValue } base base := by unfold Does Ready; decide

theorem test_write_of_another_table : Does .mwriteOther (wr ([8, 0, 1, 1] ++ zeros 24)) { result := .badTable } base base ∧
    Does .mwriteOther (wr ([14, 0, 1, 1] ++ zeros 15)) { result := .badTable } base base := by unfold Does Ready; decide

def blockedSeg (b : Bool) : State := way.setSeg 21 { capacity := 1, zone := 1, blocked := b }

theorem test_block_segment : Does .blockSegment (act [11, 2, 0, 21]) { result := .ok } way (blockedSeg true) ∧
    Does .blockSegment (act [11, 2, 0, 0]) { result := .badIndex } way way ∧
    Does .blockSegment (act [11, 2, 1, 0]) { result := .badIndex } way way ∧
    Does .blockSegment (act [11, 2, 0, 99]) { result := .badIndex } way way ∧
    Does .unblockSegment (act [12, 2, 0, 21]) { result := .ok } (blockedSeg true) (blockedSeg false) ∧
    Does .unblockSegment (act [12, 2, 0, 21]) { result := .ok } way way ∧
    Does .unblockSegment (act [12, 2, 0, 99]) { result := .badIndex } way way := by unfold Does Ready; decide

theorem test_block_place : Does .blockPlace (act [11, 1, 2, 0]) { result := .ok } base (base.setPlace 512 { blocked := true }) ∧
    Does .blockPlace (act [11, 1, 2, 1]) { result := .badIndex } base base ∧ Does .blockPlace (act [11, 1, 0, 0]) { result := .badIndex } base base ∧
    Does .blockPlace (act [11, 3, 0, 1]) { result := .badValue } base base ∧ Does .unblockPlace (act [12, 0, 0, 1]) { result := .badValue } base base := by
  unfold Does Ready; decide

def shut (st : RollStatus) (b : Bool) : State :=
  withCalls [{ opened 9 false with noRoll := true }] ((roll1 st).setPlace 5 { blocked := b, occupant := some 70114 })

theorem test_unblock_place : (shut (.stored 5) true).findRoll 70114 = some (1, aRoll 70114 (.stored 5)) ∧
    Does .unblockPlace (act [12, 1, 0, 5]) { result := .ok } (shut (.stored 5) true) (shut (.stored 5) false).availability ∧
    Does .unblockPlace (act [12, 1, 0, 5]) { result := .ok } (shut (.reserved 5 .management) true) (shut (.reserved 5 .management) false) ∧
    Does .unblockPlace (act [12, 1, 0, 5]) { result := .ok } (shut (.stored 5) false) (shut (.stored 5) false) ∧
    Does .unblockPlace (act [12, 1, 0, 5]) { result := .ok } (base.setPlace 5 { blocked := true }) base ∧
    Does .unblockPlace (act [12, 1, 0, 5]) { result := .ok } (base.setPlace 5 { blocked := true, occupant := some 5 })
      (base.setPlace 5 { occupant := some 5 }) := by unfold Does Ready; decide

theorem test_unblock_place_sound : (shut (.stored 5) true).noParity ∧ (shut (.stored 5) true).tablesWf = true ∧
    (shut (.reserved 5 .management) true).noParity ∧ (shut (.reserved 5 .management) true).tablesWf = true ∧
    (shut (.stored 5) false).noParity ∧ (shut (.stored 5) false).tablesWf = true ∧
    (base.setPlace 5 { blocked := true }).noParity ∧ (base.setPlace 5 { blocked := true }).tablesWf = true ∧
    (base.setPlace 5 { blocked := true, occupant := some 5 }).noParity ∧
    (base.setPlace 5 { blocked := true, occupant := some 5 }).tablesWf = true := by unfold State.noParity; decide

/-- An MROLL of roll 70114. -/
def mr (sel action : Nat) : Telegram := rq 0x74 [0, 1, 0x11, 0xE2, sel, action]

def said (r : Result) (data : List Byte) : Answer := { result := r, data := data }

def stored5 (s : State) : State := s.setPlace 5 { occupant := some 70114 }

theorem test_roll_query : (stored5 (roll1 (.stored 5))).tablesWf = true ∧ (stored5 (roll1 (.stored 5))).noParity ∧
    Does .mrollNone (mr 0 0) (said .ok [0]) (stored5 (roll1 (.stored 5))) (stored5 (roll1 (.stored 5))) ∧
    Does .mrollNone (mr 1 0) (said .ok (1 :: (aRoll 70114 (.stored 5)).bytes)) (stored5 (roll1 (.stored 5))) (stored5 (roll1 (.stored 5))) ∧
    Does .mrollNone (mr 2 0) (said .ok (1 :: (aRoll 70114 (.stored 5)).bytes)) (stored5 (roll1 (.stored 5))) (stored5 (roll1 (.stored 5))) ∧
    Does .mrollNone (mr 2 0) (said .ok [0]) onBoard onBoard ∧ Does .mrollNone (mr 3 0) (said .ok [2]) base base ∧
    Does .mrollHold (mr 3 3) (said .notFound [2]) base base ∧ Does .mrollNone (mr 4 0) (said .badAction [0]) base base ∧
    Does .mrollNone (rq 0x74 [0, 0, 0, 0, 1, 0]) (said .badValue [0]) base base := by unfold Does Ready State.noParity; decide

theorem test_bad_roll_actions : Does .mrollNone (mr 0 6) (said .badAction [0]) base base ∧
    Does .mrollRemove (mr 4 5) (said .badAction [0]) base base ∧
    Does .mrollReserve (rq 0x74 [255, 255, 255, 255, 3, 1]) (said .badValue [0]) base base := by unfold Does Ready; decide

theorem test_roll_reserve : Does .mrollReserve (mr 0 1) (said .ok [0]) (stored5 (roll1 (.stored 5))) (stored5 (roll1 (.reserved 5 .management))) ∧
    Does .mrollReserve (mr 0 1) (said .ok [0]) (stored5 (roll1 (.reserved 5 .management))) (stored5 (roll1 (.reserved 5 .management))) ∧
    Does .mrollReserve (mr 0 1) (said .callOwned [0]) (stored5 (roll1 (.reserved 5 (.call 0)))) (stored5 (roll1 (.reserved 5 (.call 0)))) ∧
    Does .mrollReserve (mr 0 1) (said .wrongState [0]) onBoard onBoard ∧
    Does .mrollReserve (mr 0 1) (said .wrongState [0]) ((roll1 (.stored 5)).setPlace 5 { blocked := true, occupant := some 70114 })
      ((roll1 (.stored 5)).setPlace 5 { blocked := true, occupant := some 70114 }) := by unfold Does Ready; decide

theorem test_roll_release : Does .mrollRelease (mr 0 2) (said .ok [0]) (stored5 (roll1 (.reserved 5 .management))) (stored5 (roll1 (.stored 5))) ∧
    Does .mrollRelease (mr 0 2) (said .callOwned [0]) (stored5 (roll1 (.reserved 5 (.call 0)))) (stored5 (roll1 (.reserved 5 (.call 0)))) ∧
    Does .mrollRelease (mr 0 2) (said .wrongState [0]) onBoard onBoard := by unfold Does Ready; decide

def heldRoll (h : Holds) (st : RollStatus) : State := idle 0 (with1 { aRoll 70114 st with holds := h })

theorem test_roll_holds : Does .mrollHold (mr 0 3) (said .ok [0]) (roll1 (.announced 1)) (heldRoll { management := true } (.announced 1)) ∧
    Does .mrollUnhold (mr 0 4) (said .ok [0]) (heldRoll { parity := true, breaks := true, diameter := true, lostTrack := true, management := true } (.carried none))
      (heldRoll { lostTrack := true } (.carried none)) ∧
    Does .mrollUnhold (mr 0 4) (said .ok [0]) (heldRoll { lostTrack := true } (.announced 1)) (roll1 (.announced 1)) := by
  unfold Does Ready; decide

theorem test_roll_remove : Does .mrollRemove (mr 1 5) (said .ok (1 :: (aRoll 70114 (.announced 1)).bytes)) (roll1 (.announced 1)) (idle 0 base) ∧
    Does .mrollRemove (mr 0 5) (said .ok [0]) (stored5 (roll1 (.stored 5))) (idle 0 base) ∧
    Does .mrollRemove (mr 0 5) (said .wrongState [0]) onBoard onBoard := by unfold Does Ready; decide

/-! ### Modes, vehicles and zones -/

def aging : State := veh 0 (fun x => { x with status := .idle, supCount := 9 }) (speedOf 2 (fun x => { x with age := 7, interval := some 3 })
  { cfg with fdu := { cfg.fdu with predictionCount := 4 } })

theorem test_start : Does .start (act [1]) { result := .wrongMode } base base ∧
    (∀ v, (aging.vehicle v).causes = ⟨false, false, false, false⟩ ∧ (aging.vehicle v).queue = []) ∧
    (∀ st, aging.inLead st = false ∧ (aging.stand st).ts = 65535) ∧
    Does .start (act [1]) { result := .ok } aging (idle 0 base) := by unfold Does Ready; decide

def reservedNow : State := { withCalls [selected] (with1 (aRoll 70114 (.reserved 5 (.call 0)))) with due := [.prediction] }

theorem test_config : Does .config (act [2]) { result := .ok } cfg cfg ∧ Does .config (act [2]) { result := .floorBusy } way way ∧
    Does .config (act [2]) { result := .ok } reservedNow (withRolls [(1, aRoll 70114 (.stored 5))] cfg) ∧
    (∀ v, (reservedNow.vehicle v).status ≠ .lost) := by unfold Does Ready; decide

/-- Vehicle 1 LOST in NORMAL, its retry count running. -/
def astray (n : Nat) (st : VStatus) : State → State := veh 0 fun x => { x with status := st, retryCount := n, supCount := 20 }

theorem test_config_finds_lost_vehicles : (astray 7 .lost reservedNow).noParity ∧
    (∀ v z, ((astray 7 .lost reservedNow).vehicle v).status = .lost →
      ((astray 7 .lost reservedNow).zone z).lost.getLsbD v.val = false) ∧
    Does .config (act [2]) { result := .ok } (astray 7 .lost reservedNow)
      (astray 0 .idle (withRolls [(1, aRoll 70114 (.stored 5))] cfg)) := by unfold Does Ready State.noParity; decide

/-- Two vehicles not OFF, an order, a claim, a call and a latched flag. -/
def lively : State :=
  stored5 { idle 15 (withRolls [(1, aRoll 70114 (.reserved 5 .management))] way) with
    fdu := { way.fdu with calls := [opened 9 false], starved := 1 }
    scu := running.scu
    ltu := { normal := [otherClass], upperErrors := 3 } } |>.raise .vehicleLost 1

theorem test_restart : lively.tablesWf = true ∧ lively.pins.alarmLow = true ∧
    Does .restart (act [3]) { result := .ok } lively
      { stored5 (idle 15 (idle 0 (withRolls [(1, aRoll 70114 (.stored 5))] cfg))) with
        tcu := { way.tcu with segments := [(20, { capacity := 1, zone := 1 }), (21, { capacity := 1, zone := 1 }), (22, { capacity := 2, zone := 2 })] }
        vou := (idle 15 (veh 0 (fun x => { x with status := .idle, currentSeg := 20 }) cfg)).vou
        ltu := { urgent := [⟨101, 241, 0x52, [0x20]⟩, ⟨116, 241, 0x52, [0x20]⟩], upperErrors := 3 } } := by unfold Does Ready; decide

def parts (r p q : Nat) : Telegram := act [4, r / 256, r % 256, p / 256, p % 256, q / 256, q % 256]

theorem test_partition : Does .partition (parts 1024 512 256) { result := .wrongMode } base base ∧
    Does .partition (parts 4352 128 64) { result := .badValue } cfg cfg ∧ Does .partition (parts 257 128 64) { result := .badValue } cfg cfg ∧
    Does .partition (parts 256 2176 64) { result := .badValue } cfg cfg ∧ Does .partition (parts 256 129 64) { result := .badValue } cfg cfg ∧
    Does .partition (parts 256 128 0) { result := .badValue } cfg cfg ∧ Does .partition (parts 256 128 65) { result := .badValue } cfg cfg ∧
    Does .partition (parts 4096 128 64) { result := .noFit } cfg cfg := by unfold Does Ready; decide

theorem test_partition_accepted : ran .partition (asked (parts 3328 2048 192) { cfg with clock := 9 })
    { State.reset with clock := 9, tmc := { sizes := ⟨3328, 2048, 192⟩ }, mga := { partitionWaiting := some (parts 3328 2048 192) } } = true ∧
    16 * 3328 + 4 * 2048 + 20 * 192 = 65280 := by decide

theorem test_vehicle_off_on : Does .vehicleOff (act [13, 1]) { result := .ok } base base ∧
    Does .vehicleOff (act [13, 1]) { result := .ok } (idle 0 base) base ∧ Does .vehicleOff (act [13, 1]) { result := .wrongState } way way ∧
    Does .vehicleOn (act [14, 1]) { result := .ok } way way ∧ Does .vehicleOn (act [14, 15]) { result := .wrongState } base base ∧
    Does .vehicleOn (act [14, 16]) { result := .ok } base (idle 15 base) ∧
    Does .vehicleOn (act [14, 1]) { result := .ok } (veh 0 (fun x => { x with currentSeg := 20, causes := { zone := true } }) base)
      ((veh 0 (fun x => { x with status := .idle, currentSeg := 20, endLoc := ⟨.segment, 20⟩, causes := { zone := true } }) base).sendHold 0) := by
  unfold Does Ready; decide

theorem test_write_off : Does .writeOff (act [15, 1]) { result := .ok } (veh 0 (fun x => { x with load := .unknown, causes := { zone := true } }) base) base ∧
    Does .writeOff (act [15, 1]) { result := .ok } (idle 0 base) (State.placeUrgent ⟨101, 241, 0x52, [4]⟩ base) ∧
    (idle 0 base).vehicleEntry? 0 = some ⟨101, .vehicle, 1, 20⟩ ∧ (idle 0 base).waitsFor? 0 = none := by unfold Does Ready; decide

/-- Vehicle 1 of s has intruded in zone 2. -/
def intruding (s : State) : State := veh 0 (fun x => { x with intrusionZones := 2, causes := { intrusion := true } }) s

theorem test_clear_zone : Does .clearZone (act [16, 0]) { result := .badIndex } base base ∧ Does .clearZone (act [16, 9]) { result := .badIndex } base base ∧
    Does .clearZone (act [16, 8]) { result := .ok } base base ∧ Does .clearZone (act [16, 1]) { result := .ok } base base ∧
    (∀ y, ((intruding (idle 0 base)).vehicle y).intrusionZones.getLsbD (1 : ZoneIx).val = decide (y = 0)) ∧
    Does .clearZone (act [16, 2]) { result := .ok } (intruding (idle 0 base)) ((idle 0 base).sendRelease 0) := by
  unfold Does Ready; decide

/-- Vehicle 1 under way holds segment 21 too, for which vehicle 2 waits. -/
def ahead : State :=
  veh 0 (fun x => { x with claims := [⟨20, some 0⟩, ⟨21, some 1⟩] }) (veh 1 (fun x => { x with status := .busy }) way) |>
    fun s => s.setSeg 21 { capacity := 1, zone := 1, holders := [0], waiters := [1] }

theorem test_clear_zone_seats_anew : (∀ y, ((intruding ahead).vehicle y).intrusionZones.getLsbD (1 : ZoneIx).val = decide (y = 0)) ∧
    (intruding ahead).running = true ∧ (intruding ahead).waitsFor? 0 = none ∧
    Does .clearZone (act [16, 2]) { result := .ok } (intruding ahead)
      ((State.sendGrant 1 21 .granted (veh 1 (fun x => { x with status := .busy, claims := [⟨21, none⟩] })
        (way.setSeg 21 { capacity := 1, zone := 1, holders := [1] }))).sendRelease 0) := by unfold Does Ready; decide

/-! ### Invariants -/

theorem test_witness_invariants : lively.alarmFollows ∧ lively.tablesWf = true ∧ lively.speedsBounded ∧ lively.queuesFit := by
  unfold State.alarmFollows State.speedsBounded State.queuesFit; decide

/-! ### Refused masks and flags, claims in path order, entries written anew -/

theorem test_masks_and_flags_refused : Does .setMasks (act [9, 64, 0, 0, 0]) { result := .badValue } base base ∧
    Does .setMasks (act [9, 128, 0, 0, 0]) { result := .badValue } base base ∧
    Does .clearFlags (act [8, 31, 0, 0, 0, 0]) { result := .badIndex } base base := by unfold Does Ready; decide

theorem test_claim_in_path_order : insertClaim ⟨22, some 1⟩ [⟨20, some 0⟩, ⟨21, some 2⟩] = [⟨20, some 0⟩, ⟨22, some 1⟩, ⟨21, some 2⟩] ∧
    insertClaim ⟨22, some 1⟩ [⟨20, none⟩, ⟨21, some 1⟩] = [⟨20, none⟩, ⟨21, some 1⟩, ⟨22, some 1⟩] := by decide

/-- Vehicle 1 waits for segment 20, which lies at entry 0 of its path, with its pointer at the entry given. -/
def waitsFor20 (pointer : Nat) (l : List VehicleIx) : State :=
  (veh 0 (fun x => { x with pointer := pointer }) way).setSeg 20 { capacity := 1, zone := 1, holders := [0], waiters := l }

theorem test_leave_passed : (waitsFor20 0 [0]).waitsFor? 0 = some 20 ∧ (waitsFor20 0 [0]).leavePassed 0 = waitsFor20 0 [0] ∧
    (waitsFor20 1 [0]).leavePassed 0 = waitsFor20 1 [] ∧ way.waitsFor? 0 = none := by decide

theorem test_entries_written_anew : Table.rising oneRoute.tmc.routes = true ∧ Table.rising cfg.nd = true ∧
    Does .mwriteRoutes (wrAt 4 7 1 (routeRec [5, 0, 1] [3, 0, 2] [22])) { result := .ok } oneRoute
      (withRoutes [(7, road ⟨.home, 1⟩ ⟨.dock, 2⟩ [22])] cfg) ∧
    Does .mwriteNodes (wrAt 1 1 1 [101, 0, 1, 30]) { result := .ok } cfg
      { cfg with nd := (1, ⟨101, .vehicle, 1, 30⟩) :: cfg.nd.drop 1 } := by unfold Does Ready; decide

/-! ### Reads with a parity error -/

def parityOf (code k : Nat) (s : State) : State :=
  s.raiseField .memoryParity (BitVec.ofNat 32 k) (BitVec.ofNat 32 (code * 65536 + k % 65536))

def bad (rolls places routes : List Nat) (s : State) : State :=
  { s with tmc := { s.tmc with badRolls := rolls, badPlaces := places, badRoutes := routes } }

def announcedRoll (h : Holds) : Roll := { aRoll 70114 (.announced 2) with holds := h }

theorem test_parity_of_a_roll : (bad [1] [] [] (with1 (announcedRoll {}))).slot? 1 = some (announcedRoll {}) ∧
    (bad [1] [] [] (with1 (announcedRoll {}))).findRoll 70114 = some (1, announcedRoll {}) ∧
    (∀ p st, (announcedRoll {}).status ≠ .reserved p (.call st)) ∧
    Does .mread (rq 0x71 [6, 0, 1, 1]) { result := .ok, carried := 1, data := (announcedRoll {}).bytes }
      (bad [1] [] [] (with1 (announcedRoll {}))) (parityOf 6 1 (with1 (announcedRoll { parity := true }))) :=
  by
  refine ⟨by decide, by decide, ?_, by unfold Does Ready; decide⟩
  intro p st h
  cases h

theorem test_parity_of_a_place : Does .mread (rq 0x71 [5, 2, 0, 1]) { result := .ok, carried := 1, data := [9, 0, 0, 0, 0, 0, 0, 0, 0] }
      (bad [] [512] [] (base.setPlace 512 { access := 9 })) (parityOf 5 512 (base.setPlace 512 { access := 9, blocked := true })) := by
  unfold Does Ready; decide

def badRoad : State := bad [] [] [7] (withMode .normal oneRoute)

theorem test_parity_of_a_route : Does .mread (rq 0x71 [4, 0, 7, 1])
      { result := .ok, carried := 1, data := [1, 5, 0, 1, 3, 0, 2, 2, 0, 20, 0, 21] ++ longBody 28 } badRoad (parityOf 4 7 base) ∧
    badRoad.lookup ⟨.home, 1⟩ ⟨.dock, 2⟩ = (.missing, parityOf 4 7 base) := by unfold Does Ready; decide

theorem test_parity_in_a_search :
    (bad [1] [] [] (searching 1 none (aRoll 70114 (.stored 12)))).findRoll 70114 = some (1, aRoll 70114 (.stored 12)) ∧
    ran .searchStep (bad [1] [] [] (searching 1 none (aRoll 70114 (.stored 12))))
      (parityOf 6 1 (searching 2 none { aRoll 70114 (.stored 12) with holds := { parity := true } })) = true := by decide

theorem test_parity_at_a_drop : Heard .vehicle (num (0 : VehicleIx)) 12 101 (bad [] [512] [] onBoard) ∧
    dropped 1 512 (bad [] [512] [] onBoard) ((parityOf 5 512 (onBoard.setPlace 512 { blocked := true })).raise .placeConflict 1) = true :=
  ⟨heard (by decide), by decide⟩

/-! ### The halt of a zone and its lift -/

/-- Vehicle 1 falls silent in zone 1, where vehicle 2 alone has a claim. -/
def convoy : State :=
  { (veh 0 (fun x => { x with supCount := 20, claims := [] }) way).setSeg 21 { capacity := 1, zone := 1, holders := [1] } with
    due := [.vehicleLost 0] } |> veh 1 fun x => { x with status := .busy, claims := [⟨21, some 0⟩] }

theorem test_lost_vehicle_halts_its_zone : (convoy.zone 0).haltOne = false ∧ (convoy.seg 20).zone = num (0 : ZoneIx) ∧
    convoy.holdsIn 1 0 = true ∧ (List.finRange 16).all (fun y => convoy.holdsIn y 0 == decide (y = 1)) = true ∧
    ran (.vehicleLost 0) convoy
      (((veh 1 (fun x => { x with causes := { zone := true } })
        ((((veh 0 (fun x => { x with status := .lost, beforeLoss := .busy }) { convoy with due := [] }).raise .vehicleLost 1).placeUrgent
          ⟨101, 241, 0x52, [0x10]⟩).updZone 0 fun a => { a with lost := 1 })).sendHold 1)) = true := by decide

/-- Vehicle 1 with the ZONE cause in zone 1, whose sets are given. -/
def zoneHalt (lost intruders : BitVec 16) (f : Vehicle → Vehicle) : State :=
  { veh 0 (fun x => f { x with causes := { zone := true } }) way with
    tcu := { way.tcu with zones := way.tcu.zones.set 0 { lost := lost, intruders := intruders } } }

def gone : State := zoneHalt 1 0 fun x => { x with status := .lost, beforeLoss := .busy }

theorem test_zone_halt_lifted_by_vpos : Heard .vehicle (num (0 : VehicleIx)) 12 101 gone ∧
    (∀ e ∈ gone.tcu.segments, e.2.waiters = []) ∧ (gone.zone 0).lost = BitVec.twoPow 16 0 ∧
    ran (.vpos 12 101 20 1 0 0) gone
      (((veh 0 (fun x => { x with motion := 1, beforeLoss := .busy }) way).sendRelease 0).placeUpper
        ⟨12, 101, 0x21, [20, 1, 0, 0, 0, 0, 0]⟩) = true := ⟨heard (by decide), by decide⟩

theorem test_zone_halt_lifted_by_clear : (∀ y, ((zoneHalt 0 4 id).vehicle y).intrusionZones.getLsbD 0 = false) ∧
    Does .clearZone (act [16, 1]) { result := .ok } (zoneHalt 0 4 id) (way.sendRelease 0) ∧
    Does .clearZone (act [16, 1]) { result := .ok } (zoneHalt 4 4 id) (zoneHalt 4 0 id) := by unfold Does Ready; decide

/-! ### Calls in AUTONOMOUS -/

/-- Stand 1's call in SELECTED on roll 70114 at place 12, two IDLE vehicles, vehicle 2 the nearer. -/
def serving : State :=
  withCalls [selected] (withRolls [(1, aRoll 70114 (.reserved 12 (.call 0)))]
    (withRoutes [(1, road ⟨.home, 1⟩ ⟨.place, 12⟩ [20, 21]), (2, road ⟨.home, 2⟩ ⟨.place, 12⟩ [21]), (3, road ⟨.place, 12⟩ ⟨.stand, 1⟩ [22])]
      (base |> idle 0 |> idle 1 |> seg 20 1 1 |> seg 21 1 1 |> seg 22 1 1))) |>
    fun s => (s.setPlace 12 { access := 21, occupant := some 70114 }).setNextTag 255

theorem test_vehicle_is_chosen : serving.noParity ∧
    serving.chooseVehicle (List.finRange 16) ⟨.place, 12⟩ (standLoc 0) = (some 1, serving) ∧
    serving.chooseVehicle [2] ⟨.place, 12⟩ (standLoc 0) = (none, serving) ∧
    base.chooseVehicle (List.finRange 16) ⟨.place, 12⟩ (standLoc 0) = (none, base) := by unfold State.noParity; decide

def quietLink : State := { serving with sfu := { serving.sfu with linkPeriod := 5, linkCount := 5 }, due := [.linkSilent] }

def taken5 : State := ({ withMode .autonomous quietLink with due := [] } : State).raise .autonomous 0

theorem test_take_over_tries_call : quietLink.noParity ∧ quietLink.findRoll 70114 = some (1, aRoll 70114 (.reserved 12 (.call 0))) ∧
    (taken5.chooseVehicle (List.finRange 16) ⟨.place, 12⟩ (standLoc 0)).1 = some 1 ∧
    ran .linkFallenSilent quietLink (taken5.originate 1 ⟨.place, 12⟩ (standLoc 0) 70114) = true := by unfold State.noParity; decide

def auto : State := withMode .autonomous serving

def partOrder : Order :=
  { tag := 255, source := .part, reply := 12, pickup := ⟨.place, 12⟩, drop := standLoc 0, roll := 70114, claim := .held, link := some 0
    leg1 := [21], leg2 := [22], progress := .toPickup }

theorem test_part_order : auto.vehicleEntry? 1 = some ⟨102, .vehicle, 2, 20⟩ ∧ auto.vehicleAt? 102 = some 1 ∧
    auto.locationsOk 70114 ⟨.place, 12⟩ (standLoc 0) = true ∧ auto.refusedRoll 1 70114 ⟨.place, 12⟩ (standLoc 0) = none ∧
    (auto.stand 0).other = .none ∧ auto.originate 1 ⟨.place, 12⟩ (standLoc 0) 70114 =
      (stand 0 (fun x => { x with claim := some ⟨1, 255⟩ }) (veh 1 (fun x => { x with
        outstanding := [partOrder], path := [⟨21, 255⟩, ⟨22, 255⟩], endLoc := standLoc 0, status := .busy })
        ((withCalls [{ selected with phase := .ordered 70114 ⟨1, 255⟩ }] auto).setNextTag 200))).placeNormal
          ⟨102, 241, 0x11, forwardedMoveBody partOrder 102⟩ := by decide

theorem test_part_order_refused :
    (withRolls [(1, aRoll 70114 (.stored 13))] auto).refusedRoll 1 70114 ⟨.place, 12⟩ (standLoc 0) = some .rollState ∧
    (withRolls [(1, aRoll 70114 (.stored 13))] auto).originate 1 ⟨.place, 12⟩ (standLoc 0) 70114 =
      ((withRolls [(1, aRoll 70114 (.stored 13))] auto).setNextTag 200).refuseTo 12 255 102 .rollState := by decide

/-! ### Calls reopened, linked and removed -/

def collectorless (s : State) : State := { s with sfu := { s.sfu with collector := 0 } }

/-- Stand 1's call in the phase given on roll 70114, which has the status and holds given. -/
def calling (ph : CallPhase) (h : Holds) (st : RollStatus) (s : State) : State :=
  collectorless (withCalls [{ selected with phase := ph }] (withRolls [(1, { aRoll 70114 st with holds := h })] s))

def atPlace12 (ph : CallPhase) (s : State) : State :=
  (calling ph {} (.reserved 12 (.call 0)) s).setPlace 12 { access := 5, occupant := some 70114 }

/-- The call reopened, and its search started. -/
def searched (s : State) : State :=
  { withCalls [{ selected with phase := .searching }] s with
    fdu := { (withCalls [{ selected with phase := .searching }] s).fdu with
      search := some { stand := 0, next := 1, best := none, noticed := false } } }

/-- Vehicle 1 has picked roll 70114 from place 12. -/
def lifted (ph : CallPhase) (s : State) : State :=
  ((calling ph {} (.carried (some 0)) s).setPlace 12 { access := 5 }).setLoad 0 (.roll 70114)

def linkedTo (v : VehicleIx) (link : Option StandIx) (s : State) : State :=
  veh v (fun x => { x with status := .busy, outstanding := [{ travel 7 with link := link }] }) s

theorem test_picks_reopen_calls : Heard .vehicle (num (0 : VehicleIx)) 12 101 (atPlace12 (.selected 70114) base) ∧
    (atPlace12 (.selected 70114) base).findRoll 70114 = some (1, aRoll 70114 (.reserved 12 (.call 0))) ∧
    picked 1 12 (atPlace12 (.selected 70114) base) (searched (lifted (.selected 70114) base)) = true ∧
    picked 1 12 (atPlace12 (.ordered 70114 ⟨0, 7⟩) (linkedTo 0 (some 0) base))
      (lifted (.ordered 70114 ⟨0, 7⟩) (linkedTo 0 (some 0) base)) = true ∧
    picked 1 12 (atPlace12 (.ordered 70114 ⟨1, 7⟩) (linkedTo 1 (some 0) base)) (searched (lifted .opened (linkedTo 1 none base))) = true :=
  ⟨heard (by decide), by decide⟩

/-- A VDONE of vehicle 1 for its order 7, which is linked to stand 1's call. -/
def doneFor (outcome : Nat) (h : Holds) (st : RollStatus) (t : State) : Bool :=
  ran (.vdone 12 101 7 (BitVec.ofNat 8 outcome)) (calling (.ordered 70114 ⟨0, 7⟩) h st (linkedTo 0 (some 0) base))
    (t.placeUpper ⟨12, 101, 0x23, [7, BitVec.ofNat 8 outcome]⟩)

theorem test_order_ends_revert_calls :
    doneFor 1 {} (.carried (some 0)) (calling (.selected 70114) {} (.carried (some 0)) (idle 0 base)) = true ∧
    doneFor 4 {} (.reserved 12 (.call 0)) (calling (.selected 70114) {} (.reserved 12 (.call 0)) (idle 0 base)) = true ∧
    doneFor 2 {} (.carried none) (searched (calling .opened {} (.carried none) (idle 0 base))) = true ∧
    doneFor 1 { management := true } (.carried (some 0))
      (searched (calling .opened { management := true } (.carried (some 0)) (idle 0 base))) = true ∧
    doneFor 1 { management := true } (.reserved 12 (.call 0))
      (searched (calling .opened { management := true } (.stored 12) (idle 0 base))) = true := by decide

/-- Vehicle 1 halted, with stand 1's call in the phase given on roll 70114. -/
def haltedCall (ph : CallPhase) (st : RollStatus) : State :=
  calling ph {} st (linkedTo 1 (some 0) (veh 0 (fun x => { x with causes := { zone := true } }) base))

def newOrder (roll : Nat) : Order :=
  { tag := 9, source := .upper, reply := 12, pickup := ⟨.dock, 1⟩, drop := standLoc 0, roll := BitVec.ofNat 32 roll, claim := .held
    link := some 0, progress := .toPickup }

/-- The call linked to order 9 of vehicle 1. -/
def linked9 (roll : Nat) (st : RollStatus) (link : Option StandIx) : State :=
  stand 0 (fun x => { x with claim := some ⟨0, 9⟩ }) (veh 0 (fun x => { x with queue := [newOrder roll] })
    (linkedTo 1 link (haltedCall (.ordered (BitVec.ofNat 32 roll) ⟨0, 9⟩) st)))

def accepts (roll : Nat) (s : State) : State := s.accept 0 .upper 12 9 ⟨.dock, 1⟩ (standLoc 0) (BitVec.ofNat 32 roll)

theorem test_orders_link_calls : (haltedCall .opened (.announced 1)).tablesWf = true ∧ (haltedCall .opened (.announced 1)).noParity ∧
    ((haltedCall .opened (.announced 1)).stand 0).other = .none ∧
    accepts 70114 (haltedCall .opened (.announced 1)) = linked9 70114 (.announced 1) (some 0) ∧
    accepts 70114 (haltedCall (.ordered 70114 ⟨1, 7⟩) (.announced 1)) = linked9 70114 (.announced 1) none ∧
    accepts 5 (haltedCall (.selected 70114) (.reserved 12 (.call 0))) = linked9 5 (.stored 12) (some 0) := by
  unfold State.noParity; decide

/-- Vehicle 1 with roll 70200 on board, and stand 1's call in the phase given on roll 70114. -/
def delivering (ph : CallPhase) (st st2 : RollStatus) (f : Stand → Stand) (l : Load) : State :=
  stand 0 f (collectorless (withCalls [{ selected with phase := ph }] (withRolls [(1, aRoll 70114 st), (2, aRoll 70200 st2)]
    ((linkedTo 1 (some 0) (idle 0 base)).setLoad 0 l))))

def sets70200 (s t : State) : Bool :=
  ran (.vloadDrop 12 101 2 1 70200) s (t.placeUpper ⟨12, 101, 0x22, [2, 2, 0, 1, 0, 1, 0x12, 0x38]⟩)

/-- Roll 70200 stands by on the arm of stand 1, and its call is removed. -/
def delivered (st : RollStatus) : State :=
  withCalls [] (delivering .opened st (.standby 0) (fun x => { x with other := .standby 70200 }) .empty)

theorem test_standby_removes_call : Heard .vehicle (num (0 : VehicleIx)) 12 101
      (delivering (.selected 70200) (.announced 1) (.carried (some 0)) id (.roll 70200)) ∧
    (delivering (.selected 70200) (.announced 1) (.carried (some 0)) id (.roll 70200)).tablesWf = true ∧
    sets70200 (delivering (.selected 70200) (.announced 1) (.carried (some 0)) id (.roll 70200)) (delivered (.announced 1)) = true ∧
    sets70200 (delivering (.ordered 70200 ⟨1, 7⟩) (.announced 1) (.carried (some 0)) id (.roll 70200))
      (linkedTo 1 none (delivered (.announced 1))) = true ∧
    sets70200 (delivering (.selected 70114) (.reserved 12 (.call 0)) (.carried (some 0)) id (.roll 70200)) (delivered (.stored 12)) = true :=
  ⟨heard (by decide), by decide⟩

/-- Stand 24 of press 4 leaves the lead with the swap, its call in SELECTED on roll 70114. -/
def leaving (st : RollStatus) (calls : List Call) (s : State) : State :=
  withRolls [(1, aRoll 70114 st)] (withCalls calls s)

theorem test_swap_removes_call : outgoing.inLead 23 = true ∧
    Does .planSwap (act [7, 4]) { result := .ok } (readied (leaving (.reserved 12 (.call 23)) [{ selected with stand := 23 }] outgoing))
      (leaving (.stored 12) [] (stand 23 (fun x => { x with state := .out, lres := 0, ts := 65535 }) (swapped (sp false) outgoing))) ∧
    Does .planSwap (act [7, 4]) { result := .ok } (readied (leaving (.announced 1) [{ selected with stand := 23 }] outgoing))
      (leaving (.announced 1) [] (stand 23 (fun x => { x with state := .out, lres := 0, ts := 65535 }) (swapped (sp false) outgoing))) := by
  unfold Does Ready; decide

/-! ### Drop claims on an arm, the other rows of R143 -/

/-- Vehicle 1 sets roll 70114 down on the arm of stand 24, which vehicle v has claimed for its order 7. -/
def armClaims (v : VehicleIx) (c : DropHold) (s : State) : State :=
  veh v (fun x => { x with outstanding := [{ travel 7 with drop := standLoc 23, claim := c, progress := .toDrop }] }) s

def armed70114 : State → State := bareStand fun x => { x with other := .standby 70114 }

theorem test_drop_on_a_claimed_arm :
    dropped 2 24 (armClaims 0 .held (bareStand (fun x => { x with claim := some ⟨0, 7⟩ }) onBoard))
      (armClaims 0 .consumed (armed70114 (roll1 (.standby 23)))) = true := by decide

theorem test_drop_cancels_a_claim_on_the_arm :
    dropped 2 24 (armClaims 1 .held (bareStand (fun x => { x with claim := some ⟨1, 7⟩ }) onBoard))
      ((armClaims 1 .none (armed70114 (roll1 (.standby 23)))).raise .placeConflict 2) = true := by decide +kernel

theorem test_drop_of_the_wrong_paper_on_a_claimed_arm :
    dropped 2 24 (wrongGrade (usePress 0 (armClaims 1 .held (bareStand (fun x => { x with claim := some ⟨1, 7⟩ }) onBoard))))
      (((wrongGrade (usePress 0 (armClaims 1 .none (armed70114 (roll1 (.standby 23)))))).raise .placeConflict 2).raise
        .planMismatch 24) = true := by decide +kernel

/-- One record has roll 70114's id, and the tables are well formed. -/
def oneRecord (s : State) : Prop := s.tablesWf = true ∧ s.noParity ∧ s.running = true ∧ ∀ e ∈ s.tmc.rolls, e.2.id = 70114 → e.1 = 1

def byManagement : Holds := { management := true }

theorem test_holds_reopen_calls : oneRecord (atPlace12 (.selected 70114) base) ∧
    (atPlace12 (.selected 70114) base).addHold 70114 .management =
      searched ((calling .opened byManagement (.stored 12) base).setPlace 12 { access := 5, occupant := some 70114 }) ∧
    (calling (.selected 70114) {} (.carried (some 0)) base).addHold 70114 .parity =
      searched (calling .opened { parity := true } (.carried (some 0)) base) ∧
    (calling (.selected 70114) {} (.carried none) base).addHold 70114 .breaks =
      searched (calling .opened { breaks := true } (.carried none) base) ∧
    (atPlace12 (.ordered 70114 ⟨0, 7⟩) base).addHold 70114 .diameter =
      (calling (.ordered 70114 ⟨0, 7⟩) { diameter := true } (.reserved 12 (.call 0)) base).setPlace 12 { access := 5, occupant := some 70114 } ∧
    (calling (.ordered 70114 ⟨0, 7⟩) {} (.carried none) base).addHold 70114 .lostTrack =
      calling (.ordered 70114 ⟨0, 7⟩) { lostTrack := true } (.carried none) base ∧
    Does .mrollHold (mr 0 3) (said .ok [0]) (calling (.selected 70114) {} (.carried (some 0)) base)
      (searched (calling .opened byManagement (.carried (some 0)) base)) := by
  unfold oneRecord State.noParity Does Ready; decide

/-- The hall of a call whose roll has left the records. -/
def rollGone (ph : CallPhase) (s : State) : State := collectorless (withCalls [{ selected with phase := ph }] s)

theorem test_removals_reopen_calls : oneRecord (calling (.selected 70114) {} (.announced 1) base) ∧
    Does .mrollRemove (mr 0 5) (said .ok [0]) (calling (.selected 70114) {} (.announced 1) base) (searched (rollGone .opened base)) ∧
    Does .mrollRemove (mr 0 5) (said .ok [0]) (calling (.ordered 70114 ⟨1, 7⟩) {} (.announced 1) (linkedTo 1 (some 0) base))
      (searched (rollGone .opened (linkedTo 1 none base))) ∧
    Does .mrollRemove (mr 0 5) (said .ok [0])
      ((calling (.selected 70114) {} (.stored 12) base).setPlace 12 { access := 5, occupant := some 70114 })
      (searched ((rollGone .opened base).setPlace 12 { access := 5 })) := by
  unfold oneRecord State.noParity Does Ready; decide

/-- Vehicle 1 carries roll 70114, on which stand 1's call is in the phase given. -/
def aboard (ph : CallPhase) (h : Holds) : State := (calling ph h (.carried (some 0)) (linkedTo 1 (some 0) base)).setLoad 0 (.roll 70114)

/-- Roll 70114 set down with the status given, the call in the phase given. -/
def landed (ph : CallPhase) (h : Holds) (st : RollStatus) : State := calling ph h st (linkedTo 1 (some 0) base)

/-- The search takes note of a roll that has become available. -/
def noticed (s : State) : State := { s with fdu := { s.fdu with search := s.fdu.search.map fun x => { x with noticed := true } } }

theorem test_drops_reopen_calls : Heard .vehicle (num (0 : VehicleIx)) 12 101 (aboard (.selected 70114) {}) ∧
    oneRecord (aboard (.selected 70114) {}) ∧
    dropped 4 1 (aboard (.selected 70114) {}) { searched (rollGone .opened (linkedTo 1 (some 0) base)) with
      scu := { base.scu with scrapped := 169351 } } = true ∧
    dropped 4 4 (aboard (.ordered 70114 ⟨1, 7⟩) {}) { searched (rollGone .opened (linkedTo 1 none base)) with
      scu := { base.scu with scrapped := 169351 } } = true ∧
    dropped 3 8 (aboard (.selected 70114) {}) (searched (landed .opened {} (.announced 8))) = true ∧
    dropped 3 1 (aboard (.ordered 70114 ⟨1, 7⟩) {}) (landed (.ordered 70114 ⟨1, 7⟩) {} (.announced 1)) = true := by
  unfold oneRecord State.noParity; exact ⟨heard (by decide), by decide⟩

theorem test_drops_at_a_place_or_arm_reopen_calls :
    dropped 1 512 (aboard (.selected 70114) {})
      ((noticed (searched (landed .opened {} (.stored 512)))).setPlace 512 { occupant := some 70114 }) = true ∧
    dropped 1 1 (aboard (.selected 70114) byManagement)
      ((searched (landed .opened byManagement (.stored 1))).setPlace 1 { occupant := some 70114 }) = true ∧
    dropped 1 1 (aboard (.ordered 70114 ⟨1, 7⟩) {})
      ((landed (.ordered 70114 ⟨1, 7⟩) {} (.stored 1)).setPlace 1 { occupant := some 70114 }) = true ∧
    (23 : StandIx) ≠ selected.stand ∧ dropped 2 24 (bareStand id (aboard (.selected 70114) {}))
      (armed70114 (searched (landed .opened {} (.standby 23)))) = true ∧
    dropped 2 24 (bareStand (fun x => { x with state := .feeding }) (aboard (.ordered 70114 ⟨1, 7⟩) {}))
      (bareStand (fun x => { x with state := .armed }) (armed70114 (landed (.ordered 70114 ⟨1, 7⟩) {} (.standby 23)))) = true := by
  decide

/-- Stands 1 and 3 with their calls in SELECTED, on a roll RESERVED at place 12 and on a CARRIED one; stand 2's is OPEN. -/
def twoSelected : State :=
  withRolls [(1, aRoll 70114 (.reserved 12 (.call 0))), (2, aRoll 70200 (.carried none))]
    (withCalls [selected, { opened 6 false with stand := 1 }, { selected with stand := 2, phase := .selected 70200, due := 7 }] base)

theorem test_resume_announces_in_order : twoSelected.callsOrdered ∧ twoSelected.noParity ∧
    twoSelected.callPlace 70114 = 12 ∧ twoSelected.callPlace 70200 = 0 ∧
    Does .resume (act [5]) { result := .ok } (withMode .autonomous twoSelected)
      ((twoSelected.placeUpper ⟨12, 241, 0x61, [1, 0, 1, 0x11, 0xE2, 0, 12, 0, 0, 0, 5]⟩).placeUpper
        ⟨12, 241, 0x61, [3, 0, 1, 0x12, 0x38, 0, 0, 0, 0, 0, 7]⟩) ∧
    Does .resume (act [5]) { result := .ok } (collectorless (withMode .autonomous twoSelected)) (collectorless twoSelected) := by
  unfold Does Ready State.noParity State.callsOrdered State.callPair; decide

/-! ### Forwarding fails -/

def crowded : State := { yard with ltu := { normal := List.replicate 24 otherClass } }

theorem test_forwarding_meets_full_queue : MoveAllowed 0 101 (mv 1 101 0 0 3 1 0) ⟨.none, 0⟩ ⟨.dock, 1⟩ (crowded.setSeg 20 {}) ∧
    (withRoutes [(1, road ⟨.home, 1⟩ ⟨.dock, 1⟩ [21])] (crowded.setSeg 20 {})).noParity ∧
    ran (.moveNew 101 12 (mv 1 101 0 0 3 1 0)) (withRoutes [(1, road ⟨.home, 1⟩ ⟨.dock, 1⟩ [21])] (crowded.setSeg 20 {}))
      ((veh 0 (fun x => { x with endLoc := ⟨.segment, 20⟩ })
        ((withRoutes [(1, road ⟨.home, 1⟩ ⟨.dock, 1⟩ [21])] (crowded.setSeg 20 {})).raise .queueOverflow 2)).refuseTo 12 1 101 .queueFull) = true := by
  unfold MoveAllowed Passed State.noParity; decide

/-- Vehicle 1 in a management halt with one queued order, to dock 1 or 2. -/
def parked (d : Nat) (h : Bool) (q : List Order) : State :=
  veh 0 (fun x => { x with causes := { management := h }, queue := q.map fun o => { o with drop := ⟨.dock, d⟩ } }) yard

theorem test_release_meets_no_route : (parked 2 true [travel 7]).waitsFor? 0 = none ∧
    ((parked 2 true [travel 7]).lookupLegs ⟨.home, 1⟩ ⟨.none, 0⟩ ⟨.dock, 2⟩).2.1 = .missing ∧
    Does .mwriteVehicles (vrec 1 2 0) { result := .ok } (parked 2 true [travel 7])
      (veh 0 (fun x => { x with queue := [] }) ((parked 2 false [travel 7]).sendRelease 0) |>.refuseTo 12 7 101 .routeMissing) ∧
    Does .mwriteVehicles (vrec 1 2 0) { result := .ok } ((parked 1 true [travel 7]).setSeg 21 { capacity := 1, zone := 1, blocked := true })
      (veh 0 (fun x => { x with queue := [] })
        (((parked 1 false [travel 7]).setSeg 21 { capacity := 1, zone := 1, blocked := true }).sendRelease 0) |>.refuseTo 12 7 101 .routeBlocked) := by
  unfold Does Ready; decide

theorem test_forwarding_waits : (parked 1 true [travel 7]).forwardAndTell 0 = parked 1 true [travel 7] ∧
    (withMode .config (parked 1 false [travel 7])).forwardAndTell 0 = withMode .config (parked 1 false [travel 7]) := by decide


/-- Command i answers a next state of which p holds. -/
def ends (i : Instr) (s : State) (p : State → Bool) : Bool :=
  match exec i s with
  | .next t => p t
  | _ => false

/-! ### What a tick finds due, the part's telegrams and undefined codes -/

/-- Vehicle 1 and press 1 one tick before their counts run out, vehicle 2 LOST. -/
def brink : State :=
  veh 0 (fun x => { x with status := .idle, supCount := 19 }) base |>
    veh 1 (fun x => { x with status := .lost, retryCount := 9 }) |> usePress 0 |>
    speedOf 0 fun x => { x with source := .hold, interval := some 0, countSilence := 49, holdover := 5999 }

theorem test_tick_finds_due : brink.pins.rstLow = false ∧ (ends .hallTick brink fun t =>
    decide ((Due.vehicleLost 0) ∈ t.due ∧ (Due.lostRetry 1) ∈ t.due ∧ (Due.countSilent 0) ∈ t.due ∧ (Due.vehicleLost 1) ∉ t.due ∧
      (Due.driveSilent 0) ∉ t.due)) = true := by decide

theorem test_telegrams_of_the_part : way.vehicleEntry? 0 = some ⟨101, .vehicle, 1, 20⟩ ∧ base.vehicleEntry? 7 = none ∧
    way.sendRelease 0 = way.placeUrgent ⟨101, 241, 0x53, []⟩ ∧
    way.vdoneOnBehalf 0 (travel 7) = way.placeUpper ⟨12, 241, 0x23, [7, 4, 101]⟩ ∧
    way.vdoneOnBehalf 0 { travel 7 with reply := 0 } = way ∧
    base.refuseTo 12 7 101 .routeMissing = base.placeAnswer ⟨12, 241, 0x62, [0x11, 7, 101, 14]⟩ := by decide

/-- A MOVE of kind 03. -/
def oddMove (dst : Byte) : Instr := .upperForward ⟨dst, 12, 0x11, 3 :: mv 1 101 0 0 3 1 0⟩

theorem test_moves_of_undefined_kind : Passed 101 yard ∧ (3 :: mv 1 101 0 0 3 1 0).length = 13 ∧
    ran (oddMove 101) yard (yard.refuseTo 12 1 101 .badFormat) = true ∧ ran (oddMove 101) cfg (cfg.refuseTo 12 1 101 .notRunning) = true ∧
    ran (oddMove 101) (withMode .autonomous yard) ((withMode .autonomous yard).refuseTo 12 1 101 .autonomous) = true ∧
    ran (oddMove 102) yard ((yard.refuseTo 12 1 101 .badFormat).raise .nodeMismatch 12) = true := by unfold Passed; decide

/-- A SPLICE of outcome 00 from stand 1. -/
def oddSplice (s t : State) : Bool :=
  ran (.floorUnacted ⟨12, 131, 0x32, 0 :: longBody 8⟩) s (t.placeUpper ⟨12, 131, 0x32, 0 :: longBody 8⟩)

/-- Stand 1 is of press 1. -/
def ofPress1 : State → State := stand 0 fun x => { x with press := some 0 }

theorem test_other_undefined_codes : Heard .vehicle (num (0 : VehicleIx)) 12 101 base ∧ Heard .stand (num (0 : StandIx)) 12 131 base ∧
    ran (.floorUnacted ⟨12, 101, 0x22, 3 :: longBody 7⟩) base (base.placeUpper ⟨12, 101, 0x22, 3 :: longBody 7⟩) = true ∧
    oddSplice base ((base.raise .armMismatch 1)) = true ∧ oddSplice (ofPress1 base) (ofPress1 base) = true ∧
    ran (.upperForward ⟨255, 12, 0x12, [1, 5, 0, 0, 0]⟩) cfg (cfg.placeNormal ⟨255, 12, 0x12, [1, 5, 0, 0, 0]⟩) = true ∧
    ran (.upperForward ⟨255, 12, 0x12, []⟩) cfg ((cfg.raise .nodeMismatch 12).placeNormal ⟨255, 12, 0x12, []⟩) = true :=
  ⟨heard (by decide), heard (by decide), by decide⟩

/-! ### Admission and forwarding of an order with a roll -/

/-- An order that comes for the BUTT of stand 3 and takes it to place 5, which it has claimed. -/
def clearing : State :=
  veh 1 (fun x => { x with status := .busy, queue := [
    { travel 8 with pickup := standLoc 2, drop := ⟨.place, 5⟩, roll := 80003, claim := .pending, progress := .toPickup }] })
    (stand 2 (fun x => { x with other := .butt 80003 }) store)

theorem test_admission_checks : store.locationsOk 0 ⟨.none, 0⟩ ⟨.home, 16⟩ = true ∧ store.locationsOk 1 ⟨.none, 0⟩ ⟨.home, 16⟩ = false ∧
    store.locationsOk 1 ⟨.place, 512⟩ ⟨.stand, 24⟩ = true ∧ store.locationsOk 1 ⟨.place, 513⟩ ⟨.stand, 24⟩ = false ∧
    store.locationsOk 0 ⟨.dock, 8⟩ ⟨.waste, 4⟩ = false ∧ store.rollOk 0 80001 ⟨.place, 12⟩ = true ∧ store.rollOk 0 80001 ⟨.place, 13⟩ = false ∧
    store.reservedElsewhere 80002 ⟨.stand, 9⟩ = false ∧ store.reservedElsewhere 80002 ⟨.stand, 3⟩ = true ∧
    clearing.dropOccupied ⟨.stand, 3⟩ = false ∧ clearing.dropClaimed ⟨.place, 5⟩ = true ∧ store.dropOccupied ⟨.place, 12⟩ = true ∧
    store.dropBlocked ⟨.place, 12⟩ = false ∧ clearing.plannedStart 1 = ⟨.place, 5⟩ ∧ store.plannedStart 0 = ⟨.home, 1⟩ := by decide

theorem test_witness_calls_name_rolls : ((called false).fdu.calls.all fun c => (called false).fdu.calls.all fun d => decide (c = d)) = true := by decide

theorem test_lookups : yard.noParity ∧ (yard.lookup ⟨.home, 1⟩ ⟨.dock, 1⟩).1 = .clear [20, 21] ∧
    (yard.tmc.routes.all fun f => decide (f = (1, road ⟨.home, 1⟩ ⟨.dock, 1⟩ [20, 21]))) = true ∧
    ((yard.setSeg 21 {}).lookup ⟨.home, 1⟩ ⟨.dock, 1⟩).1 = .blocked [20, 21] ∧ (yard.lookup ⟨.dock, 1⟩ ⟨.home, 1⟩).1 = .missing ∧
    (yard.lookup ⟨.dock, 1⟩ ⟨.dock, 1⟩).1 = .clear [] ∧ (yard.lookup ⟨.place, 9⟩ ⟨.dock, 1⟩).1 = .missing ∧
    yard.lookupLegs ⟨.home, 1⟩ ⟨.none, 0⟩ ⟨.dock, 1⟩ = (.clear [], .clear [20, 21], yard) := by unfold State.noParity; decide

/-- The order of test_roll_order, and what its vehicle has then. -/
def stored1 (drop : Loc) (claim : DropHold) : Order :=
  { tag := 1, source := .upper, reply := 12, pickup := ⟨.place, 12⟩, drop := drop, roll := 80001, claim := claim
    link := none, leg1 := [20], leg2 := [20, 21], progress := .toPickup }

def sentOff (drop : Loc) (claim : DropHold) (s : State) : State :=
  State.placeNormal ⟨101, 12, 0x11, forwardedMoveBody (stored1 drop claim) 101⟩
    ((veh 0 (fun x => { x with
      outstanding := [stored1 drop claim], path := [⟨20, 1⟩, ⟨20, 1⟩, ⟨21, 1⟩], pointer := 0, claims := [⟨20, some 0⟩]
      endLoc := drop, status := .busy }) s).setSeg 20 { capacity := 1, zone := 1, holders := [0] })

theorem test_roll_order_is_forwarded : store.refusedRoll 0 80001 ⟨.place, 12⟩ ⟨.stand, 3⟩ = none ∧ store.call? 2 = none ∧
    (store.lookupLegs ⟨.home, 1⟩ ⟨.place, 12⟩ ⟨.stand, 3⟩).1 = .clear [20] ∧
    (store.lookupLegs ⟨.home, 1⟩ ⟨.place, 12⟩ ⟨.stand, 3⟩).2.1 = .clear [20, 21] ∧
    ran (.moveNew 101 12 (mv 1 101 1 12 2 3 80001)) store
      (sentOff ⟨.stand, 3⟩ .held (stand 2 (fun x => { x with claim := some ⟨0, 1⟩ }) store)) = true := by decide

/-- The routes from place 12 to dock 1 and to place 14, whose access segment is 21. -/
def depot : State :=
  (withRoutes [(1, road ⟨.home, 1⟩ ⟨.place, 12⟩ [20]), (2, road ⟨.place, 12⟩ ⟨.dock, 1⟩ [20, 21]),
    (3, road ⟨.place, 12⟩ ⟨.place, 14⟩ [20, 21])] store).setPlace 14 { access := 21 }

theorem test_roll_order_to_dock_and_place :
    ran (.moveNew 101 12 (mv 1 101 1 12 3 1 80001)) depot (sentOff ⟨.dock, 1⟩ .none depot) = true ∧
    ran (.moveNew 101 12 (mv 1 101 1 12 1 14 80001)) depot
      (sentOff ⟨.place, 14⟩ .held (depot.setPlace 14 { access := 21, claim := some ⟨0, 1⟩ })) = true := by decide

theorem test_roll_order_to_butt : clearing.refusedRoll 0 80001 ⟨.place, 12⟩ ⟨.stand, 3⟩ = none ∧
    ran (.moveNew 101 12 (mv 1 101 1 12 2 3 80001)) clearing (sentOff ⟨.stand, 3⟩ .pending clearing) = true := by decide

theorem test_seat : (yard.seat 0).vehicle 0 = { yard.vehicle 0 with claims := [⟨20, none⟩] } ∧
    (veh 0 (fun x => { x with path := [⟨20, 7⟩] }) yard |>.seat 0).vehicle 0 =
      { yard.vehicle 0 with path := [⟨20, 7⟩], claims := [⟨20, some 0⟩] } ∧
    (yard.setSeg 20 { capacity := 1, zone := 1, holders := [1] }).seat 0 = yard.setSeg 20 { capacity := 1, zone := 1, holders := [1] } := by
  decide

/-- Vehicle 1 past the end of its path, with the order of the entry 20 still outstanding. -/
def beyond (c : Option Nat) (p : Nat) : State :=
  veh 0 (fun x => { x with path := [⟨22, 7⟩], pointer := p, claims := [⟨20, c⟩] }) way

theorem test_occupied_claim_takes_position : (beyond none 1).joinPath 0 { travel 8 with leg1 := [20, 21] } =
      veh 0 (fun x => { x with path := [⟨22, 7⟩, ⟨20, 8⟩, ⟨21, 8⟩] }) (beyond (some 1) 1) ∧
    (beyond none 0).joinPath 0 { travel 8 with leg1 := [20, 21] } =
      veh 0 (fun x => { x with path := [⟨22, 7⟩, ⟨20, 8⟩, ⟨21, 8⟩] }) (beyond none 0) := by decide

/-! ### Waiting lists -/

/-- Vehicles 1, 2 and 3 wait for segment 21, which has room for one; vehicle 1 is halted. -/
def queueAt21 : State :=
  veh 0 (fun x => { x with causes := { management := true } }) (freed [0, 1, 2])

theorem test_waiters_in_order : queueAt21.serve 21 = queueAt21.grantClaim 1 21 ∧ (queueAt21.seg 21).waiters = [0, 1, 2] ∧
    (queueAt21.seg 21).blocked = false ∧ queueAt21.segHalted 21 = false ∧ queueAt21.tcu.claimDepth = 3 ∧
    (gone.segHalted 20 = true) ∧ cyclic.closesCycle 0 21 = true ∧ queueAt21.closesCycle 0 21 = false ∧
    (freed [0]).grantClaim 0 21 = ((moving.setSeg 21 { capacity := 1, zone := 1, holders := [0] }).sendGrant 0 21 .granted) := by decide

theorem test_witness_chain : cyclic.WaitChain 21 21 := .here

/-! ### Intruders under the whole-zone policy -/

/-- What vehicle 1 has after a VPOS from segment 22 that finds it intruding. -/
def seenAt22 (c : Causes) (x : Vehicle) : Vehicle :=
  { x with motion := 1, lastReport := 0, currentSeg := 22, intrusionZones := 2, causes := c }

theorem test_intruder_halts_zone : Heard .vehicle (num (0 : VehicleIx)) 12 101 way ∧ (way.seg 22).zone = num (1 : ZoneIx) ∧
    (way.zone 1).haltOne = false ∧ (∀ y, (way.zone y).lost.getLsbD 0 = false) ∧ (way.vehicle 0).claims ≠ [] ∧
    (∀ y : VehicleIx, ∀ k ∈ (way.vehicle y).claims, (way.seg k.seg).zone ≠ 2) ∧
    ends (.vpos 12 101 22 1 0 0) way (fun t => decide (t.vehicle 0 = seenAt22 { intrusion := true } (way.vehicle 0) ∧
      t.zone 1 = { intruders := 1 } ∧ (t.flag .intrusion).latched = true ∧ t.ltu.urgent = [⟨101, 241, 0x52, [8]⟩])) = true :=
  ⟨heard (by decide), by decide⟩

/-- Vehicle 1 LOST in zone 2, with the policy given. -/
def strayed (one : Bool) : State :=
  { missing with tcu := { missing.tcu with zones := missing.tcu.zones.set 1 { haltOne := one, lost := if one then 0 else 1 } } }

theorem test_lost_vehicle_intrudes : Heard .vehicle (num (0 : VehicleIx)) 12 101 (strayed false) ∧
    Heard .vehicle (num (0 : VehicleIx)) 12 101 (strayed true) ∧ (strayed false).sfu.mode = .normal ∧ (strayed false).waitsFor? 0 = none ∧
    (strayed true).waitsFor? 0 = none ∧ (∀ y : ZoneIx, y ≠ 1 → ((strayed false).zone y).lost.getLsbD 0 = false) ∧
    ((strayed false).zone 1).lost.getLsbD 0 = true ∧ (∀ one, ends (.vpos 12 101 22 1 0 0) (strayed one) (fun t =>
      decide ((t.vehicle 0).status = .busy ∧ (t.vehicle 0).retryCount = 0 ∧ (t.vehicle 0).causes = { intrusion := true } ∧
        t.zone 1 = { haltOne := one, intruders := if one then 0 else 1 })) = true) :=
  ⟨heard (by decide), heard (by decide), by decide⟩

/-! ### The end of an order of a vehicle with claims -/

/-- Vehicle 1 with claims, orders 7 and 8 and the causes given. -/
def twoOrders (l : List Order) (c : Causes) : State :=
  veh 0 (fun x => { x with
    outstanding := l, path := [⟨20, 7⟩, ⟨21, 7⟩, ⟨22, 8⟩], causes := c, claims := [⟨20, some 0⟩, ⟨21, some 1⟩] }) moving

theorem test_vdone_with_claims : Heard .vehicle (num (0 : VehicleIx)) 12 101 (twoOrders [travel 7] {}) ∧
    (twoOrders [travel 7] { deadlock := true }).waitsFor? 0 = none ∧
    ran (.vdone 12 101 7 1) (twoOrders [travel 7] { deadlock := true })
      ((((veh 0 (fun x => { x with outstanding := [], path := [], claims := [], status := .idle, causes := {} })
        (twoOrders [travel 7] {})).setSeg 20 { capacity := 1, zone := 1 }).setSeg 21 { capacity := 1, zone := 1 }).sendRelease 0 |>.placeUpper
        ⟨12, 101, 0x23, [7, 1]⟩) = true ∧
    ran (.vdone 12 101 7 1) (twoOrders [travel 7] { deadlock := true, management := true })
      (((veh 0 (fun x => { x with outstanding := [], path := [], claims := [], status := .idle, causes := { management := true } })
        (twoOrders [travel 7] {})).setSeg 20 { capacity := 1, zone := 1 }).setSeg 21 { capacity := 1, zone := 1 } |>.placeUpper
        ⟨12, 101, 0x23, [7, 1]⟩) = true := ⟨heard (by decide), by decide⟩

theorem test_vdone_of_one_of_two : Heard .vehicle (num (0 : VehicleIx)) 12 101 (twoOrders [travel 7, travel 8] {}) ∧
    ran (.vdone 12 101 8 1) (twoOrders [travel 7, travel 8] {})
      ((veh 0 (fun x => { x with path := [⟨20, 7⟩, ⟨21, 7⟩] }) (twoOrders [travel 7] {})).placeUpper ⟨12, 101, 0x23, [8, 1]⟩) = true ∧
    ran (.vdone 12 101 7 1) (twoOrders [travel 7, travel 8] {})
      (((veh 0 (fun x => { x with path := [⟨22, 8⟩], claims := [⟨20, none⟩] }) (twoOrders [travel 8] {})).setSeg 21
        { capacity := 1, zone := 1 }).placeUpper ⟨12, 101, 0x23, [7, 1]⟩) = true := ⟨heard (by decide), by decide⟩

/-! ### Arms, diameters, splices and breaks -/

/-- Stand 1 with roll 70114 on an arm, which vehicle 1 picks up. -/
def armed (r : RollStatus) (f : Stand → Stand) : State := stand 0 f (roll1 r)

theorem test_picks_from_arms : Heard .vehicle (num (0 : VehicleIx)) 12 101 (armed (.standby 0) fun x => { x with other := .standby 70114 }) ∧
    base.keptLoc? 2 1 = some (standLoc 0) ∧ (roll1 (.standby 0)).callNaming? 70114 = none ∧
    picked 2 1 (armed (.standby 0) fun x => { x with other := .standby 70114 })
      ((onBoard.setStand 0 (base.stand 0)).raiseField .rollMisplaced 70114 70114) = true ∧
    picked 2 1 (armed (.running 0) fun x => { x with active := some 70114, lr := 9 })
      ((onBoard.setStand 0 (base.stand 0)).raiseField .rollMisplaced 70114 70114) = true := ⟨heard (by decide), by decide⟩

/-- Vehicle 1 waits with a roll for the arm of stand 1. -/
def awaiting : State :=
  veh 0 (fun x => { x with status := .busy, outstanding := [{ travel 7 with drop := standLoc 0, claim := .pending }] }) base

theorem test_arm_emptied : awaiting.armEmptied 0 = (stand 0 (fun x => { x with claim := some ⟨0, 7⟩ }) awaiting).updOrder ⟨0, 7⟩
      (fun q => { q with claim := .held }) ∧ base.armEmptied 0 = base ∧
    (∀ w : VehicleIx, w ≠ 0 → (awaiting.vehicle w).outstanding ++ (awaiting.vehicle w).queue = []) := by decide

theorem test_diameter_in_the_lead : Heard .stand (num (0 : StandIx)) 12 131 (feeding 750 169351) ∧ (feeding 750 169351).noParity ∧
    (ends (.standReport 12 131 1250 70114 0) (feeding 750 9) fun t =>
      decide ((t.stand 0).lr = 169351 ∧ (t.stand 0).ts = 1341)) = true := ⟨heard (by decide), by unfold State.noParity; decide⟩

theorem test_splice_threads_a_stand : Heard .stand (num (0 : StandIx)) 12 131 (stand 0 (fun x => { x with active := none }) ready2) ∧
    (ends (.spliceMade 12 131 0 70200) (stand 0 (fun x => { x with active := none, state := .idle }) (lead 0 ready2)) fun t =>
      decide ((t.stand 0).active = some 70200 ∧ (t.stand 0).other = .none ∧ (t.stand 0).state = .feeding ∧ (t.stand 0).lres = 1701)) = true := ⟨heard (by decide), by decide⟩

theorem test_first_breaks_hold : (breaking 1 {}).inUse 0 = true ∧ ((breaking 1 {}).activePress 0).breakLimit = 2 ∧
    ran (.webBreak 12 131 70114) (breaking 1 {})
      (((broke 2 { breaks := true } 0).raiseField .rollBreakHold 70114 70114).placeUpper ⟨12, 131, 0x33, beWord 70114⟩) = true := by decide

/-! ### Calls -/

theorem test_ts_of_an_armed_stand : (stand 0 (fun x => { x with state := .armed }) (feeding 750 169351)).computeTs 0 =
      stand 0 (fun x => { x with state := .armed, ts := 1341 }) (feeding 750 169351) ∧
    ((stand 0 (fun x => { x with state := .starved }) (feeding 750 0)).callTest 0).fdu.calls =
      [{ opened 0 true with phase := .searching }] ∧ (feeding 750 169351).noParity ∧
    (withCalls [selected, { opened 9 false with stand := 3 }] base).callsOrdered := by
  unfold State.noParity
  exact ⟨by decide, by decide, by decide, by unfold State.callsOrdered State.callPair; decide⟩

/-- Vehicle 1 comes to place 12 for roll 70114, by the order linked to its call. -/
def fetching (st : RollStatus) (p : Progress) : State :=
  veh 0 (fun x => { x with status := .busy, outstanding := [
    { travel 7 with pickup := ⟨.place, 12⟩, drop := standLoc 0, roll := 70114, link := some 0, progress := p }] })
    (calling (.ordered 70114 ⟨0, 7⟩) {} st base)

theorem test_order_picks_its_roll :
    Heard .vehicle (num (0 : VehicleIx)) 12 101 ((fetching (.reserved 12 (.call 0)) .toPickup).setPlace 12 { access := 5, occupant := some 70114 }) ∧
    picked 1 12 ((fetching (.reserved 12 (.call 0)) .toPickup).setPlace 12 { access := 5, occupant := some 70114 })
      (((fetching (.carried (some 0)) .toDrop).setPlace 12 { access := 5 }).setLoad 0 (.roll 70114)) = true := ⟨heard (by decide), by decide⟩

/-! ### START and the swap of a hall at work -/

/-- CONFIG, with vehicle 1's order to dock 1 queued, vehicle 2 halted, and stand 1 in the lead. -/
def atWork : State :=
  withMode .config (veh 1 (fun x => { x with status := .idle, causes := { management := true } })
    { parked 1 false [travel 7] with pls := (lead 0 pressed).pls, fdu := (feeding 750 0).fdu })

theorem test_start_works_the_hall : (ends .start (asked (act [1]) atWork) fun t =>
      decide ((t.vehicle 0).status = .busy ∧ (t.vehicle 0).queue = [] ∧ t.ltu.urgent = [⟨102, 241, 0x52, [4]⟩] ∧
        t.ltu.normal.length = 1)) = true ∧ Ready .start (act [1]) [] (asked (act [1]) atWork) ∧
    (withMode .normal atWork).vehicleEntry? 0 = some ⟨101, .vehicle, 1, 20⟩ ∧ (withMode .normal atWork).noParity ∧
    ((withMode .normal atWork).lookupLegs ⟨.home, 1⟩ ⟨.none, 0⟩ ⟨.dock, 1⟩).2.1 = .clear [20, 21] := by
  unfold Ready State.noParity; decide

/-- Stand 24 of press 4 with roll 70114 RUNNING, before a swap that brings it into the lead. -/
def entering (width : Nat) : State :=
  stand 23 (fun x => { x with active := some 70114 })
    (readied (planned true)) |> withRolls [(1, { aRoll 70114 (.running 23) with width := width })]

theorem test_swap_brings_into_line : (entering 1800).pls.ready[(3 : PressIx)] = true ∧
    (∀ w ∈ [1800, 900], Ready .planSwap (act [7, 4]) [] (asked (act [7, 4]) (entering w)) ∧
      (ends .planSwap (asked (act [7, 4]) (entering w)) fun t => decide ((t.stand 23).state = .feeding ∧ (t.stand 23).lres = 1701 ∧
        (t.flag .planMismatch).latched = decide (w = 900))) = true) := by unfold Ready; decide

theorem test_swap_judges_calls : (feeding 750 169351).noParity ∧
    (atPlace12 (.selected 70114) (lead 0 pressed)).judgeCall 0 = atPlace12 (.selected 70114) (lead 0 pressed) ∧
    ((withCalls [selected] (withRolls [(1, { aRoll 70114 (.reserved 12 (.call 0)) with lr := 19999 })] (lead 0 pressed))).judgeCall 0).slot? 1 =
      some { aRoll 70114 (.stored 12) with lr := 19999 } := by unfold State.noParity; decide

/-! ### An interval left open by FORCED, and waste that charges no roll -/

theorem test_hold_closes_interval : Does .speedFree (act [18, 1]) { result := .ok }
      (sourced fun x => { x with source := .forced, driveSilence := 20, countSilence := 20, interval := some 3 })
      ((forced 20 20 .hold).raise .speedHoldover 1) := by unfold Does Ready; decide

theorem test_no_waste_reads_no_roll : (bad [1] [] [] (windows 5 9 none)).chargeWaste 0 .splice 0 = bad [1] [] [] (windows 5 9 none) := by
  decide

end Sys2Proof.Tests
end

section
/-! PROOFS. The slew limiter (R120): what it makes of an estimate and a sample in each of their three orders, and what an
applied sample leaves in the press's speed record. -/

namespace Sys2Proof.Machine

/-! ### The limiter on an estimate E and a sample v -/

section Limiter

variable {E v d : Nat}

theorem slewed_of_within (up : v ≤ E + d) (down : E ≤ v + d) : slewed E v d = v := by
  unfold slewed
  split
  · exact if_pos (by omega)
  · exact if_pos (by omega)

theorem slewed_of_above (h : E + d < v) : slewed E v d = E + d := by
  unfold slewed
  rw [if_pos (by omega), if_neg (by omega)]

theorem slewed_of_below (h : v + d < E) : slewed E v d = E - d := by
  unfold slewed
  rw [if_neg (by omega), if_neg (by omega)]

/-- LIMITING is set exactly when the sample lies further off than the step, on one side or the other. -/
theorem clipped_iff : clipped E v d = true ↔ E + d < v ∨ v + d < E := by
  simp only [clipped, Bool.or_eq_true, decide_eq_true_eq]
  omega

theorem clipped_of_within (up : v ≤ E + d) (down : E ≤ v + d) : clipped E v d = false :=
  Bool.eq_false_iff.2 fun hc => (clipped_iff.1 hc).elim up.not_gt down.not_gt

end Limiter

namespace State

/-! ### An applied sample -/

/-- The hand-over works on stands, calls and rolls, and leaves every speed record as it is (R121). -/
@[simp] theorem speed_handOver (p q : PressIx) (old : Nat) (s : State) : (s.handOver p old).speed q = s.speed q := by
  have hspeeds : (s.handOver p old).fdu.speeds = s.fdu.speeds := (Moves.handOver p old s).same .speeds (by decide)
  simp only [speed, hspeeds]

theorem applySample_eq {p : PressIx} {v e : Nat} {limiting : Bool} {s : State}
    (he : slewed (s.speed p).estimate v (slewStep (s.speedSettings p).slew (s.speed p).age) = e)
    (hl : clipped (s.speed p).estimate v (slewStep (s.speedSettings p).slew (s.speed p).age) = limiting) :
    s.applySample p v =
      (s.setSpeed p { s.speed p with estimate := e, limiting := limiting, age := 0 }).handOver p (s.speed p).estimate := by
  subst he hl
  rfl

@[simp] theorem speed_applySample (p : PressIx) (v : Nat) (s : State) :
    (s.applySample p v).speed p =
      { s.speed p with
        estimate := slewed (s.speed p).estimate v (slewStep (s.speedSettings p).slew (s.speed p).age)
        limiting := clipped (s.speed p).estimate v (slewStep (s.speedSettings p).slew (s.speed p).age)
        age := 0 } := by
  rw [applySample_eq rfl rfl, speed_handOver, speed_setSpeed, if_pos rfl]

end State

/-- Settles O30: the limiter's three cases, each carried to the state by `applySample_eq`. -/
theorem slewLimiterBoundsSample : Obligations.SlewLimiterBoundsSample := by
  intro p sample s x E step moved
  refine ⟨fun down up => ?within, fun above => ?above, fun below => ?below, fun hE hsample => ?bounded, ?age⟩
  case within => exact State.applySample_eq (slewed_of_within up down) (clipped_of_within up down)
  case above => exact State.applySample_eq (slewed_of_above above) (clipped_iff.2 (.inl above))
  case below => exact State.applySample_eq (slewed_of_below below) (clipped_iff.2 (.inr below))
  case bounded => exact (State.speed_applySample p sample s) ▸ Moves.slewed_le hE hsample
  case age => rw [State.speed_applySample]

end Sys2Proof.Machine
end

section
/-! PROOFS. The spoilage accounting of a run's start and of a waste increment (R150, R152, R155): what the Upper gate hands
to the watchers of a RUN, what the closed-run queue does to the rest of the state, and the cases of a waste class. -/

namespace Sys2Proof.Machine

theorem toIx_of_eq_num {k n : Nat} {i : Fin k} (h : n = num i) : toIx k n = some i := by
  subst h
  exact dif_pos ⟨Nat.le_add_left 1 i, i.isLt⟩

theorem awake_of_rstHigh {s : State} (f : State → State) (h : s.pins.rstLow = false) : awake f s = .next (f s) := by
  simp [awake, h]

/-- A started run: in START-UP, with every counter 0 (R150). -/
def Run.fresh (number edition : Nat) (tick : Word) : Run := { number := number, edition := edition, startTick := tick }

/-- A press record whose block and monitor start afresh, the windows kept (R150). -/
def PressRec.afresh (x : PressRec) : PressRec := { x with blockCopies := 0, blockWaste := 0, monitor := .ok }

namespace State

/-! ### A RUN at the Upper gate -/

theorem upperGate_of_passed {t : Telegram} {s : State} (act : State → State) (hbody : t.body.length ≤ Config.maxBody)
    (h : Passed t.dst s) : s.upperGate t act = act (s.setLinkCount 0) := by
  obtain ⟨-, hmode, hdst⟩ := h
  unfold upperGate
  rw [if_neg hbody.not_gt]
  exact (if_neg hdst).trans (if_neg hmode)

theorem runGate_of_running {t : Telegram} {s : State} (watch : State → State) (hbody : t.body.length ≤ Config.maxBody)
    (h : Passed t.dst s) (hrun : s.running = true) :
    s.runGate t watch = (watch (s.setLinkCount 0)).placeNormal t := by
  unfold runGate
  rw [upperGate_of_passed _ hbody h]
  exact congrArg (placeNormal t) (if_pos hrun)

theorem watchRun_of_inUse {p : PressIx} {press : Byte} {s : State} (src : Byte) (act : PressIx → State → State)
    (hpress : press.toNat = num p) (huse : s.inUse p = true) : s.watchRun src press act = act p s := by
  simp only [watchRun, toIx_of_eq_num hpress, huse, if_true]

/-! ### The closed-run queue (R152) -/

@[simp] theorem raise_scu (f : Flag) (n : Nat) (s : State) : (s.raise f n).scu = s.scu :=
  (Moves.raise f n s).same .scu (by decide)

theorem pushClosed_of_room {s : State} (c : ClosedRun) (h : s.scu.closed.length < Config.closedSlots) :
    s.pushClosed c = s.setClosed (s.scu.closed ++ [c]) := by
  unfold pushClosed
  split
  next hnil => rw [hnil]; rfl
  next old rest hcons =>
    rw [hcons] at h ⊢
    exact if_neg h.not_ge

theorem pushClosed_of_full {s : State} {old : ClosedRun} {rest : List ClosedRun} (c : ClosedRun)
    (hclosed : s.scu.closed = old :: rest) (hfull : Config.closedSlots ≤ rest.length + 1) :
    s.pushClosed c = ((s.setClosed rest).raise .runLost (num old.press)).setClosed (rest ++ [c]) := by
  simp only [pushClosed, hclosed, if_pos hfull]

/-- A record joins the closed-run queue by changing that queue alone of the SCU's records. -/
theorem pushClosed_scu (c : ClosedRun) (s : State) : ∃ l, (s.pushClosed c).scu = { s.scu with closed := l } := by
  unfold pushClosed
  split
  next => exact ⟨_, rfl⟩
  next old rest _ =>
    split
    next => exact ⟨rest ++ [c], by simp only [setClosed, raise_scu]⟩
    next => exact ⟨_, rfl⟩

@[simp] theorem press_pushClosed (c : ClosedRun) (p : PressIx) (s : State) : (s.pushClosed c).press p = s.press p := by
  obtain ⟨l, h⟩ := pushClosed_scu c s
  simp only [press, h]

/-! ### The start of a run (R150) -/

@[simp] theorem clock_closeRun (p : PressIx) (cause : CloseCause) (s : State) : (s.closeRun p cause).clock = s.clock :=
  (Moves.closeRun p cause s).same .clock (by decide)

theorem setRun_setRun (p : PressIx) (r r' : Option Run) (s : State) : (s.setRun p r).setRun p r' = s.setRun p r' := by
  simp only [setRun, Vector.set_set]

/-- A run open on a press from now, the press's block and monitor started afresh (R150). -/
def openRun (p : PressIx) (r : Run) (s : State) : State := (s.setRun p (some r)).updPress p PressRec.afresh

theorem runStart_eq_openRun (p : PressIx) (number edition : Nat) (s : State) :
    s.runStart p number edition = (s.closeRun p .started).openRun p (.fresh number edition s.clock) := by
  rw [← clock_closeRun p .started s]
  rfl

theorem runStart_of_none {p : PressIx} {s : State} (number edition : Nat) (h : s.run? p = none) :
    s.runStart p number edition = s.openRun p (.fresh number edition s.clock) := by
  rw [runStart_eq_openRun]
  simp only [closeRun, h]

theorem runStart_of_some {p : PressIx} {r : Run} {s : State} (number edition : Nat) (h : s.run? p = some r) :
    s.runStart p number edition =
      (s.pushClosed ⟨p, r, s.clock, .started⟩).openRun p (.fresh number edition s.clock) := by
  rw [runStart_eq_openRun]
  simp only [closeRun, h, openRun, setRun_setRun]

theorem openRun_eq {p : PressIx} {x : PressRec} {s : State} (r : Run) (h : s.press p = x) :
    s.openRun p r =
      { s with scu := { s.scu with runs := s.scu.runs.set p (some r), presses := s.scu.presses.set p x.afresh } } := by
  subst h
  rfl

/-! ### The class of a waste increment (R155) -/

section WasteClass

variable {s : State} {p : PressIx} {reason : Byte}

theorem wasteClass_of_reason {c : WasteClass} (h : reasonClass? reason = some c) : s.wasteClass p reason = c := by
  simp only [wasteClass, h]

theorem wasteClass_of_break (hnone : reasonClass? reason = none) (hbrk : 0 < (s.press p).brk.remaining) :
    s.wasteClass p reason = .brk := by
  simp only [wasteClass, hnone, if_pos hbrk]

theorem wasteClass_of_splice (hnone : reasonClass? reason = none) (hbrk : (s.press p).brk.remaining = 0)
    (hsplice : 0 < (s.press p).splice.remaining) : s.wasteClass p reason = .splice := by
  simp only [wasteClass, hnone, hbrk, if_neg (Nat.lt_irrefl 0), if_pos hsplice]

section NoWindow

variable (hnone : reasonClass? reason = none) (hbrk : (s.press p).brk.remaining = 0)
  (hsplice : (s.press p).splice.remaining = 0)

include hnone hbrk hsplice

/-- With no window open, an open run's phase gives the class. -/
theorem wasteClass_of_phase {r : Run} (hrun : s.run? p = some r) :
    (r.phase = .startUp → s.wasteClass p reason = .startUp) ∧
    (r.phase = .plateChange → s.wasteClass p reason = .plateChange) ∧
    (r.phase = .good → s.wasteClass p reason = .other) := by
  refine ⟨fun hphase => ?_, fun hphase => ?_, fun hphase => ?_⟩ <;>
    simp only [wasteClass, hnone, hbrk, hsplice, if_neg (Nat.lt_irrefl 0), hrun, Option.map_some, hphase]

theorem wasteClass_of_idle (hrun : s.run? p = none) : s.wasteClass p reason = .other := by
  simp only [wasteClass, hnone, hbrk, hsplice, if_neg (Nat.lt_irrefl 0), hrun, Option.map_none]

end NoWindow

end WasteClass

end State

/-- UNCLASSED and the undefined codes name no class (R154). -/
theorem reasonClass?_eq_none {reason : Byte} (h : reason = 0 ∨ 5 < reason.toNat) : reasonClass? reason = none := by
  rcases h with rfl | h
  · rfl
  · unfold reasonClass?
    split
    case h_6 => rfl
    all_goals omega

/-- A RUN START acted on (R42, R149, R150): the run is started, and the telegram forwarded. -/
theorem exec_runStart_of_watched {p : PressIx} {dst press : Byte} {s : State} (src : Byte) (run : Half) (edition : Byte)
    (h : Passed dst s) (hrun : s.running = true) (hpress : press.toNat = num p) (huse : s.inUse p = true) :
    exec (.runStart dst src press run edition) s =
      .next (State.placeNormal ⟨dst, src, clsRun, runBody press 1 run edition⟩
        ((s.setLinkCount 0).runStart p run.toNat edition.toNat)) := by
  have hbody : (runBody press 1 run edition).length ≤ Config.maxBody := by simp [runBody, be16, Config.maxBody]
  refine (awake_of_rstHigh _ h.1).trans (congrArg Host.Outcome.next ?_)
  rw [State.runGate_of_running _ hbody h hrun, State.watchRun_of_inUse (s := s.setLinkCount 0) src _ hpress huse]

/-- Settles O15: the gate hands the command to `runStart`, whose two cases are an idle press and an open run. -/
theorem runStartOpensRun : Obligations.RunStartOpensRun := by
  intro p dst src press run edition s hpassed hrun hpress huse opened t u
  have hexec := exec_runStart_of_watched src run edition hpassed hrun hpress huse
  refine ⟨fun hidle => ?idle, fun r hopen => ⟨?closed, fun hroom => ?room, fun old rest hclosed hseven => ?full⟩⟩
  case idle =>
    rw [hexec, State.runStart_of_none (s := u) _ _ hidle, State.openRun_eq _ rfl]
    rfl
  case closed =>
    rw [hexec, State.runStart_of_some (s := u) _ _ hopen, State.openRun_eq _ (State.press_pushClosed ..)]
    rfl
  case room => exact State.pushClosed_of_room _ hroom
  case full => exact State.pushClosed_of_full _ hclosed (by rw [hseven]; decide)

/-- Settles O33: the reason's own class, or else the first of the windows and the phases. -/
theorem wasteClassByFirstCase : Obligations.WasteClassByFirstCase := by
  intro p reason s
  refine ⟨fun h => ?startUp, fun h => ?splice, fun h => ?brk, fun h => ?plateChange, fun h => ?other, fun h => ?unclassed⟩
  case unclassed =>
    have hnone := reasonClass?_eq_none h
    exact ⟨State.wasteClass_of_break hnone, fun hbrk => ⟨State.wasteClass_of_splice hnone hbrk, fun hsplice =>
      ⟨fun _ => State.wasteClass_of_phase hnone hbrk hsplice, State.wasteClass_of_idle hnone hbrk hsplice⟩⟩⟩
  all_goals
    subst h
    exact State.wasteClass_of_reason rfl

end Sys2Proof.Machine
end

section
/-! PROOFS. The hall tick (R196): each count after a tick, what the tick leaves, and what it finds due (log 7); the answer
of a request that is ready, and of SET-TIME with it. -/

namespace Sys2Proof.Machine

/-- Every command ends in a next state. -/
theorem exec_answers (c : Instr) (s : State) : ∃ t, exec c s = .next t := by
  cases c <;> exact ⟨_, rfl⟩

/-- RESET, HALL_TICK and SET_TIME alone move the hall clock (R196). -/
theorem exec_keeps_clock {c : Instr} {s t : State} (hreset : c ≠ .reset) (htick : c ≠ .hallTick) (htime : c ≠ .setTime)
    (h : exec c s = .next t) : t.clock = s.clock := by
  by_cases hpin : c = .rstPinLow
  case pos =>
    subst hpin
    cases h
    rfl
  case neg => exact (Moves.exec hreset hpin htick htime h).same .clock (by decide)

/-! ### A vehicle's and a press's counts -/

/-- One tick more on the count that the vehicle's state runs (R86, R87). -/
theorem Vehicle.tick_eq (x : Vehicle) :
    x.tick = { x with
      supCount := if x.status = .idle ∨ x.status = .busy then min 50 (x.supCount + 1) else x.supCount
      retryCount := if x.status = .lost then min 50 (x.retryCount + 1) else x.retryCount } := by
  cases x with
  | mk home window status => cases status <;> rfl

namespace State

theorem vehicle_mapVehicles (f : Vehicle → Vehicle) (v : VehicleIx) (s : State) :
    (s.mapVehicles f).vehicle v = f (s.vehicle v) := by
  simp [vehicle, mapVehicles, mapVec, ← Vector.getElem_toList]

theorem vehicle_tickRunning (v : VehicleIx) (s : State) :
    s.tickRunning.vehicle v = if s.running then (s.vehicle v).tick else s.vehicle v := by
  unfold tickRunning
  split
  · exact vehicle_mapVehicles ..
  · rfl

theorem speed_tickRunning (p : PressIx) (s : State) :
    s.tickRunning.speed p = if s.running then (s.speed p).tick else s.speed p := by
  unfold tickRunning
  split
  · exact Moves.speed_mapSpeeds ..
  · rfl

theorem predictionCount_tickRunning (s : State) :
    s.tickRunning.fdu.predictionCount =
      if s.running then (if 9 ≤ s.fdu.predictionCount then 0 else s.fdu.predictionCount + 1)
      else s.fdu.predictionCount := by
  unfold tickRunning
  split <;> rfl

theorem tickRunning_frame (s : State) :
    s.tickRunning = { s with
      vou := { s.vou with vehicles := s.tickRunning.vou.vehicles }
      fdu := { s.fdu with
        speeds := s.tickRunning.fdu.speeds, predictionCount := s.tickRunning.fdu.predictionCount } } := by
  unfold tickRunning
  split <;> rfl

/-- The link count runs below its period, so that a period of 0 stops it (R177). -/
theorem tickLink_eq (s : State) :
    s.tickLink = s.setLinkCount (if s.sfu.mode = .normal ∧ s.sfu.linkCount < s.sfu.linkPeriod then s.sfu.linkCount + 1
      else s.sfu.linkCount) := by
  have hperiod : (s.sfu.mode = .normal ∧ s.sfu.linkPeriod ≠ 0 ∧ s.sfu.linkCount < s.sfu.linkPeriod) ↔
      s.sfu.mode = .normal ∧ s.sfu.linkCount < s.sfu.linkPeriod := by
    constructor
    · exact fun ⟨hmode, _, hlt⟩ => ⟨hmode, hlt⟩
    · exact fun ⟨hmode, hlt⟩ => ⟨hmode, Nat.ne_zero_of_lt hlt, hlt⟩
  unfold tickLink
  simp only [hperiod]
  split <;> rfl

@[simp] theorem tickLink_vou (s : State) : s.tickLink.vou = s.vou := by rw [tickLink_eq]; rfl
@[simp] theorem tickLink_fdu (s : State) : s.tickLink.fdu = s.fdu := by rw [tickLink_eq]; rfl

/-! ### The state after a tick -/

/-- A tick writes these fields, the clock, the link count and the pulse with the values shown, and nothing else. -/
theorem hallTick_eq (s : State) :
    s.hallTick = { s with
      clock := s.clock + 1
      vou := { s.vou with vehicles := s.hallTick.vou.vehicles }
      fdu := { s.fdu with speeds := s.hallTick.fdu.speeds, predictionCount := s.hallTick.fdu.predictionCount }
      sfu := { s.sfu with
        linkCount := if s.sfu.mode = .normal ∧ s.sfu.linkCount < s.sfu.linkPeriod then s.sfu.linkCount + 1
          else s.sfu.linkCount
        pulse := s.sfu.pulse - 1 }
      pins := { s.pins with alarmLow := s.hallTick.pins.alarmLow }
      due := s.hallTick.due } := by
  unfold hallTick
  dsimp only
  rw [tickLink_eq, tickRunning_frame]
  rfl

theorem linkCount_hallTick (s : State) :
    s.hallTick.sfu.linkCount =
      if s.sfu.mode = .normal ∧ s.sfu.linkCount < s.sfu.linkPeriod then s.sfu.linkCount + 1 else s.sfu.linkCount :=
  congrArg (·.sfu.linkCount) s.hallTick_eq

theorem pulse_hallTick (s : State) : s.hallTick.sfu.pulse = s.sfu.pulse - 1 := congrArg (·.sfu.pulse) s.hallTick_eq

theorem clock_hallTick (s : State) :
    s.hallTick.clock = if s.clock = 4294967295 then 0 else BitVec.ofNat 32 (s.clock.toNat + 1) := by
  have hclock : s.hallTick.clock = s.clock + 1 := congrArg (·.clock) s.hallTick_eq
  rw [hclock]
  split
  case isTrue hlast => rw [hlast]; rfl
  case isFalse => bv_omega

theorem hallTick_frame (s : State) :
    s.hallTick = { s with
      clock := s.hallTick.clock
      vou := { s.vou with vehicles := s.hallTick.vou.vehicles }
      fdu := { s.fdu with speeds := s.hallTick.fdu.speeds, predictionCount := s.hallTick.fdu.predictionCount }
      sfu := { s.sfu with linkCount := s.hallTick.sfu.linkCount, pulse := s.hallTick.sfu.pulse }
      pins := { s.pins with alarmLow := s.hallTick.pins.alarmLow }
      due := s.hallTick.due } := by
  rw [hallTick_eq]

theorem vehicle_hallTick (v : VehicleIx) (s : State) :
    s.hallTick.vehicle v = if s.running then (s.vehicle v).tick else s.vehicle v :=
  calc s.hallTick.vehicle v
    _ = (s.setClock (s.clock + 1)).tickRunning.vehicle v := by
      simp only [vehicle, hallTick, tickPulse, setDue_vou, driveAlarm_vou, tickLink_vou]
    _ = _ := vehicle_tickRunning v (s.setClock (s.clock + 1))

theorem speed_hallTick (p : PressIx) (s : State) :
    s.hallTick.speed p = if s.running then (s.speed p).tick else s.speed p :=
  calc s.hallTick.speed p
    _ = (s.setClock (s.clock + 1)).tickRunning.speed p := by
      simp only [speed, hallTick, tickPulse, setDue_fdu, driveAlarm_fdu, tickLink_fdu]
    _ = _ := speed_tickRunning p (s.setClock (s.clock + 1))

theorem predictionCount_hallTick (s : State) :
    s.hallTick.fdu.predictionCount =
      if s.running then (if 9 ≤ s.fdu.predictionCount then 0 else s.fdu.predictionCount + 1)
      else s.fdu.predictionCount :=
  calc s.hallTick.fdu.predictionCount
    _ = (s.setClock (s.clock + 1)).tickRunning.fdu.predictionCount := by
      simp only [hallTick, tickPulse, setDue_fdu, driveAlarm_fdu, tickLink_fdu]
    _ = _ := predictionCount_tickRunning (s.setClock (s.clock + 1))

/-- The pin follows its level at a tick (log 36). -/
theorem alarmLow_hallTick {s : State} (h : s.pins.rstLow = false) : s.hallTick.pins.alarmLow = s.hallTick.alarmLevel := by
  have hrst : s.hallTick.pins.rstLow = false := (congrArg (·.pins.rstLow) s.hallTick_eq).trans h
  have hdriven : s.hallTick.pins.alarmLow = (!s.hallTick.pins.rstLow && s.hallTick.alarmLevel) := rfl
  rw [hdriven, hrst, Bool.not_false, Bool.true_and]

@[simp] theorem running_hallTick (s : State) : s.hallTick.running = s.running := congrArg (·.running) s.hallTick_eq
@[simp] theorem inUse_hallTick (p : PressIx) (s : State) : s.hallTick.inUse p = s.inUse p :=
  congrArg (·.inUse p) s.hallTick_eq
@[simp] theorem vehicleEntry?_hallTick (v : VehicleIx) (s : State) : s.hallTick.vehicleEntry? v = s.vehicleEntry? v :=
  congrArg (·.vehicleEntry? v) s.hallTick_eq
@[simp] theorem speedSettings_hallTick (p : PressIx) (s : State) : s.hallTick.speedSettings p = s.speedSettings p :=
  congrArg (·.speedSettings p) s.hallTick_eq
@[simp] theorem mode_hallTick (s : State) : s.hallTick.sfu.mode = s.sfu.mode := congrArg (·.sfu.mode) s.hallTick_eq
@[simp] theorem linkPeriod_hallTick (s : State) : s.hallTick.sfu.linkPeriod = s.sfu.linkPeriod :=
  congrArg (·.sfu.linkPeriod) s.hallTick_eq

/-! ### What a tick finds due -/

end State

/-- The condition that a tick notes and that the event's command judges again; a prediction tick has none (log 7). -/
def Due.over (s : State) : Due → Bool
  | .vehicleLost v => s.supervisionOver v
  | .lostRetry v => s.retryOver v
  | .driveSilent p => s.driveSilence p
  | .countSilent p => s.countSilence p
  | .holdover p => s.holdoverOver p
  | .linkSilent => s.linkSilent
  | .prediction => false

namespace State

theorem mem_dueNow {d : Due} {s : State} : d ∈ s.dueNow ↔ d.over s = true := by
  cases d <;> simp [dueNow, Due.over]

theorem due_hallTick (s : State) :
    s.hallTick.due = s.hallTick.dueNow ++
      if (s.running && decide (9 ≤ s.fdu.predictionCount)) || s.due.contains .prediction then [.prediction] else [] :=
  rfl

theorem mem_due_hallTick {d : Due} {s : State} (h : d ≠ .prediction) :
    d ∈ s.hallTick.due ↔ d.over s.hallTick = true := by
  have hlate (b : Bool) : d ∉ if b then [Due.prediction] else [] := by cases b <;> simp [h]
  rw [due_hallTick, List.mem_append, or_iff_left (hlate _), mem_dueNow]

theorem prediction_mem_due_hallTick (s : State) :
    .prediction ∈ s.hallTick.due ↔ (s.running = true ∧ 9 ≤ s.fdu.predictionCount) ∨ .prediction ∈ s.due := by
  have hnow : Due.prediction ∉ s.hallTick.dueNow := fun h => Bool.false_ne_true (mem_dueNow.1 h)
  rw [due_hallTick, List.mem_append, or_iff_right hnow]
  simp

theorem supervisionOver_iff {v : VehicleIx} {s : State} :
    s.supervisionOver v = true ↔
      s.running = true ∧ ((s.vehicle v).status = .idle ∨ (s.vehicle v).status = .busy) ∧
        ∃ e, s.vehicleEntry? v = some e ∧ e.period ≤ (s.vehicle v).supCount := by
  unfold supervisionOver
  cases s.vehicleEntry? v <;> simp [and_assoc]

theorem retryOver_iff {v : VehicleIx} {s : State} :
    s.retryOver v = true ↔
      s.running = true ∧ (s.vehicle v).status = .lost ∧ (s.vehicle v).retryLimit ≤ (s.vehicle v).retryCount := by
  simp [retryOver, and_assoc]

theorem driveSilence_iff {p : PressIx} {s : State} :
    s.driveSilence p = true ↔
      (s.running = true ∧ s.inUse p = true) ∧ (s.speed p).source = .trackPrimary ∧
        (s.speedSettings p).silence ≤ (s.speed p).driveSilence := by
  simp [driveSilence, and_assoc]

theorem countSilence_iff {p : PressIx} {s : State} :
    s.countSilence p = true ↔
      (s.running = true ∧ s.inUse p = true) ∧ (s.speed p).source ≠ .forced ∧
        ((s.speed p).interval ≠ none ∨ (s.speed p).source = .trackSecondary) ∧
        (s.speedSettings p).silence ≤ (s.speed p).countSilence := by
  simp [countSilence, and_assoc, Option.isSome_iff_ne_none]

theorem holdoverOver_iff {p : PressIx} {s : State} :
    s.holdoverOver p = true ↔
      (s.running = true ∧ s.inUse p = true) ∧ (s.speed p).source = .hold ∧
        10 * (s.speedSettings p).holdover ≤ (s.speed p).holdover := by
  simp [holdoverOver, and_assoc]

theorem linkSilent_iff {s : State} :
    s.linkSilent = true ↔
      s.sfu.mode = .normal ∧ s.sfu.linkPeriod ≠ 0 ∧ s.sfu.linkPeriod ≤ s.sfu.linkCount := by
  simp [linkSilent, and_assoc]

theorem vehicleLost_mem_due_hallTick (v : VehicleIx) (s : State) :
    .vehicleLost v ∈ s.hallTick.due ↔
      s.running = true ∧ ((s.vehicle v).status = .idle ∨ (s.vehicle v).status = .busy) ∧
        ∃ e, s.vehicleEntry? v = some e ∧ e.period ≤ min 50 ((s.vehicle v).supCount + 1) := by
  refine (mem_due_hallTick (by simp)).trans (supervisionOver_iff.trans ?_)
  rw [running_hallTick, vehicleEntry?_hallTick, vehicle_hallTick]
  refine and_congr_right fun hrun => ?_
  rw [if_pos hrun, Vehicle.tick_eq]
  refine and_congr_right fun hworks => ?_
  dsimp only
  rw [if_pos hworks]

theorem lostRetry_mem_due_hallTick (v : VehicleIx) (s : State) :
    .lostRetry v ∈ s.hallTick.due ↔
      s.running = true ∧ (s.vehicle v).status = .lost ∧
        (s.vehicle v).retryLimit ≤ min 50 ((s.vehicle v).retryCount + 1) := by
  refine (mem_due_hallTick (by simp)).trans (retryOver_iff.trans ?_)
  rw [running_hallTick, vehicle_hallTick]
  refine and_congr_right fun hrun => ?_
  rw [if_pos hrun, Vehicle.tick_eq]
  refine and_congr_right fun hlost => ?_
  dsimp only
  rw [if_pos hlost]

theorem driveSilent_mem_due_hallTick (p : PressIx) (s : State) :
    .driveSilent p ∈ s.hallTick.due ↔
      (s.running = true ∧ s.inUse p = true) ∧ (s.speed p).source = .trackPrimary ∧
        (s.speedSettings p).silence ≤ min 50 ((s.speed p).driveSilence + 1) := by
  refine (mem_due_hallTick (by simp)).trans (driveSilence_iff.trans ?_)
  rw [running_hallTick, inUse_hallTick, speedSettings_hallTick, speed_hallTick]
  refine and_congr_right fun ⟨hrun, _⟩ => ?_
  rw [if_pos hrun]
  rfl

theorem countSilent_mem_due_hallTick (p : PressIx) (s : State) :
    .countSilent p ∈ s.hallTick.due ↔
      (s.running = true ∧ s.inUse p = true) ∧ (s.speed p).source ≠ .forced ∧
        ((s.speed p).interval ≠ none ∨ (s.speed p).source = .trackSecondary) ∧
        (s.speedSettings p).silence ≤ min 50 ((s.speed p).countSilence + 1) := by
  refine (mem_due_hallTick (by simp)).trans (countSilence_iff.trans ?_)
  rw [running_hallTick, inUse_hallTick, speedSettings_hallTick, speed_hallTick]
  refine and_congr_right fun ⟨hrun, _⟩ => ?_
  have hinterval : (s.speed p).tick.interval ≠ none ↔ (s.speed p).interval ≠ none := Option.map_eq_none_iff.not
  rw [if_pos hrun, hinterval]
  rfl

theorem holdover_mem_due_hallTick (p : PressIx) (s : State) :
    .holdover p ∈ s.hallTick.due ↔
      (s.running = true ∧ s.inUse p = true) ∧ (s.speed p).source = .hold ∧
        10 * (s.speedSettings p).holdover ≤ min 6000 ((s.speed p).holdover + 1) := by
  refine (mem_due_hallTick (by simp)).trans (holdoverOver_iff.trans ?_)
  rw [running_hallTick, inUse_hallTick, speedSettings_hallTick, speed_hallTick]
  refine and_congr_right fun ⟨hrun, _⟩ => ?_
  rw [if_pos hrun]
  refine and_congr_right fun hhold => ?_
  have hcount : (s.speed p).tick.holdover = min 6000 ((s.speed p).holdover + 1) := if_pos hhold
  rw [hcount]

/-- A count that has reached its period stands still and stays due (R177, R178). -/
theorem linkSilent_mem_due_hallTick (s : State) :
    .linkSilent ∈ s.hallTick.due ↔
      s.sfu.mode = .normal ∧ s.sfu.linkPeriod ≠ 0 ∧ s.sfu.linkPeriod ≤ s.sfu.linkCount + 1 := by
  refine (mem_due_hallTick (by simp)).trans (linkSilent_iff.trans ?_)
  rw [mode_hallTick, linkPeriod_hallTick, linkCount_hallTick]
  refine and_congr_right fun hnormal => and_congr_right fun _ => ?_
  simp only [hnormal, true_and]
  split <;> omega

/-! ### A request that is ready -/

theorem takeRequest_of_ready {row : Row} {t : Telegram} {rest : List Telegram} {s : State}
    (run : Telegram → State → State) (h : Ready row t rest s) : s.takeRequest row run = run t (s.popped rest) := by
  obtain ⟨-, hqueue, hrow, hmode, hform⟩ := h
  have hmode' : (s.popped rest).sfu.mode ≠ .startUp := hmode
  simp only [takeRequest, hqueue, if_pos hrow, if_neg hmode', hform]

theorem serveRequest_of_ready {row : Row} {t : Telegram} {rest : List Telegram} {s : State}
    (run : Telegram → State → Answer × State) (h : Ready row t rest s) :
    s.serveRequest row run = (run t (s.popped rest)).2.reply t (run t (s.popped rest)).1 :=
  takeRequest_of_ready _ h

end State

/-! ### The commands -/

theorem exec_hallTick_of_rstHigh {s : State} (h : s.pins.rstLow = false) : exec .hallTick s = .next s.hallTick :=
  awake_of_rstHigh State.hallTick h

theorem exec_setTime_of_ready {t : Telegram} {rest : List Telegram} {s : State} (h : Ready .setTime t rest s) :
    exec .setTime s = .next (State.reply t { result := .ok } { s.popped rest with clock := u32 t.body 1 }) :=
  (awake_of_rstHigh _ h.1).trans (congrArg Host.Outcome.next (State.serveRequest_of_ready State.setTime h))

/-- Settles O4: each count after a tick, and the due list as the conditions of its events on those counts. -/
theorem hallClockCountsTicks : Obligations.HallClockCountsTicks := by
  refine ⟨⟨fun s => ?reset, fun s hrst => ?tick, fun t rest s hready => ?setTime,
    fun c s hreset htick htime => ?others⟩, fun s hrst => ?due⟩
  case reset => exact ⟨_, rfl, rfl⟩
  case tick =>
    refine ⟨s.hallTick, exec_hallTick_of_rstHigh hrst, s.clock_hallTick, fun v => ?vehicle, fun p => s.speed_hallTick p,
      s.predictionCount_hallTick, fun hrun hlast => ?prediction, s.linkCount_hallTick, s.pulse_hallTick,
      State.alarmLow_hallTick hrst, s.hallTick_frame⟩
    case vehicle =>
      rw [s.vehicle_hallTick v, Vehicle.tick_eq]
      split <;> simp only [*, true_and, false_and, if_false, Bool.false_eq_true]
    case prediction => exact s.prediction_mem_due_hallTick.2 (.inl ⟨hrun, hlast⟩)
  case setTime => exact exec_setTime_of_ready hready
  case others =>
    obtain ⟨t, hnext⟩ := exec_answers c s
    exact ⟨t, hnext, exec_keeps_clock hreset htick htime hnext⟩
  case due =>
    exact ⟨s.hallTick, exec_hallTick_of_rstHigh hrst,
      fun v => ⟨s.vehicleLost_mem_due_hallTick v, s.lostRetry_mem_due_hallTick v⟩,
      fun p => ⟨s.driveSilent_mem_due_hallTick p, s.countSilent_mem_due_hallTick p, s.holdover_mem_due_hallTick p⟩,
      s.linkSilent_mem_due_hallTick, s.prediction_mem_due_hallTick⟩

end Sys2Proof.Machine
end

section
/-! PROOFS. What every step keeps: a command keeps each invariant of Safety.lean, by what `Moves` says of it, and RESET
and RST_PIN_LOW keep it by the values they write. -/

namespace Sys2Proof.Machine

/-- Every command but the two that drive the pins keeps the invariants, and leaves the straps and the queue of commands. -/
theorem moves_of_exec {c : Instr} {s t : State} (hreset : c ≠ .reset) (hpin : c ≠ .rstPinLow) (h : exec c s = .next t) :
    Moves (.clock :: Moves.working) s t := by
  by_cases htick : c = .hallTick
  · subst htick
    exact Moves.execHallTick h
  by_cases htime : c = .setTime
  · subst htime
    exact Moves.execSetTime h
  exact (Moves.exec hreset hpin htick htime h).mono

/-- A property that every move keeps, that the power-on values have, and that the queue of commands and a pin driven low
leave, is kept by every step. -/
theorem step_keeps {P : State → Prop} (hmoves : ∀ {m : List Part} {a b : State}, Moves m a b → P a → P b)
    (hqueue : ∀ (s : State) (rest : List Instr), P s → P { s with pending := rest })
    (hreset : ∀ s t : State, exec .reset s = .next t → P t)
    (hpin : ∀ s t : State, exec .rstPinLow s = .next t → P s → P t) {s t : State} (h : step s = .next t) (hs : P s) :
    P t := by
  unfold step at h
  split at h
  case h_1 =>
    injection h with h
    exact h ▸ hs
  case h_2 c rest _ =>
    by_cases hr : c = .reset
    · subst hr
      exact hreset _ _ h
    by_cases hp : c = .rstPinLow
    · subst hp
      exact hpin _ _ h (hqueue s rest hs)
    exact hmoves (moves_of_exec hr hp h) (hqueue s rest hs)

namespace State

theorem queuesFit_reset : reset.queuesFit := by
  unfold queuesFit
  decide
theorem alarmFollows_reset : reset.alarmFollows := by
  unfold alarmFollows
  decide
theorem tablesWf_reset : reset.tablesWf = true := by decide
theorem speedsBounded_reset : reset.speedsBounded := by
  unfold speedsBounded
  decide
theorem callsOrdered_reset : reset.callsOrdered := List.Pairwise.nil

end State

/-- Settles O57: a queue grows by what finds a slot free, and RESET empties the queues. -/
theorem everyStepKeepsQueuesFit : Obligations.EveryStepKeepsQueuesFit := by
  intro s t h
  refine step_keeps (fun m => m.fit) (fun _ _ => id) (fun s t e => ?reset) (fun s t e => ?pin) h
  case reset => cases e; exact State.queuesFit_reset
  case pin => cases e; exact id

/-- Settles O58: what moves the level drives the pin, and a low RST pin releases it. -/
theorem everyStepKeepsAlarmAtItsLevel : Obligations.EveryStepKeepsAlarmAtItsLevel := by
  intro s t h
  refine step_keeps (fun m => m.alarm) (fun _ _ => id) (fun s t e => ?reset) (fun s t e _ => ?pin) h
  case reset => cases e; exact State.alarmFollows_reset
  case pin => cases e; rfl

/-- Settles O59: a table changes by canonical writes alone, and RESET empties the tables. -/
theorem everyStepKeepsTablesCanonical : Obligations.EveryStepKeepsTablesCanonical := by
  intro s t h
  refine step_keeps (P := fun s => s.tablesWf = true) (fun m => m.tables) (fun _ _ => id) (fun s t e => ?reset)
    (fun s t e => ?pin) h
  case reset => cases e; exact State.tablesWf_reset
  case pin => cases e; exact id

/-- Settles O60: an estimate is a limited sample or a nominal speed, a call joins the list in its place; RESET has speed 0
and no call. -/
theorem everyStepKeepsSpeedsAndCalls : Obligations.EveryStepKeepsSpeedsAndCalls := by
  refine ⟨fun s t h => ?speeds, fun s t h => ?calls⟩
  case speeds =>
    refine step_keeps (fun m => m.bounded) (fun _ _ => id) (fun s t e => ?_) (fun s t e => ?_) h
    · cases e; exact State.speedsBounded_reset
    · cases e; exact id
  case calls =>
    refine step_keeps (fun m => m.ordered) (fun _ _ => id) (fun s t e => ?_) (fun s t e => ?_) h
    · cases e; exact State.callsOrdered_reset
    · cases e; exact id

/-! ### The front command, power-on and the pins -/

/-- Settles O1: the two arms of `step`. -/
theorem stepTakesFrontCommand : Obligations.StepTakesFrontCommand := by
  refine ⟨fun c rest s => rfl, fun s hempty => ?_⟩
  simp only [step, hempty]

/-- Settles O2: each record of each table reads as its power-on value. -/
theorem resetState : Obligations.ResetState := by
  refine ⟨⟨⟨rfl, rfl, rfl⟩, by decide, by decide, fun f => by cases f <;> rfl, ⟨rfl, rfl, rfl, rfl, rfl, rfl, rfl⟩,
    fun p => rfl, by decide, ⟨by decide, by decide, fun n => rfl⟩, ⟨rfl, rfl, ?vehicles⟩, by decide, by decide, by decide, by decide, by decide, by decide⟩,
    State.queuesFit_reset, State.alarmFollows_reset, State.tablesWf_reset, State.speedsBounded_reset, State.callsOrdered_reset⟩
  case vehicles => decide

namespace State

/-- With RST low a command that waits for the part to be awake changes nothing (R197). -/
theorem awake_of_rstLow {s : State} (f : State → State) (h : s.pins.rstLow = true) : awake f s = .next s := by
  simp [awake, h]

theorem clearingDone_of_waiting {s : State} {t : Telegram} (hmode : s.sfu.mode = .startUp)
    (hwaits : s.mga.partitionWaiting = some t) :
    s.clearingDone = State.reply t { result := .ok } { s with
      tmc := { sizes := s.tmc.sizes }
      sfu := { s.sfu with mode := .config }
      mga := { s.mga with partitionWaiting := none } } := by
  simp only [clearingDone, hmode, if_true, hwaits]

theorem clearingDone_of_none {s : State} (hmode : s.sfu.mode = .startUp) (hnone : s.mga.partitionWaiting = none) :
    s.clearingDone = { s with
      tmc := { sizes := s.tmc.sizes }
      sfu := { s.sfu with mode := .config }
      mga := { s.mga with partitionWaiting := none } } := by
  simp only [clearingDone, hmode, if_true, hnone]

end State

theorem exec_clearingPassComplete_of_rstHigh {s : State} (h : s.pins.rstLow = false) :
    exec .clearingPassComplete s = .next s.clearingDone :=
  awake_of_rstHigh State.clearingDone h

/-- Settles O3: every command but the two that drive the pins waits for the part to be awake; the clearing pass by its
mode and its waiting request. -/
theorem resetPinAndClearingPass : Obligations.ResetPinAndClearingPass := by
  refine ⟨⟨fun s => rfl, fun s => rfl, fun c s hlow hreset hpin => ?low⟩, fun s hhigh =>
    ⟨fun hmode => ⟨fun t hwaits => ?waiting, fun hnone => ?none⟩, fun hmode => ?awake⟩⟩
  case low =>
    cases c
    case reset => exact absurd rfl hreset
    case rstPinLow => exact absurd rfl hpin
    all_goals exact State.awake_of_rstLow _ hlow
  case waiting =>
    rw [exec_clearingPassComplete_of_rstHigh hhigh, State.clearingDone_of_waiting hmode hwaits]
  case none =>
    rw [exec_clearingPassComplete_of_rstHigh hhigh, State.clearingDone_of_none hmode hnone]
  case awake =>
    rw [exec_clearingPassComplete_of_rstHigh hhigh]
    exact congrArg _ (if_neg hmode)

end Sys2Proof.Machine
end

section
/-! PROOFS. The flag table (R183 to R186): a setting event by the case its NOTICE meets, and the masks and flags that
management writes. -/

namespace Sys2Proof.Machine

/-- A request that is ready is answered with what its row's execution gives. -/
theorem served {row : Row} {t : Telegram} {rest : List Telegram} {s u : State} {a : Answer}
    {run : Telegram → State → Answer × State} (h : Ready row t rest s) (e : run t (s.popped rest) = (a, u)) :
    awake (State.serveRequest row run) s = .next (u.reply t a) := by
  rw [awake_of_rstHigh _ h.1, State.serveRequest_of_ready run h, e]

theorem Flag.mem_all (f : Flag) : f ∈ Flag.all := by cases f <;> decide

theorem Flag.nodup_all : Flag.all.Nodup := by decide

theorem Flag.ofNumber_number (f : Flag) : Flag.ofNumber f.number = some f := by cases f <;> decide

theorem Flag.ofNumber_above {n : Nat} (h : 30 < n) : Flag.ofNumber n = none := by
  refine List.find?_eq_none.2 fun f _ hf => ?_
  have hix : f.ix.val < 30 := f.ix.isLt
  have hnum : f.ix.val + 1 = n := of_decide_eq_true hf
  omega

namespace State

/-! ### The pin and its level -/

theorem alarmLevel_iff (s : State) : s.alarmLevel = true ↔
    0 < s.sfu.pulse ∨ ∃ f : Flag, f.severe = true ∧ (s.flag f).latched = true ∧ (s.flag f).masked = false := by
  simp [alarmLevel, Flag.mem_all, and_assoc]

theorem alarmLow_driveAlarm (s : State) : s.driveAlarm.pins.alarmLow = (!s.pins.rstLow && s.driveAlarm.alarmLevel) := rfl

/-- Flags written and the pin driven: the pin stands at its level, and nothing else has changed. -/
theorem driven_eq {s : State} (x : Vector FlagRec 30) (h : s.pins.rstLow = false) :
    let u := driveAlarm { s with sfu := { s.sfu with flags := x } }
    u.pins.alarmLow = u.alarmLevel ∧
      u = { s with
        sfu := { s.sfu with flags := u.sfu.flags }
        pins := { s.pins with alarmLow := u.pins.alarmLow } } := by
  refine ⟨?_, rfl⟩
  rw [alarmLow_driveAlarm]
  simp [h]

/-! ### A setting event -/

@[simp] theorem latch_ltu (f : Flag) (n : Word) (s : State) : (s.latch f n).ltu = s.ltu := rfl
@[simp] theorem latch_pins (f : Flag) (n : Word) (s : State) : (s.latch f n).pins = s.pins := rfl
@[simp] theorem latch_clock (f : Flag) (n : Word) (s : State) : (s.latch f n).clock = s.clock := rfl
@[simp] theorem latch_pulse (f : Flag) (n : Word) (s : State) : (s.latch f n).sfu.pulse = s.sfu.pulse := rfl
@[simp] theorem latch_collector (f : Flag) (n : Word) (s : State) : (s.latch f n).sfu.collector = s.sfu.collector := rfl
@[simp] theorem latch_upperRoom (f : Flag) (n : Word) (s : State) : (s.latch f n).upperRoom = s.upperRoom := rfl

theorem flag_latch (f g : Flag) (n : Word) (s : State) :
    (s.latch f n).flag g = if f = g then
      { s.flag f with
        latched := true, subject := n, tick := s.clock
        subjects := if f.subjectCount = 0 then (s.flag f).subjects else setWith (s.flag f).subjects (n.toNat - 1) }
      else s.flag g :=
  flag_updFlag ..

@[simp] theorem flag_latch_self (f : Flag) (n : Word) (s : State) :
    (s.latch f n).flag f = { s.flag f with
      latched := true, subject := n, tick := s.clock
      subjects := if f.subjectCount = 0 then (s.flag f).subjects else setWith (s.flag f).subjects (n.toNat - 1) } :=
  (flag_latch ..).trans (if_pos rfl)

theorem flag_latch_other {f g : Flag} (h : f ≠ g) (n : Word) (s : State) : (s.latch f n).flag g = s.flag g :=
  (flag_latch ..).trans (if_neg h)

@[simp] theorem flag_pushUpper (t : Telegram) (f : Flag) (s : State) : (s.pushUpper t).flag f = s.flag f := rfl

@[simp] theorem alarmFor_ltu (f : Flag) (s : State) : (s.alarmFor f).ltu = s.ltu := by
  unfold alarmFor
  split <;> rfl

@[simp] theorem alarmFor_flag (f g : Flag) (s : State) : (s.alarmFor f).flag g = s.flag g := by
  unfold alarmFor
  split <;> rfl

@[simp] theorem alarmFor_pulse (f : Flag) (s : State) :
    (s.alarmFor f).sfu.pulse = if f.severe then s.sfu.pulse else 2 := by
  unfold alarmFor
  split <;> rfl

@[simp] theorem alarmFor_rstLow (f : Flag) (s : State) : (s.alarmFor f).pins.rstLow = s.pins.rstLow := by
  unfold alarmFor
  split <;> rfl

theorem alarmFor_alarmLow (f : Flag) (s : State) :
    (s.alarmFor f).pins.alarmLow = (!s.pins.rstLow && (s.alarmFor f).alarmLevel) := by
  unfold alarmFor
  split <;> rfl

theorem reports_iff {f : Flag} {s : State} :
    s.reports f = true ↔ (s.flag f).latched = false ∧ (s.flag f).masked = false := by
  simp [reports]

theorem upperRoom_iff {s : State} : s.upperRoom = true ↔ s.ltu.upper.length < Config.upperSlots := decide_eq_true_iff

/-- A setting event that is not reported latches alone (R184). -/
theorem raise_of_unreported {f : Flag} {s : State} (n : Nat) (h : ¬s.reports f = true) :
    s.raise f n = s.latch f (BitVec.ofNat 32 n) :=
  if_neg h

/-- Without a collector no NOTICE is made (R44). -/
theorem raise_of_uncollected {f : Flag} {s : State} (n : Nat) (h : s.reports f = true) (hcol : s.sfu.collector = 0) :
    s.raise f n = (s.latch f (BitVec.ofNat 32 n)).alarmFor f :=
  (if_pos h).trans (congrArg _ (if_pos hcol))

theorem raise_of_room {f : Flag} {s : State} (n : Nat) (h : s.reports f = true) (hcol : s.sfu.collector ≠ 0)
    (hroom : s.ltu.upper.length < Config.upperSlots) :
    s.raise f n = ((s.latch f (BitVec.ofNat 32 n)).pushUpper (s.notice f (BitVec.ofNat 32 n))).alarmFor f :=
  (if_pos h).trans (congrArg _ ((if_neg hcol).trans (if_pos (upperRoom_iff.2 hroom))))

/-- The NOTICE of a setting event finds Upper full: it is dropped (R48). -/
theorem raise_of_full {f : Flag} {s : State} (n : Nat) (h : s.reports f = true) (hcol : s.sfu.collector ≠ 0)
    (hfull : Config.upperSlots ≤ s.ltu.upper.length) :
    s.raise f n = ((s.latch f (BitVec.ofNat 32 n)).raiseNoticeDropped f.number).alarmFor f :=
  (if_pos h).trans (congrArg _ ((if_neg hcol).trans (if_neg (mt upperRoom_iff.1 hfull.not_gt))))

theorem raiseNoticeDropped_of_unreported {s : State} (n : Nat) (h : ¬s.reports .noticeDropped = true) :
    s.raiseNoticeDropped n = s.latch .noticeDropped (BitVec.ofNat 32 n) :=
  if_neg h

/-- The NOTICE of NOTICE-DROPPED is dropped in its turn, which names that flag (R184). -/
theorem raiseNoticeDropped_of_full {s : State} (n : Nat) (h : s.reports .noticeDropped = true)
    (hcol : s.sfu.collector ≠ 0) (hfull : Config.upperSlots ≤ s.ltu.upper.length) :
    s.raiseNoticeDropped n =
      ((s.latch .noticeDropped (BitVec.ofNat 32 n)).latch .noticeDropped 30).alarmFor .noticeDropped :=
  (if_pos h).trans (congrArg _ ((if_neg hcol).trans (if_neg (mt upperRoom_iff.1 hfull.not_gt))))

/-- A drop of the NOTICE touches NOTICE-DROPPED alone of the flags, and neither queue. -/
theorem raiseNoticeDropped_dropped {s : State} (n : Nat) (hcol : s.sfu.collector ≠ 0)
    (hfull : Config.upperSlots ≤ s.ltu.upper.length) :
    let u := s.raiseNoticeDropped n
    u.ltu = s.ltu ∧ (∀ g, g ≠ .noticeDropped → u.flag g = s.flag g) ∧
      (u.flag .noticeDropped).latched = true ∧
      (u.flag .noticeDropped).subject = (if s.reports .noticeDropped then 30 else BitVec.ofNat 32 n) ∧
      u.sfu.pulse = (if s.reports .noticeDropped then 2 else s.sfu.pulse) ∧ u.pins.rstLow = s.pins.rstLow := by
  have other (g : Flag) (hg : g ≠ .noticeDropped) (x : Word) (w : State) :
      (w.latch .noticeDropped x).flag g = w.flag g := flag_latch_other hg.symm x w
  by_cases hrep : s.reports .noticeDropped = true
  · rw [raiseNoticeDropped_of_full n hrep hcol hfull]
    simp only [alarmFor_ltu, alarmFor_flag, alarmFor_pulse, alarmFor_rstLow, latch_ltu, latch_pins, flag_latch_self, hrep,
      if_true, true_and]
    exact ⟨fun g hg => (other g hg ..).trans (other g hg ..), rfl, trivial⟩
  · rw [raiseNoticeDropped_of_unreported n hrep]
    simp only [latch_ltu, latch_pins, latch_pulse, flag_latch_self, if_neg hrep, true_and, and_true]
    exact fun g hg => other g hg ..

/-- A setting event touches the queues, the flags, the pulse and the pin alone. -/
theorem raise_drift (f : Flag) (n : Nat) (s : State) : Moves.Drift s (s.raise f n) := by
  have hlatch := (Moves.Drift.start s).latch f (BitVec.ofNat 32 n)
  by_cases hrep : s.reports f = true
  case neg => exact raise_of_unreported n hrep ▸ hlatch
  by_cases hcol : s.sfu.collector = 0
  case pos => exact raise_of_uncollected n hrep hcol ▸ hlatch.alarmFor f
  rcases Nat.lt_or_ge s.ltu.upper.length Config.upperSlots with hroom | hfull
  · exact raise_of_room n hrep hcol hroom ▸ (hlatch.pushUpper (upperRoom_iff.2 hroom) _).alarmFor f
  · exact raise_of_full n hrep hcol hfull ▸ (hlatch.raiseNoticeDropped _).alarmFor f

theorem raise_frame (f : Flag) (n : Nat) (s : State) :
    let t := s.raise f n
    t = { s with
      ltu := t.ltu
      sfu := { s.sfu with flags := t.sfu.flags, pulse := t.sfu.pulse }
      pins := { s.pins with alarmLow := t.pins.alarmLow } } := by
  obtain ⟨-, x, g, k, al, h⟩ := raise_drift f n s
  exact h ▸ rfl

/-- Every flag but NOTICE-DROPPED reads after a setting event as the latch alone leaves it. -/
theorem flag_raise {g : Flag} (hg : g ≠ .noticeDropped) (f : Flag) (n : Nat) (s : State) :
    (s.raise f n).flag g = (s.latch f (BitVec.ofNat 32 n)).flag g := by
  by_cases hrep : s.reports f = true
  case neg => rw [raise_of_unreported n hrep]
  by_cases hcol : s.sfu.collector = 0
  case pos => rw [raise_of_uncollected n hrep hcol, alarmFor_flag]
  rcases Nat.lt_or_ge s.ltu.upper.length Config.upperSlots with hroom | hfull
  · rw [raise_of_room n hrep hcol hroom, alarmFor_flag, flag_pushUpper]
  · obtain ⟨-, hflag, -⟩ := raiseNoticeDropped_dropped (s := s.latch f (BitVec.ofNat 32 n)) f.number hcol hfull
    rw [raise_of_full n hrep hcol hfull, alarmFor_flag, hflag g hg]

/-- A reported setting event drives the pin. -/
theorem alarmLow_raise {f : Flag} {s : State} (n : Nat) (hrep : s.reports f = true) :
    (s.raise f n).pins.alarmLow = (!s.pins.rstLow && (s.raise f n).alarmLevel) := by
  by_cases hcol : s.sfu.collector = 0
  case pos => exact raise_of_uncollected n hrep hcol ▸ alarmFor_alarmLow f _
  rcases Nat.lt_or_ge s.ltu.upper.length Config.upperSlots with hroom | hfull
  · exact raise_of_room n hrep hcol hroom ▸ alarmFor_alarmLow f _
  · obtain ⟨-, -, -, -, -, hrst⟩ := raiseNoticeDropped_dropped (s := s.latch f (BitVec.ofNat 32 n)) f.number hcol hfull
    rw [raise_of_full n hrep hcol hfull, alarmFor_alarmLow, hrst, latch_pins]

/-! ### Masks and cleared flags -/

theorem flag_foldl_updFlag (g : Flag → FlagRec → FlagRec) (f : Flag) {l : List Flag} (hl : l.Nodup) (s : State) :
    (l.foldl (fun s f => s.updFlag f (g f)) s).flag f = if f ∈ l then g f (s.flag f) else s.flag f := by
  induction l generalizing s with
  | nil => rfl
  | cons x r ih =>
    obtain ⟨hx, hr⟩ := List.nodup_cons.1 hl
    rw [List.foldl_cons, ih hr, flag_updFlag]
    by_cases e : x = f
    · subst e
      simp [hx]
    · simp [e, Ne.symm e]

theorem flag_mapVec (g : FlagRec → FlagRec) (f : Flag) (s : State) :
    flag { s with sfu := { s.sfu with flags := mapVec g s.sfu.flags } } f = g (s.flag f) := by
  simp [flag, mapVec, ← Vector.getElem_toList]

theorem flag_clearFlag (f g : Flag) (map : Word) (s : State) :
    (s.clearFlag f map).flag g = if f = g then
        if f.subjectCount = 0 then { s.flag f with latched := false }
        else { s.flag f with
          subjects := (s.flag f).subjects &&& ~~~map
          latched := (s.flag f).latched && decide ((s.flag f).subjects &&& ~~~map ≠ 0) }
      else s.flag g := by
  rw [clearFlag, flag_updFlag]

theorem setMasks_of_within {t : Telegram} {s : State} (h : (u32 t.body 1).toNat < 2 ^ 30) :
    s.setMasks t = ({ result := .ok }, driveAlarm (Flag.all.foldl
      (fun s f => s.updFlag f fun r => { r with masked := setHas (u32 t.body 1) f.ix.val }) s)) :=
  if_neg h.not_ge

theorem clearFlags_all {t : Telegram} {s : State} (h : u8 t.body 1 = 0) :
    s.clearFlags t = ({ result := .ok },
      driveAlarm { s with sfu := { s.sfu with flags := mapVec (fun r => { masked := r.masked }) s.sfu.flags } }) :=
  if_pos (congrArg BitVec.toNat h)

theorem clearFlags_of_unknown {t : Telegram} {s : State} (h : 30 < (u8 t.body 1).toNat) :
    s.clearFlags t = ({ result := .badIndex }, s) := by
  unfold clearFlags
  dsimp only
  rw [if_neg (by omega), Flag.ofNumber_above h]
  rfl

theorem clearFlags_of_flag {t : Telegram} {s : State} {f : Flag} (h : (u8 t.body 1).toNat = f.number) :
    s.clearFlags t =
      if f.subjectCount ≠ 0 ∧ 2 ^ f.subjectCount ≤ (u32 t.body 2).toNat then ({ result := .badValue }, s)
      else ({ result := .ok }, driveAlarm (s.clearFlag f (u32 t.body 2))) := by
  unfold clearFlags
  dsimp only
  rw [if_neg (by rw [h]; exact Nat.succ_ne_zero _), h, Flag.ofNumber_number]
  rfl

end State

/-- Settles O6: a setting event by its case, unreported, without a collector, with a free slot or with its NOTICE dropped. -/
theorem settingEventLatchesAndNotices : Obligations.SettingEventLatchesAndNotices := by
  intro f n s hf t r fresh word
  have hself : t.flag f = _ := (State.flag_raise hf f n s).trans (State.flag_latch_self ..)
  have hother (g : Flag) (hg : g ≠ f) (hg' : g ≠ .noticeDropped) : t.flag g = s.flag g :=
    (State.flag_raise hg' f n s).trans (State.flag_latch_other hg.symm ..)
  have hnd : (s.latch f word).flag .noticeDropped = s.flag .noticeDropped := State.flag_latch_other hf word s
  have hunrep (h : ¬fresh) : t = s.latch f word := State.raise_of_unreported n (mt State.reports_iff.1 h)
  have huncol (h : fresh) (hcol : s.sfu.collector = 0) : t = (s.latch f word).alarmFor f :=
    State.raise_of_uncollected n (State.reports_iff.2 h) hcol
  have hroom (h : fresh) (hcol : s.sfu.collector ≠ 0) (hlt : s.ltu.upper.length < 32) :
      t = ((s.latch f word).pushUpper (s.notice f word)).alarmFor f :=
    State.raise_of_room n (State.reports_iff.2 h) hcol hlt
  have hfull (h : fresh) (hcol : s.sfu.collector ≠ 0) (hge : 32 ≤ s.ltu.upper.length) :
      t = ((s.latch f word).raiseNoticeDropped f.number).alarmFor f :=
    State.raise_of_full n (State.reports_iff.2 h) hcol hge
  have hdrop (hcol : s.sfu.collector ≠ 0) (hge : 32 ≤ s.ltu.upper.length) :=
    State.raiseNoticeDropped_dropped (s := s.latch f word) f.number hcol hge
  have hreports : (s.latch f word).reports .noticeDropped = true ↔
      (s.flag .noticeDropped).latched = false ∧ (s.flag .noticeDropped).masked = false := by
    rw [State.reports_iff, hnd]
  simp only [hreports] at hdrop
  refine ⟨hself, hother, fun h => ?unreported, fun h hcol => ?uncollected, fun h hcol hlt => ?room,
    fun h hcol hge => ?full, fun h hwarn => ?warning, fun h hsevere => ⟨fun hnot => ?level, fun hdropped => ?pulse⟩,
    fun h => ?pins, fun h => State.alarmLow_raise n (State.reports_iff.2 h), State.raise_frame f n s⟩
  case unreported => exact hunrep h ▸ ⟨rfl, rfl, hnd⟩
  case uncollected =>
    rw [huncol h hcol, State.alarmFor_ltu, State.alarmFor_flag]
    exact ⟨rfl, hnd⟩
  case room =>
    rw [hroom h hcol hlt, State.alarmFor_ltu, State.alarmFor_flag]
    exact ⟨rfl, hnd⟩
  case full =>
    obtain ⟨hltu, -, hlatched, hsubject, -⟩ := hdrop hcol hge
    rw [hfull h hcol hge, State.alarmFor_ltu, State.alarmFor_flag]
    exact ⟨hltu, hlatched, hsubject⟩
  case warning =>
    by_cases hcol : s.sfu.collector = 0
    case pos => simp [huncol h hcol, hwarn]
    rcases Nat.lt_or_ge s.ltu.upper.length 32 with hlt | hge
    · simp [hroom h hcol hlt, hwarn]
    · simp [hfull h hcol hge, hwarn]
  case level =>
    by_cases hcol : s.sfu.collector = 0
    case pos => simp [huncol h hcol, hsevere]
    rcases Nat.lt_or_ge s.ltu.upper.length 32 with hlt | hge
    · simp only [hroom h hcol hlt, State.alarmFor_pulse, hsevere, if_true]
      rfl
    · obtain ⟨-, -, -, -, hpulse, -⟩ := hdrop hcol hge
      rw [hfull h hcol hge, State.alarmFor_pulse, hsevere, if_pos rfl, hpulse, if_neg fun hn => hnot ⟨hcol, hge, hn⟩]
      rfl
  case pulse =>
    obtain ⟨hcol, hge, hn⟩ := hdropped
    obtain ⟨-, -, -, -, hpulse, -⟩ := hdrop hcol hge
    rw [hfull h hcol hge, State.alarmFor_pulse, hsevere, if_pos rfl, hpulse, if_pos hn]
  case pins => rw [hunrep h, State.latch_pins]

/-- Settles O5: the level as a disjunction, and each request by the flags it writes before the pin is driven. -/
theorem alarmPinMasksAndClearing : Obligations.AlarmPinMasksAndClearing := by
  refine ⟨⟨State.alarmLevel_iff, fun s hhigh hzero => ?pulseEnd, fun s hrun => ?pulseRuns⟩,
    fun t rest s hready hwithin => ?masks, fun t rest s hready habove => ?masksRefused,
    fun t rest s hready => ⟨fun h => served hready (State.clearFlags_of_unknown h), fun hzero => ?all, fun f hf =>
      ⟨fun hset habove => ?badSubject, fun hwithin => ?one⟩⟩⟩
  case pulseEnd =>
    rw [show exec .alarmPulseEnd s = .next s.pulseEnd from awake_of_rstHigh State.pulseEnd hhigh, State.pulseEnd,
      if_pos hzero]
    simp [State.driveAlarm, hhigh]
  case pulseRuns =>
    have h : s.pulseEnd = s := if_neg hrun
    exact congrArg Host.Outcome.next ((congrArg (ite _ s) h).trans (ite_self s))
  case masks =>
    obtain ⟨x, hx⟩ := Moves.flags_foldl Flag.all (fun f r => { r with masked := setHas (u32 t.body 1) f.ix.val }) (s.popped rest)
    refine ⟨_, served hready (State.setMasks_of_within hwithin), fun f => ?_, ?_⟩
    · rw [State.flag_driveAlarm, State.flag_foldl_updFlag (fun f r => { r with masked := setHas (u32 t.body 1) f.ix.val }) f
        Flag.nodup_all, if_pos f.mem_all]
      rfl
    · rw [hx]
      exact State.driven_eq (s := s.popped rest) x hready.1
  case masksRefused => exact served hready (if_pos habove)
  case all =>
    refine ⟨_, served hready (State.clearFlags_all hzero), fun f => ?_, State.driven_eq (s := s.popped rest) _ hready.1⟩
    rw [State.flag_driveAlarm, State.flag_mapVec]
    rfl
  case badSubject => exact served hready ((State.clearFlags_of_flag hf).trans (if_pos ⟨hset, habove⟩))
  case one =>
    have hnot : ¬(f.subjectCount ≠ 0 ∧ 2 ^ f.subjectCount ≤ (u32 t.body 2).toNat) := by omega
    refine ⟨_, served hready ((State.clearFlags_of_flag hf).trans (if_neg hnot)), fun hsub => ?_, fun hsub => ?_,
      fun g hg => ?_, State.driven_eq (s := s.popped rest) _ hready.1⟩ <;>
      rw [State.flag_driveAlarm, State.flag_clearFlag]
    · rw [if_pos rfl, if_pos hsub]
      rfl
    · rw [if_pos rfl, if_neg hsub]
      rfl
    · exact if_neg hg.symm

end Sys2Proof.Machine
end

section
/-! PROOFS. Telegram transit (R28 to R50): a good receive and the telegram it spells, the gates of the two ports, and the
transmit queues. -/

namespace Sys2Proof.Machine

/-! ### Fields of a body -/

theorem u8_take {l : List Byte} {i k n : Nat} (h : k < n) : u8 ((l.drop i).take n) k = u8 l (i + k) := by
  simp [u8, h, List.getD_eq_getElem?_getD, List.getElem?_drop]

/-- A 16-bit field read back from the bytes that hold it. -/
theorem u16_of_bytes {l : List Byte} {i n : Nat} (h : (l.drop i).take 2 = be16 n) (hn : n < 65536) : u16 l i = n := by
  have h0 : u8 l i = BitVec.ofNat 8 (n / 256) := (u8_take (k := 0) (by decide)).symm.trans (congrArg (u8 · 0) h)
  have h1 : u8 l (i + 1) = BitVec.ofNat 8 n := (u8_take (k := 1) (by decide)).symm.trans (congrArg (u8 · 1) h)
  simp only [u16, h0, h1, BitVec.toNat_ofNat]
  omega

theorem half_of_bytes {l : List Byte} {i : Nat} {h : Half} (e : (l.drop i).take 2 = be16 h.toNat) :
    BitVec.ofNat 16 (u16 l i) = h := by
  rw [u16_of_bytes e h.isLt, BitVec.ofNat_toNat, BitVec.setWidth_eq]

/-- A 32-bit field read back from the bytes that hold it. -/
theorem u32_of_bytes {l : List Byte} {i : Nat} {w : Word} (h : (l.drop i).take 4 = beWord w) : u32 l i = w := by
  have hw : w.toNat < 4294967296 := w.isLt
  have byte (k : Nat) (hk : k < 4) : u8 l (i + k) = u8 (beWord w) k := (u8_take hk).symm.trans (congrArg (u8 · k) h)
  have h0 : u8 l i = BitVec.ofNat 8 (w.toNat / 65536 / 256) := byte 0 (by decide)
  have h1 : u8 l (i + 1) = BitVec.ofNat 8 (w.toNat / 65536) := byte 1 (by decide)
  have h2 : u8 l (i + 2) = BitVec.ofNat 8 (w.toNat / 256) := byte 2 (by decide)
  have h3 : u8 l (i + 2 + 1) = BitVec.ofNat 8 w.toNat := byte 3 (by decide)
  apply BitVec.eq_of_toNat_eq
  simp only [u32, u16, h0, h1, h2, h3, BitVec.toNat_ofNat]
  omega

end Sys2Proof.Machine

namespace Sys2Proof

open Machine

/-! ### Good receives -/

theorem Telegram.bytes_eq (t : Telegram) :
    t.bytes = t.dst :: t.src :: t.cls :: BitVec.ofNat 8 t.body.length :: (t.body ++ checkBytes t.head) := rfl

/-- A receive of at least four bytes is good when its size, its LEN and its CHECK fit. -/
theorem Receive.judge_cons {dst src cls len : Byte} {rest : List Byte} {stray : Fin 8} {t : Telegram} :
    (Receive.mk (dst :: src :: cls :: len :: rest) stray).judge = some t ↔
      stray = 0 ∧ len.toNat ≤ 60 ∧ len.toNat + 2 = rest.length ∧ t = ⟨dst, src, cls, rest.take len.toNat⟩ ∧
        rest.drop len.toNat = checkBytes t.head := by
  have hmax : Config.maxBody = 60 := rfl
  have hsize : (dst :: src :: cls :: len :: rest).length = rest.length + 4 := rfl
  rw [judge, Option.ite_none_left_eq_some, Option.ite_none_left_eq_some, Option.ite_none_right_eq_some, hsize, hmax]
  constructor
  · rintro ⟨hfit, hlen, hcheck, heq⟩
    injection heq with heq
    subst heq
    exact ⟨by tauto, by omega, by omega, rfl, hcheck⟩
  · rintro ⟨rfl, hlen, hrest, rfl, hcheck⟩
    refine ⟨?_, by omega, hcheck, rfl⟩
    rintro (h | h | h)
    · exact h rfl
    all_goals omega

theorem Receive.judge_bytes {t : Telegram} (h : t.body.length ≤ 60) : (Receive.mk t.bytes 0).judge = some t := by
  have hlen : (BitVec.ofNat 8 t.body.length).toNat = t.body.length := by
    rw [BitVec.toNat_ofNat]
    omega
  refine judge_cons.2 ⟨rfl, by omega, ?_, ?_, ?_⟩ <;> rw [hlen]
  · simp [checkBytes, be16]
  · simp
  · simp

theorem Receive.bytes_of_judge {rx : Receive} {t : Telegram} (h : rx.judge = some t) :
    rx.stray = 0 ∧ t.body.length ≤ 60 ∧ rx.bytes = t.bytes := by
  obtain ⟨bytes, stray⟩ := rx
  match bytes with
  | dst :: src :: cls :: len :: rest =>
    obtain ⟨hstray, hlen, hrest, rfl, hcheck⟩ := judge_cons.1 h
    have hbody : (rest.take len.toNat).length = len.toNat := by
      rw [List.length_take]
      omega
    refine ⟨hstray, hbody.trans_le hlen, ?_⟩
    rw [Telegram.bytes_eq, ← hcheck]
    simp only [hbody, BitVec.ofNat_toNat, BitVec.setWidth_eq, List.take_append_drop]
  | [] | [_] | [_, _] | [_, _, _] =>
    unfold judge at h
    split at h <;> simp_all

end Sys2Proof

namespace Sys2Proof.Machine

/-- Settles O7: what a receive must be to be judged good, and that a telegram's bytes are judged as that telegram. -/
theorem goodReceiveIsATelegram : Obligations.GoodReceiveIsATelegram := by
  intro rx t
  refine ⟨Receive.bytes_of_judge, fun ⟨hstray, hbody, hbytes⟩ => ?_⟩
  obtain ⟨bytes, stray⟩ := rx
  subst hstray hbytes
  exact Receive.judge_bytes hbody

namespace State

/-! ### The telegram rows -/

/-- A well-formed RUN at the Upper port: its watchers act, and it is forwarded (R42). -/
theorem receiveUpper_run {t : Telegram} {watch : State → State} (hcls : t.cls = clsRun) (hlen : t.body.length = runLength)
    (h : ∀ s : State, s.runWatched t = watch s) (s : State) : s.receiveUpper t = s.runGate t watch := by
  have hmove : t.cls ≠ clsMove := by rw [hcls]; decide
  have hact : runReceived t = fun s => (if s.running then watch s else s).placeNormal t := by
    funext u
    rw [runReceived, if_pos hlen, h u]
  rw [receiveUpper, if_neg hmove, if_pos hcls, hact]
  rfl

theorem runWatched_body (dst src press action : Byte) (run : Half) (edition : Byte) (s : State) :
    s.runWatched ⟨dst, src, clsRun, runBody press action run edition⟩ =
      match action.toNat with
      | 1 => s.watchRun src press fun p s => s.runStart p run.toNat edition.toNat
      | 2 => s.watchRun src press runGood
      | 3 => s.watchRun src press fun p s => (s.runEdition p edition.toNat).askSwap p
      | 4 => s.watchRun src press fun p s => s.closeRun p .ended
      | _ => s.mismatch ⟨dst, src, clsRun, runBody press action run edition⟩ := by
  have hrun : u16 (runBody press action run edition) 2 = run.toNat := u16_of_bytes rfl run.isLt
  rw [← hrun]
  rfl

end State

section Taken

variable {rx : Receive} {t : Telegram} (hj : rx.judge = some t) (s : State)

include hj

/-- A good receive is taken as its port takes the telegram (R31). -/
theorem exec_badReceive_upper : exec (.badReceive .upper rx) s = awake (State.receiveUpper t) s := by
  have h : State.receive .upper rx = State.receiveUpper t := by
    funext u
    simp only [State.receive, hj]
  exact congrArg (awake · s) h

theorem exec_badReceive_floor : exec (.badReceive .floor rx) s = awake (State.receiveFloor t) s := by
  have h : State.receive .floor rx = State.receiveFloor t := by
    funext u
    simp only [State.receive, hj]
  exact congrArg (awake · s) h

theorem exec_run_of_good {watch : State → State} (hcls : t.cls = clsRun) (hlen : t.body.length = runLength)
    (h : ∀ s : State, s.runWatched t = watch s) : exec (.badReceive .upper rx) s = awake (State.runGate t watch) s :=
  (exec_badReceive_upper hj s).trans (congrArg (awake · s) (funext (State.receiveUpper_run hcls hlen h)))

theorem exec_floor_of_good {act : NodeEntry → State → State} (h : State.floorTaken t = act) :
    exec (.badReceive .floor rx) s = awake (State.floorGate t act) s :=
  h ▸ exec_badReceive_floor hj s

end Taken

theorem exec_badReceive_of_bad {rx : Receive} {s : State} (port : Port) (hhigh : s.pins.rstLow = false)
    (hbad : rx.judge = none) : exec (.badReceive port rx) s = .next (s.badReceived port) := by
  refine (awake_of_rstHigh _ hhigh).trans (congrArg Host.Outcome.next ?_)
  simp only [State.receive, hbad]

/-- Settles O8: a receive by its judgement, and each telegram row by the fields that its bytes give back. -/
theorem receivesAreJudgedAndTaken : Obligations.ReceivesAreJudgedAndTaken := by
  refine ⟨⟨fun rx s hhigh hbad => ⟨exec_badReceive_of_bad .upper hhigh hbad, exec_badReceive_of_bad .floor hhigh hbad⟩,
    fun rx t s hj => ⟨exec_badReceive_upper hj s, exec_badReceive_floor hj s⟩⟩, fun rx dst src s => ?rows⟩
  case rows =>
    refine ⟨fun rest hj => exec_badReceive_upper hj s, fun rest hj => exec_badReceive_upper hj s,
      fun press edition run =>
        ⟨fun hj => exec_run_of_good hj s rfl rfl (State.runWatched_body dst src press 1 run edition),
          fun hj => exec_run_of_good hj s rfl rfl (State.runWatched_body dst src press 2 run edition),
          fun hj => exec_run_of_good hj s rfl rfl (State.runWatched_body dst src press 3 run edition),
          fun hj => exec_run_of_good hj s rfl rfl (State.runWatched_body dst src press 4 run edition)⟩,
      fun segment motion load request hj => exec_floor_of_good hj s ?vpos,
      fun kind number roll => ⟨fun hj => exec_floor_of_good hj s ?pick, fun hj => exec_floor_of_good hj s ?drop⟩,
      fun tag outcome hj => exec_floor_of_good hj s rfl,
      fun diameter active other hj => exec_floor_of_good hj s ?stand,
      fun old new => ⟨fun hj => exec_floor_of_good hj s ?made, fun hj => exec_floor_of_good hj s ?missed⟩,
      fun roll hj => exec_floor_of_good hj s ?brk, fun press speed hj => exec_floor_of_good hj s ?drive,
      fun press good waste reason hj => exec_floor_of_good hj s ?count⟩
    case vpos =>
      have hload : u32 (vposBody segment motion load request) 2 = load := u32_of_bytes rfl
      exact congrArg (fun l => State.forVehicle (State.vposTaken segment motion l request)) hload
    case pick =>
      have hnumber : BitVec.ofNat 16 (u16 (vloadBody 1 kind number roll) 2) = number := half_of_bytes rfl
      have hroll : u32 (vloadBody 1 kind number roll) 4 = roll := u32_of_bytes rfl
      exact congrArg₂ (fun n l => State.forVehicle (State.pickTaken kind n l)) hnumber hroll
    case drop =>
      have hnumber : BitVec.ofNat 16 (u16 (vloadBody 2 kind number roll) 2) = number := half_of_bytes rfl
      have hroll : u32 (vloadBody 2 kind number roll) 4 = roll := u32_of_bytes rfl
      exact congrArg₂ (fun n l => State.forVehicle (State.dropTaken kind n l)) hnumber hroll
    case stand =>
      have hdiameter : BitVec.ofNat 16 (u16 (standBody diameter active other) 0) = diameter := half_of_bytes rfl
      have hactive : u32 (standBody diameter active other) 2 = active := u32_of_bytes rfl
      have hother : u32 (standBody diameter active other) 6 = other := u32_of_bytes rfl
      refine Eq.trans ?_ (congrArg₂ (fun a o => State.forStand (State.standTaken diameter a o)) hactive hother)
      exact congrArg (fun d => State.forStand (State.standTaken d _ _)) hdiameter
    case made =>
      have hold : u32 (spliceBody 1 old new) 1 = old := u32_of_bytes rfl
      have hnew : u32 (spliceBody 1 old new) 5 = new := u32_of_bytes rfl
      exact congrArg₂ (fun x y => State.forStand (State.spliceMadeTaken x y)) hold hnew
    case missed =>
      have hold : u32 (spliceBody 2 old new) 1 = old := u32_of_bytes rfl
      have hnew : u32 (spliceBody 2 old new) 5 = new := u32_of_bytes rfl
      exact congrArg₂ (fun x y => State.forStand (State.spliceMissedTaken x y)) hold hnew
    case brk =>
      have hroll : u32 (beWord roll) 0 = roll := u32_of_bytes rfl
      exact congrArg (fun x => State.forStand (State.breakTaken x)) hroll
    case drive =>
      have hspeed : u16 (driveBody press speed) 1 = speed.toNat := u16_of_bytes rfl speed.isLt
      exact congrArg (fun x => State.forPress (State.driveTaken x)) hspeed
    case count =>
      have hgood : u16 (countBody press good waste reason) 1 = good.toNat := u16_of_bytes rfl good.isLt
      have hwaste : u16 (countBody press good waste reason) 3 = waste.toNat := u16_of_bytes rfl waste.isLt
      exact congrArg₂ (fun g w => State.forPress (State.countTaken g w reason)) hgood hwaste

end Sys2Proof.Machine
end

section
/-! PROOFS. The gates of the two ports (R36 to R42) and the transmit queues (R43 to R50): where a telegram goes, and what a
queue does with it. -/

namespace Sys2Proof.Machine

theorem running_iff {s : State} : s.running = true ↔ s.sfu.mode = .normal ∨ s.sfu.mode = .autonomous := by
  simp [State.running]

theorem mode_ne_startUp_of_running {s : State} (h : s.running = true) : s.sfu.mode ≠ .startUp := by
  rcases running_iff.1 h with h | h <;> simp [h]

theorem mode_ne_config_of_running {s : State} (h : s.running = true) : s.sfu.mode ≠ .config := by
  rcases running_iff.1 h with h | h <;> simp [h]

theorem running_of_normal {s : State} (h : s.sfu.mode = .normal) : s.running = true := running_iff.2 (.inl h)

theorem running_of_autonomous {s : State} (h : s.sfu.mode = .autonomous) : s.running = true := running_iff.2 (.inr h)

theorem not_running_of_config {s : State} (h : s.sfu.mode = .config) : s.running = false := by
  simp [State.running, h]

namespace State

/-! ### The gate of the Upper port -/

section UpperGate

variable {t : Telegram} {s : State} (act : State → State) (hbody : t.body.length ≤ Config.maxBody)

include hbody

theorem upperGate_of_own (hdst : t.dst = s.ownAddr) : s.upperGate t act = (s.setLinkCount 0).joinMga t :=
  (if_neg hbody.not_gt).trans (if_pos hdst)

theorem upperGate_of_startUp (hdst : t.dst ≠ s.ownAddr) (hmode : s.sfu.mode = .startUp) :
    s.upperGate t act = (s.setLinkCount 0).placeNormal t :=
  (if_neg hbody.not_gt).trans ((if_neg hdst).trans (if_pos hmode))

end UpperGate

/-- Whatever its class, an upper telegram passes the gate. -/
theorem receiveUpper_gate (t : Telegram) : ∃ act : State → State, receiveUpper t = upperGate t act := by
  by_cases hmove : t.cls = clsMove
  · exact ⟨moveTaken t, funext fun s => if_pos hmove⟩
  by_cases hrun : t.cls = clsRun
  · exact ⟨runReceived t, funext fun s => (if_neg hmove).trans (if_pos hrun)⟩
  · exact ⟨placeNormal t, funext fun s => (if_neg hmove).trans (if_neg hrun)⟩

theorem receiveUpper_of_own {t : Telegram} {s : State} (hbody : t.body.length ≤ Config.maxBody) (hdst : t.dst = s.ownAddr) :
    s.receiveUpper t = (s.setLinkCount 0).joinMga t := by
  obtain ⟨act, h⟩ := receiveUpper_gate t
  rw [h, upperGate_of_own act hbody hdst]

theorem receiveUpper_of_other {t : Telegram} {s : State} (hbody : t.body.length ≤ Config.maxBody) (hdst : t.dst ≠ s.ownAddr)
    (h : s.sfu.mode = .startUp ∨ (t.cls ≠ clsMove ∧ t.cls ≠ clsRun)) :
    s.receiveUpper t = (s.setLinkCount 0).placeNormal t := by
  by_cases hmode : s.sfu.mode = .startUp
  · obtain ⟨act, hact⟩ := receiveUpper_gate t
    rw [hact, upperGate_of_startUp act hbody hdst hmode]
  · obtain ⟨hmove, hrun⟩ := h.resolve_left hmode
    rw [receiveUpper, if_neg hmove, if_neg hrun, upperGate, if_neg hbody.not_gt]
    exact (if_neg hdst).trans (if_neg hmode)

/-! ### The gate of the Floor port -/

section FloorGate

variable {t : Telegram} {s : State} (act : NodeEntry → State → State) (hbody : t.body.length ≤ Config.maxBody)

include hbody

theorem floorGate_of_own (hdst : t.dst = s.ownAddr) : s.floorGate t act = s.raise .floorMgmt t.src.toNat :=
  (if_neg hbody.not_gt).trans (if_pos hdst)

theorem floorGate_of_startUp (hdst : t.dst ≠ s.ownAddr) (hmode : s.sfu.mode = .startUp) :
    s.floorGate t act = s.placeUpper t :=
  (if_neg hbody.not_gt).trans ((if_neg hdst).trans (if_pos hmode))

variable (hdst : t.dst ≠ s.ownAddr) (hmode : s.sfu.mode ≠ .startUp)

include hdst hmode

theorem floorGate_of_unknown (h : s.node? t.src = none) :
    s.floorGate t act = (s.raise .nodeMismatch t.src.toNat).placeUpper t := by
  rw [floorGate, if_neg hbody.not_gt, if_neg hdst, if_neg hmode, h]
  rfl

variable {e : NodeEntry} (hnode : s.node? t.src = some e)

include hnode

theorem floorGate_of_known :
    s.floorGate t act =
      if !e.kind.allows t.cls || decide (floorLength t.cls ≠ some t.body.length) then
        (s.raise .nodeMismatch t.src.toNat).placeUpper t
      else if s.sfu.mode = .config then s.placeUpper t
      else (act e s).placeUpper t := by
  rw [floorGate, if_neg hbody.not_gt, if_neg hdst, if_neg hmode, hnode]
  rfl

theorem floorGate_of_mismatch (h : e.kind.allows t.cls = false ∨ floorLength t.cls ≠ some t.body.length) :
    s.floorGate t act = (s.raise .nodeMismatch t.src.toNat).placeUpper t := by
  rw [floorGate_of_known act hbody hdst hmode hnode, if_pos (by simpa using h)]

variable (hallows : e.kind.allows t.cls = true) (hlen : floorLength t.cls = some t.body.length)

include hallows hlen

theorem floorGate_of_config (hconfig : s.sfu.mode = .config) : s.floorGate t act = s.placeUpper t := by
  rw [floorGate_of_known act hbody hdst hmode hnode, if_neg (by simp [hallows, hlen]), if_pos hconfig]

theorem floorGate_of_acted (hconfig : s.sfu.mode ≠ .config) : s.floorGate t act = (act e s).placeUpper t := by
  rw [floorGate_of_known act hbody hdst hmode hnode, if_neg (by simp [hallows, hlen]), if_neg hconfig]

end FloorGate

/-- A report that is heard is acted on for its subject, and forwarded (R38). -/
theorem floorGate_of_heard {kind : NodeKind} {subject : Nat} {t : Telegram} {s : State} (act : NodeEntry → State → State)
    (h : Heard kind subject t.dst t.src s) (hallows : kind.allows t.cls = true)
    (hlen : floorLength t.cls = some t.body.length) (hbody : t.body.length ≤ Config.maxBody) :
    ∃ e : NodeEntry, e.kind = kind ∧ e.subject = subject ∧ s.floorGate t act = (act e s).placeUpper t := by
  obtain ⟨-, hrun, hdst, e, hnode, rfl, rfl⟩ := h
  exact ⟨e, rfl, rfl, floorGate_of_acted act hbody hdst (mode_ne_startUp_of_running hrun) hnode hallows hlen
    (mode_ne_config_of_running hrun)⟩

theorem forVehicle_of_subject {f : VehicleIx → State → State} {e : NodeEntry} {v : VehicleIx} (h : e.subject = num v) :
    forVehicle f e = f v := by
  funext s
  simp only [forVehicle, toIx_of_eq_num h]

theorem forStand_of_subject {f : StandIx → State → State} {e : NodeEntry} {st : StandIx} (h : e.subject = num st) :
    forStand f e = f st := by
  funext s
  simp only [forStand, toIx_of_eq_num h]

theorem forPress_of_subject {f : PressIx → State → State} {e : NodeEntry} {p : PressIx} (h : e.subject = num p) :
    forPress f e = f p := by
  funext s
  simp only [forPress, toIx_of_eq_num h]

/-! ### Undefined codes (log 9) and RUNs of another form -/

theorem moveTaken_of_illFormed {t : Telegram} (s : State) (h : t.body.length ≠ moveLength ∨ t.dst ≠ u8 t.body 2) :
    s.moveTaken t = s.moveIllFormed t :=
  if_pos h

theorem moveTaken_of_otherKind {t : Telegram} (s : State) (hlen : t.body.length = moveLength) (hdst : t.dst = u8 t.body 2)
    (h1 : u8 t.body 0 ≠ 1) (h2 : u8 t.body 0 ≠ 2) : s.moveTaken t = s.refuseKind t := by
  rw [moveTaken, if_neg (by simp [hlen, hdst])]
  split
  case h_1 h => exact absurd (BitVec.eq_of_toNat_eq h) h1
  case h_2 h => exact absurd (BitVec.eq_of_toNat_eq h) h2
  case h_3 => rfl

theorem refuseKind_eq {t : Telegram} {s : State} {r : Reason}
    (h : (if !s.running then .notRunning else if s.sfu.mode = .autonomous then .autonomous else .badFormat) = r) :
    s.refuseKind t = s.refuseTo t.src (u8 t.body 1) (u8 t.body 2) r :=
  congrArg (s.refuseTo t.src (u8 t.body 1) (u8 t.body 2)) h

theorem runWatched_of_undefined {t : Telegram} (s : State) (h : u8 t.body 1 = 0 ∨ 4 < (u8 t.body 1).toNat) :
    s.runWatched t = s.mismatch t := by
  have hcode : (u8 t.body 1).toNat = 0 ∨ 4 < (u8 t.body 1).toNat := h.imp_left fun h => by rw [h]; rfl
  unfold runWatched
  split
  case h_5 => rfl
  all_goals omega

theorem floorTaken_vload_undefined {dst src code : Byte} {rest : List Byte} (h1 : code ≠ 1) (h2 : code ≠ 2) (e : NodeEntry) :
    floorTaken ⟨dst, src, clsVload, code :: rest⟩ e = id :=
  (if_neg h1).trans (if_neg h2)

theorem floorTaken_splice_undefined {dst src code : Byte} {rest : List Byte} (h1 : code ≠ 1) (h2 : code ≠ 2)
    (e : NodeEntry) : floorTaken ⟨dst, src, clsSplice, code :: rest⟩ e = forStand spliceUnlistedTaken e :=
  (if_neg h1).trans (if_neg h2)

/-! ### Queues -/

theorem normalRoom_iff {s : State} : s.normalRoom = true ↔ s.ltu.normal.length < Config.normalSlots := decide_eq_true_iff

theorem placeNormal_of_room {t : Telegram} {s : State} (h : s.ltu.normal.length < Config.normalSlots) :
    s.placeNormal t = { s with ltu := { s.ltu with normal := s.ltu.normal ++ [t] } } :=
  if_pos (normalRoom_iff.2 h)

theorem placeNormal_of_full {t : Telegram} {s : State} (h : Config.normalSlots ≤ s.ltu.normal.length) :
    s.placeNormal t = s.raise .queueOverflow 2 :=
  if_neg (mt normalRoom_iff.1 h.not_gt)

theorem placeUpper_of_room {t : Telegram} {s : State} (h : s.ltu.upper.length < Config.upperSlots) :
    s.placeUpper t = s.pushUpper t :=
  if_pos (upperRoom_iff.2 h)

theorem placeUpper_of_full {t : Telegram} {s : State} (h : Config.upperSlots ≤ s.ltu.upper.length) :
    s.placeUpper t = s.raise .queueOverflow 3 :=
  if_neg (mt upperRoom_iff.1 h.not_gt)

theorem placeAnswer_of_room {t : Telegram} {s : State} (h : s.ltu.upper.length < Config.upperSlots) :
    s.placeAnswer t = s.pushUpper t :=
  if_pos (upperRoom_iff.2 h)

theorem placeAnswer_of_full {t : Telegram} {s : State} (h : Config.upperSlots ≤ s.ltu.upper.length) :
    s.placeAnswer t = s.raise .upperOverflow t.dst.toNat :=
  if_neg (mt upperRoom_iff.1 h.not_gt)

theorem flushRestartHolds_of_nil {s : State} (h : s.ltu.restartHolds = []) : s.flushRestartHolds = s := by
  obtain ⟨pins, clock, ⟨urgent, normal, upper, ue, fe, holds, us, fs⟩⟩ := s
  subst h
  simp [flushRestartHolds]

theorem placeUrgent_of_room {t : Telegram} {s : State} (hholds : s.ltu.restartHolds = [])
    (h : s.ltu.urgent.length < Config.urgentSlots) :
    s.placeUrgent t = { s with ltu := { s.ltu with urgent := s.ltu.urgent ++ [t] } } := by
  rw [placeUrgent, flushRestartHolds_of_nil hholds, if_pos h]

theorem placeUrgent_of_full {t : Telegram} {s : State} (hholds : s.ltu.restartHolds = [])
    (h : Config.urgentSlots ≤ s.ltu.urgent.length) : s.placeUrgent t = s.raise .queueOverflow 1 := by
  rw [placeUrgent, flushRestartHolds_of_nil hholds, if_neg h.not_gt]

theorem joinMga_of_room {t : Telegram} {s : State} (h : s.mga.queue.length < Config.mgaSlots) :
    s.joinMga t = { s with mga := { s.mga with queue := s.mga.queue ++ [t] } } :=
  if_pos h

theorem joinMga_of_full {t : Telegram} {s : State} (h : Config.mgaSlots ≤ s.mga.queue.length) :
    s.joinMga t = s.raise .mgmtOverflow t.src.toNat :=
  if_neg h.not_gt

/-! ### The transmitters and the RESTART HOLDs -/

theorem transmit_upper {t : Telegram} {rest : List Telegram} {s : State} (h : s.ltu.upper = t :: rest) :
    s.transmit .upper = { s with ltu := { s.ltu with upper := rest, upperSending := some t } } := by
  simp only [transmit, h]

theorem transmit_urgent {t : Telegram} {rest : List Telegram} {s : State} (h : s.ltu.urgent = t :: rest) :
    s.transmit .floor = { s with ltu := { s.ltu with urgent := rest, floorSending := some t } } := by
  simp only [transmit, h]

theorem transmit_normal {t : Telegram} {rest : List Telegram} {s : State} (hurgent : s.ltu.urgent = [])
    (h : s.ltu.normal = t :: rest) :
    s.transmit .floor = { s with ltu := { s.ltu with normal := rest, floorSending := some t } } := by
  simp only [transmit, hurgent, h]

theorem placeRestartHold_of_room {t : Telegram} {rest : List Telegram} {s : State} (h : s.ltu.restartHolds = t :: rest)
    (hroom : s.ltu.urgent.length < Config.urgentSlots) :
    s.placeRestartHold = { s with ltu := { s.ltu with urgent := s.ltu.urgent ++ [t], restartHolds := rest } } := by
  simp only [placeRestartHold, h, if_pos hroom]

theorem placeRestartHold_of_idle {s : State} (h : s.ltu.restartHolds = [] ∨ Config.urgentSlots ≤ s.ltu.urgent.length) :
    s.placeRestartHold = s := by
  unfold placeRestartHold
  split
  next hholds => exact if_neg (h.resolve_left (by simp [hholds])).not_gt
  next => rfl

/-! ### Telegrams to vehicles and to the upper side -/

theorem sendVehicle_of_none {v : VehicleIx} {s : State} (cls : Byte) (body : List Byte) (h : s.vehicleEntry? v = none) :
    s.sendVehicle v cls body = s := by
  simp only [sendVehicle, h]

theorem sendVehicle_of_some {v : VehicleIx} {e : NodeEntry} {s : State} (cls : Byte) (body : List Byte)
    (h : s.vehicleEntry? v = some e) : s.sendVehicle v cls body = s.placeUrgent ⟨e.addr, s.ownAddr, cls, body⟩ := by
  simp only [sendVehicle, h]

theorem refuseTo_zero (tag addr : Byte) (r : Reason) (s : State) : s.refuseTo 0 tag addr r = s := if_pos rfl

theorem refuseTo_of_ne {dst : Byte} (tag addr : Byte) (r : Reason) (s : State) (h : dst ≠ 0) :
    s.refuseTo dst tag addr r = s.placeAnswer ⟨dst, s.ownAddr, clsRefuse, [clsMove, tag, addr, r.code]⟩ :=
  if_neg h

theorem vdoneOnBehalf_of_entry {v : VehicleIx} {o : Order} {e : NodeEntry} {s : State} (hreply : o.reply ≠ 0)
    (h : s.vehicleEntry? v = some e) :
    s.vdoneOnBehalf v o = s.placeUpper ⟨o.reply, s.ownAddr, clsVdone, [o.tag, 4, e.addr]⟩ := by
  rw [vdoneOnBehalf, if_neg hreply, vehicleAddr, h]

end State

/-! ### Rows of the ports -/

section Rows

variable {t : Telegram} {s : State} (hhigh : s.pins.rstLow = false)

include hhigh

theorem exec_upperForward : exec (.upperForward t) s = .next (s.receiveUpper t) := awake_of_rstHigh _ hhigh

theorem exec_mgmtRequestReceived : exec (.mgmtRequestReceived t) s = .next (s.receiveUpper t) := awake_of_rstHigh _ hhigh

theorem exec_floorUnacted : exec (.floorUnacted t) s = .next (s.receiveFloor t) := awake_of_rstHigh _ hhigh

end Rows

section Heard

variable {t : Telegram} {s : State} (hlen : floorLength t.cls = some t.body.length)
  (hbody : t.body.length ≤ Config.maxBody)

include hlen hbody

/-- A report of a vehicle that is heard: what its row does, then the forward (R38). -/
theorem heard_vehicle {v : VehicleIx} (f : VehicleIx → State → State) (h : Heard .vehicle (num v) t.dst t.src s)
    (hallows : NodeKind.vehicle.allows t.cls = true) :
    awake (State.floorGate t (State.forVehicle f)) s = .next ((f v s).placeUpper t) := by
  obtain ⟨e, -, hsub, hgate⟩ := State.floorGate_of_heard (State.forVehicle f) h hallows hlen hbody
  rw [awake_of_rstHigh _ h.1, hgate, State.forVehicle_of_subject hsub]

theorem heard_stand {st : StandIx} (f : StandIx → State → State) (h : Heard .stand (num st) t.dst t.src s)
    (hallows : NodeKind.stand.allows t.cls = true) :
    awake (State.floorGate t (State.forStand f)) s = .next ((f st s).placeUpper t) := by
  obtain ⟨e, -, hsub, hgate⟩ := State.floorGate_of_heard (State.forStand f) h hallows hlen hbody
  rw [awake_of_rstHigh _ h.1, hgate, State.forStand_of_subject hsub]

theorem heard_press {p : PressIx} {kind : NodeKind} (f : PressIx → State → State) (h : Heard kind (num p) t.dst t.src s)
    (hallows : kind.allows t.cls = true) :
    awake (State.floorGate t (State.forPress f)) s = .next ((f p s).placeUpper t) := by
  obtain ⟨e, -, hsub, hgate⟩ := State.floorGate_of_heard (State.forPress f) h hallows hlen hbody
  rw [awake_of_rstHigh _ h.1, hgate, State.forPress_of_subject hsub]

end Heard

theorem receiveUpper_of_passed_move {t : Telegram} {s : State} (hcls : t.cls = clsMove)
    (hbody : t.body.length ≤ Config.maxBody) (h : Passed t.dst s) :
    s.receiveUpper t = (s.setLinkCount 0).moveTaken t :=
  (if_pos hcls).trans (State.upperGate_of_passed _ hbody h)

theorem receiveUpper_of_passed_run {t : Telegram} {s : State} (hcls : t.cls = clsRun)
    (hbody : t.body.length ≤ Config.maxBody) (h : Passed t.dst s) :
    s.receiveUpper t = (s.setLinkCount 0).runReceived t :=
  (if_neg (by rw [hcls]; decide)).trans ((if_pos hcls).trans (State.upperGate_of_passed _ hbody h))

/-- Settles O9: each telegram by the gate it meets, and the undefined codes by the branch that is left. -/
theorem portsForwardWhatNoBlockTakes : Obligations.PortsForwardWhatNoBlockTakes := by
  refine ⟨fun t s hhigh hwf => ?upper, fun t s hhigh hwf => ?floor, fun dst src kind rest s hpassed h1 h2 hrest => ?kind,
    fun dst src body s hpassed hbody => ?run, fun dst src code rest s h1 h2 =>
      ⟨fun v hheard hlen => ?vload, fun st hheard hlen => ?splice⟩⟩
  case upper =>
    have hbody : t.body.length ≤ Config.maxBody := of_decide_eq_true hwf
    refine ⟨fun hdst hroom => ?_, fun hdst hfull => ?_, fun hdst hother => ⟨fun hroom => ?_, fun hfull => ?_⟩⟩
    · rw [exec_mgmtRequestReceived hhigh, State.receiveUpper_of_own hbody hdst,
        State.joinMga_of_room (s := s.setLinkCount 0) hroom]
      rfl
    · rw [exec_mgmtRequestReceived hhigh, State.receiveUpper_of_own hbody hdst,
        State.joinMga_of_full (s := s.setLinkCount 0) hfull]
      rfl
    · rw [exec_upperForward hhigh, State.receiveUpper_of_other hbody hdst hother,
        State.placeNormal_of_room (s := s.setLinkCount 0) hroom]
      rfl
    · rw [exec_upperForward hhigh, State.receiveUpper_of_other hbody hdst hother,
        State.placeNormal_of_full (s := s.setLinkCount 0) hfull]
      rfl
  case floor =>
    have hbody : t.body.length ≤ Config.maxBody := of_decide_eq_true hwf
    rw [exec_floorUnacted hhigh]
    refine ⟨fun hdst => congrArg _ (State.floorGate_of_own _ hbody hdst),
      fun hdst hmode => congrArg _ (State.floorGate_of_startUp _ hbody hdst hmode), fun hdst hmode =>
        ⟨fun hnode => congrArg _ (State.floorGate_of_unknown _ hbody hdst hmode hnode), fun e hnode =>
          ⟨fun h => congrArg _ (State.floorGate_of_mismatch _ hbody hdst hmode hnode h), fun hallows hlen hconfig =>
            congrArg _ (State.floorGate_of_config _ hbody hdst hmode hnode hallows hlen hconfig)⟩⟩⟩
  case kind =>
    have hbody : (kind :: rest).length ≤ Config.maxBody := hrest
    intro u tag answer
    have htaken : exec (.upperForward ⟨dst, src, 0x11, kind :: rest⟩) s = .next (u.moveTaken ⟨dst, src, 0x11, kind :: rest⟩) := by
      rw [exec_upperForward hpassed.1, receiveUpper_of_passed_move rfl hbody hpassed]
    refine ⟨fun h => ?ill, fun hlen hdst => ?well⟩
    case ill =>
      have hill : (kind :: rest).length ≠ moveLength ∨ dst ≠ u8 rest 1 := h.imp_left fun h => by simpa [moveLength] using h
      exact htaken.trans (congrArg _ (State.moveTaken_of_illFormed u hill))
    case well =>
      have hother := State.moveTaken_of_otherKind (t := ⟨dst, src, 0x11, kind :: rest⟩) u (congrArg (· + 1) hlen) hdst h1 h2
      have hrefused (r : Reason) (hr : (if !u.running then .notRunning
          else if u.sfu.mode = .autonomous then .autonomous else .badFormat) = r) : answer (u.refuseTo src tag dst r) := by
        refine htaken.trans (congrArg _ (hother.trans ((State.refuseKind_eq hr).trans ?_)))
        exact congrArg (fun a => u.refuseTo src tag a r) hdst.symm
      refine ⟨fun hmode => hrefused _ ?_, fun hmode => hrefused _ ?_, fun hmode => hrefused _ ?_⟩
      · rw [not_running_of_config (s := u) hmode]
        rfl
      · rw [running_of_autonomous (s := u) hmode]
        exact if_pos hmode
      · rw [running_of_normal (s := u) hmode]
        have hnot : u.sfu.mode ≠ .autonomous := by
          rw [show u.sfu.mode = .normal from hmode]
          decide
        exact if_neg hnot
  case run =>
    intro t u
    have htaken : exec (.upperForward t) s = .next (u.runReceived t) := by
      rw [exec_upperForward hpassed.1, receiveUpper_of_passed_run rfl hbody hpassed]
    refine ⟨fun hlen => htaken.trans (congrArg _ (if_neg hlen)), fun hlen hcode => ?_⟩
    have hreceived : u.runReceived t = (if u.running then u.mismatch t else u).placeNormal t := by
      rw [← State.runWatched_of_undefined (t := t) u hcode]
      exact if_pos hlen
    refine ⟨fun hrun => ?_, fun hrun => ?_⟩
    · rw [htaken, hreceived, if_pos (show u.running = true from hrun)]
      rfl
    · rw [htaken, hreceived, if_neg (by rw [show u.running = false from hrun]; decide)]
  case vload =>
    have hallows : NodeKind.vehicle.allows 0x22 = true := by decide
    have hlen8 : floorLength 0x22 = some (code :: rest).length := by simp [floorLength, hlen]
    obtain ⟨e, -, -, hgate⟩ := State.floorGate_of_heard (t := ⟨dst, src, 0x22, code :: rest⟩)
      (State.floorTaken ⟨dst, src, 0x22, code :: rest⟩) hheard hallows hlen8 (by simp [hlen, Config.maxBody])
    refine (exec_floorUnacted hheard.1).trans (congrArg _ (hgate.trans (congrArg _ ?_)))
    exact congrFun (State.floorTaken_vload_undefined h1 h2 e) s
  case splice =>
    intro t
    have hallows : NodeKind.stand.allows 0x32 = true := by decide
    have hlen9 : floorLength 0x32 = some (code :: rest).length := by simp [floorLength, hlen]
    have htaken : State.floorTaken t = State.forStand State.spliceUnlistedTaken :=
      funext (State.floorTaken_splice_undefined h1 h2)
    have hexec : exec (.floorUnacted t) s = .next ((s.spliceUnlistedTaken st).placeUpper t) := by
      refine Eq.trans ?_ (heard_stand (t := t) hlen9 (by simp [t, hlen, Config.maxBody]) _ hheard hallows)
      rw [← htaken]
      rfl
    refine ⟨fun hpress => ?_, fun hpress => ?_⟩
    · rw [hexec, State.spliceUnlistedTaken, State.actedOn, hpress]
    · obtain ⟨p, hp⟩ := Option.ne_none_iff_exists'.1 hpress
      rw [hexec, State.spliceUnlistedTaken, State.actedOn, hp]

/-- Settles O10: the queues by room, the transmitters by the head they find, and the codes by evaluation. -/
theorem transmitQueuesKeepTheirSlots : Obligations.TransmitQueuesKeepTheirSlots := by
  refine ⟨fun t s => ⟨State.placeUrgent_of_room, State.placeUrgent_of_full, State.placeNormal_of_room,
      State.placeNormal_of_full, fun h => ⟨State.placeUpper_of_room h, State.placeAnswer_of_room h⟩,
      fun h => ⟨State.placeUpper_of_full h, State.placeAnswer_of_full h⟩⟩, fun s hhigh => ?ports,
    fun dst tag addr r s => ⟨State.refuseTo_zero tag addr r s, State.refuseTo_of_ne tag addr r s⟩,
    fun v o s => ⟨fun h => if_pos h, fun h e he => State.vdoneOnBehalf_of_entry h he⟩,
    fun v s => ⟨fun h => ⟨State.sendVehicle_of_none _ _ h, State.sendVehicle_of_none _ _ h, State.sendVehicle_of_none _ _ h⟩,
      fun e h => ⟨State.sendVehicle_of_some _ _ h, State.sendVehicle_of_some _ _ h, State.sendVehicle_of_some _ _ h⟩⟩,
    fun c => ?causes, by decide⟩
  case ports =>
    have hsend (port : Port) : exec (.transmitStart port) s = .next (s.transmit port) := awake_of_rstHigh _ hhigh
    have hplace : exec .restartHoldPlaced s = .next s.placeRestartHold := awake_of_rstHigh State.placeRestartHold hhigh
    exact ⟨fun t rest h => (hsend _).trans (congrArg _ (State.transmit_upper h)),
      fun t rest h => (hsend _).trans (congrArg _ (State.transmit_urgent h)),
      fun t rest hurgent h => (hsend _).trans (congrArg _ (State.transmit_normal hurgent h)),
      fun t rest h hroom => hplace.trans (congrArg _ (State.placeRestartHold_of_room h hroom)),
      fun h => hplace.trans (congrArg _ (State.placeRestartHold_of_idle h))⟩
  case causes =>
    obtain ⟨z, d, m, i⟩ := c
    revert z d m i
    decide

end Sys2Proof.Machine
end

section
/-! PROOFS. Reads of the table memory over records with good parity (R194): they change nothing, so that a route lookup
(R57) is a function of the tables. -/

namespace Sys2Proof.Machine

namespace State

/-! ### Good parity -/

section NoParity

variable {s : State} (h : s.noParity)

include h

theorem readSlot_of_noParity (k : Nat) : s.readSlot k = s := by
  obtain ⟨hrolls, -, -⟩ := h
  simp [readSlot, hrolls]

theorem readRoll_of_noParity (id : RollId) : s.readRoll id = s := by
  unfold readRoll
  split
  · exact readSlot_of_noParity h _
  · rfl

theorem readNamed_of_noParity (id : Option RollId) : s.readNamed id = s := by
  cases id
  · rfl
  · exact readRoll_of_noParity h _

theorem readActive_of_noParity (st : StandIx) : s.readActive st = s := readNamed_of_noParity h _

theorem readPlace_of_noParity (p : Nat) : s.readPlace p = s := by
  obtain ⟨-, hplaces, -⟩ := h
  simp [readPlace, hplaces]

theorem readLoc_of_noParity (l : Loc) : s.readLoc l = s := by
  unfold readLoc
  split
  · exact readPlace_of_noParity h _
  · rfl

theorem readStored_of_noParity (r : Roll) : s.readStored r = s := by
  unfold readStored
  split
  · exact readPlace_of_noParity h _
  · rfl

theorem updPlace_of_noParity (p : Nat) (f : Place → Place) : s.updPlace p f = s.setPlace p (f (s.place p)) := by
  rw [updPlace, readPlace_of_noParity h]

theorem updRoll_of_noParity {id : RollId} {k : Nat} {r : Roll} (hr : s.findRoll id = some (k, r)) (f : Roll → Roll) :
    s.updRoll id f = s.setSlot k (f r) := by
  simp only [updRoll, readRoll_of_noParity h, hr]

theorem addHold_of_noParity (id : RollId) (k : HoldKind) : s.addHold id k = s.addHoldRead id k := by
  rw [addHold, readRoll_of_noParity h]

theorem freeReserved_of_noParity (st : StandIx) (id : RollId) : s.freeReserved st id = s.freeReservedRead st id := by
  rw [freeReserved, readRoll_of_noParity h]

theorem leavePhase_of_noParity (c : Call) : s.leavePhase c = s.leavePhaseRead c := by
  rw [leavePhase, readNamed_of_noParity h]

theorem callTest_of_noParity (st : StandIx) : s.callTest st = s.callTestRead st := by
  rw [callTest, readActive_of_noParity h, ite_self]

end NoParity

/-- An operation that moves none of the three tables leaves their parity. -/
theorem noParity_of_moves {m : List Part} {a b : State} (h : Moves m a b)
    (hm : (!m.contains .rolls && !m.contains .places && !m.contains .routes) = true) (ha : a.noParity) : b.noParity := by
  simp only [Bool.and_eq_true, Bool.not_eq_true', List.contains_eq_mem, decide_eq_false_iff_not] at hm
  obtain ⟨⟨hr, hp⟩, hq⟩ := hm
  obtain ⟨-, hrolls⟩ := Prod.mk.inj (h.same .rolls hr)
  obtain ⟨-, hplaces⟩ := Prod.mk.inj (h.same .places hp)
  obtain ⟨-, hroutes⟩ := Prod.mk.inj (h.same .routes hq)
  exact ⟨hrolls.trans ha.1, hplaces.trans ha.2.1, hroutes.trans ha.2.2⟩

/-! ### Routes -/

/-- The leg that a route lookup finds over records with good parity (R57). -/
def legBetween (s : State) (a b : Loc) : Leg :=
  if a = b then .clear []
  else if s.unreachable a || s.unreachable b then .missing
  else
    match s.tmc.routes.find? fun e => e.2.start = a ∧ e.2.goal = b with
    | some e =>
      if e.2.leg.all fun n => s.configured n && !(s.seg n).blocked then .clear e.2.leg else .blocked e.2.leg
    | none => .missing

theorem lookup_of_noParity {s : State} (h : s.noParity) (a b : Loc) : s.lookup a b = (s.legBetween a b, s) := by
  have hroutes : s.tmc.badRoutes = [] := h.2.2
  unfold lookup legBetween
  simp only [readLoc_of_noParity h]
  split
  · rfl
  split
  · rfl
  simp only [hroutes, List.filter_nil, List.contains_nil, Bool.not_false, and_true]
  cases s.tmc.routes.find? fun e => decide (e.2.start = a ∧ e.2.goal = b) with
  | none => rfl
  | some e => exact (apply_ite (·, s) ..).symm

/-- The two legs of an order over records with good parity (R78). -/
def legsFrom (s : State) (start pickup drop : Loc) : Leg × Leg :=
  if pickup.kind = .none then (.clear [], s.legBetween start drop) else (s.legBetween start pickup, s.legBetween pickup drop)

theorem lookupLegs_of_noParity {s : State} (h : s.noParity) (start pickup drop : Loc) :
    s.lookupLegs start pickup drop = ((s.legsFrom start pickup drop).1, (s.legsFrom start pickup drop).2, s) := by
  unfold lookupLegs legsFrom
  simp only [lookup_of_noParity h]
  split <;> rfl

end State

theorem legsReason_missing {l m : Leg} (b : Bool) (h : l = .missing ∨ m = .missing) : legsReason l m b = some .routeMissing :=
  if_pos h

theorem legsReason_blocked {l m : Leg} {b : Bool} (hl : l ≠ .missing) (hm : m ≠ .missing)
    (h : l.clear? = none ∨ m.clear? = none ∨ b = true) : legsReason l m b = some .routeBlocked := by
  rw [legsReason, if_neg (by tauto), if_pos (by simpa [or_assoc] using h)]

theorem legsReason_none {l m : Leg} (hl : l.clear? ≠ none) (hm : m.clear? ≠ none) : legsReason l m false = none := by
  have hmiss : Leg.missing.clear? = none := rfl
  rw [legsReason, if_neg (by rintro (rfl | rfl) <;> contradiction),
    if_neg (by simp [Option.isNone_iff_eq_none, hl, hm])]

end Sys2Proof.Machine
end

section
/-! PROOFS. MOVE orders (R40, R76 to R78, R85): the checks of a NEW and of a CANCEL by the first that fails, and the
admission of an order. -/

namespace Sys2Proof.Machine

namespace State

/-! ### Checks 1 to 8 -/

theorem refusedEarly_of_stopped {s : State} (src : Source) (m : MoveFields) (h : s.running = false) :
    s.refusedEarly src m = .error .notRunning := by
  simp [refusedEarly, h]

theorem refusedEarly_of_autonomous {s : State} (m : MoveFields) (h : s.sfu.mode = .autonomous) :
    s.refusedEarly .upper m = .error .autonomous := by
  simp [refusedEarly, running_of_autonomous h, h]

section Normal

variable {s : State} {m : MoveFields} (hmode : s.sfu.mode = .normal)

include hmode

theorem refusedEarly_of_unknown (h : s.vehicleAt? m.vehicleAddr = none) :
    s.refusedEarly .upper m = .error .unknownVehicle := by
  simp [refusedEarly, running_of_normal hmode, hmode, h]

variable {v : VehicleIx} (hv : s.vehicleAt? m.vehicleAddr = some v)

include hv

theorem refusedEarly_of_off (h : (s.vehicle v).status = .off) : s.refusedEarly .upper m = .error .vehicleOff := by
  simp [refusedEarly, running_of_normal hmode, hmode, hv, h]

theorem refusedEarly_of_lost (h : (s.vehicle v).status = .lost) : s.refusedEarly .upper m = .error .vehicleLost := by
  simp [refusedEarly, running_of_normal hmode, hmode, hv, h]

variable (hworks : (s.vehicle v).status = .idle ∨ (s.vehicle v).status = .busy)

include hworks

/-- What is left of checks 1 to 8 for a vehicle that is IDLE or BUSY: its tag and its hold queue. -/
theorem refusedEarly_of_works :
    s.refusedEarly .upper m =
      if m.tag = 0 ∨ 200 ≤ m.tag.toNat then .error .badTag
      else if ((s.vehicle v).outstanding ++ (s.vehicle v).queue).any fun o => o.tag = m.tag then .error .tagInUse
      else if Config.holdSlots ≤ (s.vehicle v).queue.length then .error .queueFull
      else .ok v := by
  have hoff : (s.vehicle v).status ≠ .off := by rcases hworks with h | h <;> simp [h]
  have hlost : (s.vehicle v).status ≠ .lost := by rcases hworks with h | h <;> simp [h]
  simp only [refusedEarly, running_of_normal hmode, hmode, hv, if_neg hoff, if_neg hlost, true_and]
  rfl

theorem refusedEarly_of_badTag (h : m.tag = 0 ∨ 200 ≤ m.tag.toNat) : s.refusedEarly .upper m = .error .badTag := by
  rw [refusedEarly_of_works hmode hv hworks, if_pos h]

variable (hzero : m.tag ≠ 0) (hlow : m.tag.toNat < 200)

include hzero hlow

theorem refusedEarly_of_tagInUse (h : ∃ o ∈ (s.vehicle v).outstanding ++ (s.vehicle v).queue, o.tag = m.tag) :
    s.refusedEarly .upper m = .error .tagInUse := by
  rw [refusedEarly_of_works hmode hv hworks, if_neg (not_or.2 ⟨hzero, hlow.not_ge⟩), if_pos]
  simpa only [List.any_eq_true, decide_eq_true_eq] using h

variable (hfresh : ∀ o ∈ (s.vehicle v).outstanding ++ (s.vehicle v).queue, o.tag ≠ m.tag)

include hfresh

theorem refusedEarly_of_freshTag :
    s.refusedEarly .upper m = if Config.holdSlots ≤ (s.vehicle v).queue.length then .error .queueFull else .ok v := by
  rw [refusedEarly_of_works hmode hv hworks, if_neg (not_or.2 ⟨hzero, hlow.not_ge⟩), if_neg]
  simpa only [List.any_eq_true, decide_eq_true_eq, not_exists, not_and] using hfresh

end Normal

/-! ### Admission by its checks -/

section Admission

variable {src : Source} {reply : Byte} {m : MoveFields} {s : State}

theorem admitMove_of_refused {r : Reason} (h : s.refusedEarly src m = .error r) :
    s.admitMove src reply m = s.refuseTo reply m.tag m.vehicleAddr r := by
  simp only [admitMove, h]

variable {v : VehicleIx} (hok : s.refusedEarly src m = .ok v)

include hok

theorem admitMove_of_unlisted (h : m.pickup = none ∨ m.drop = none) :
    s.admitMove src reply m = s.refuseTo reply m.tag m.vehicleAddr .badLocation := by
  rcases h with h | h
  · simp only [admitMove, hok, h]
  · cases hp : m.pickup <;> simp only [admitMove, hok, h, hp]

variable {pickup drop : Loc} (hpickup : m.pickup = some pickup) (hdrop : m.drop = some drop)

include hpickup hdrop

theorem admitMove_of_badLocation (h : s.locationsOk m.roll pickup drop = false) :
    s.admitMove src reply m = s.refuseTo reply m.tag m.vehicleAddr .badLocation := by
  simp only [admitMove, hok, hpickup, hdrop, h, Bool.not_false, if_true]

variable (hloc : s.locationsOk m.roll pickup drop = true) (hpar : s.noParity)

include hloc hpar

theorem admitMove_of_refusedRoll {r : Reason} (h : s.refusedRoll v m.roll pickup drop = some r) :
    s.admitMove src reply m = s.refuseTo reply m.tag m.vehicleAddr r := by
  simp only [admitMove, hok, hpickup, hdrop, hloc, readRoll_of_noParity hpar, readLoc_of_noParity hpar, h, Bool.not_true,
    Bool.false_eq_true, if_false]

variable (hroll : s.refusedRoll v m.roll pickup drop = none)

include hroll

theorem admitMove_of_legsReason {r : Reason}
    (h : legsReason (s.lookupLegs (s.plannedStart v) pickup drop).1 (s.lookupLegs (s.plannedStart v) pickup drop).2.1
      (s.dropBlocked drop) = some r) :
    s.admitMove src reply m = s.refuseTo reply m.tag m.vehicleAddr r := by
  rw [lookupLegs_of_noParity hpar] at h
  simp only [admitMove, hok, hpickup, hdrop, hloc, readRoll_of_noParity hpar, readLoc_of_noParity hpar, hroll,
    lookupLegs_of_noParity hpar, h, Bool.not_true, Bool.false_eq_true, if_false]

theorem admitMove_of_accepted
    (h : legsReason (s.lookupLegs (s.plannedStart v) pickup drop).1 (s.lookupLegs (s.plannedStart v) pickup drop).2.1
      (s.dropBlocked drop) = none) :
    s.admitMove src reply m = s.accept v src reply m.tag pickup drop m.roll := by
  rw [lookupLegs_of_noParity hpar] at h
  simp only [admitMove, hok, hpickup, hdrop, hloc, readRoll_of_noParity hpar, readLoc_of_noParity hpar, hroll,
    lookupLegs_of_noParity hpar, h, Bool.not_true, Bool.false_eq_true, if_false]

end Admission

/-! ### Checks 10 to 13 -/

section RefusedRoll

variable {s : State} {v : VehicleIx} {roll : RollId} {pickup drop : Loc}

theorem refusedRoll_of_travel : s.refusedRoll v 0 pickup drop = none := if_pos rfl

variable (hne : roll ≠ 0)

include hne

theorem refusedRoll_of_rollState (h : s.rollOk v roll pickup = false) :
    s.refusedRoll v roll pickup drop = some .rollState := by
  simp only [refusedRoll, if_neg hne, h, Bool.not_false, if_true]

variable (hok : s.rollOk v roll pickup = true)

include hok

theorem refusedRoll_of_rollOk :
    s.refusedRoll v roll pickup drop =
      if s.reservedElsewhere roll drop then some .reservedRoll
      else if s.dropOccupied drop then some .locationOccupied
      else if s.dropClaimed drop then some .locationClaimed
      else none := by
  simp only [refusedRoll, if_neg hne, hok, Bool.not_true, Bool.false_eq_true, if_false]

end RefusedRoll

/-! ### A NEW and a CANCEL at the VOU -/

theorem moveTaken_new {dst src : Byte} {rest : List Byte} (s : State) (hlen : rest.length = 12) (hdst : dst = u8 rest 1) :
    s.moveTaken ⟨dst, src, clsMove, 1 :: rest⟩ =
      s.admitMove .upper src ⟨u8 rest 1, u8 rest 0, locAt rest 2, locAt rest 5, u32 rest 8⟩ := by
  have hform : ¬((1 :: rest : List Byte).length ≠ moveLength ∨ dst ≠ u8 (1 :: rest) 2) :=
    not_or.2 ⟨not_not.2 (congrArg (· + 1) hlen), not_not.2 hdst⟩
  exact if_neg hform

theorem moveTaken_cancel {dst src : Byte} {rest : List Byte} (s : State) (hlen : rest.length = 12) (hdst : dst = u8 rest 1) :
    s.moveTaken ⟨dst, src, clsMove, 2 :: rest⟩ = s.cancelOrder ⟨dst, src, clsMove, 2 :: rest⟩ := by
  have hform : ¬((2 :: rest : List Byte).length ≠ moveLength ∨ dst ≠ u8 (2 :: rest) 2) :=
    not_or.2 ⟨not_not.2 (congrArg (· + 1) hlen), not_not.2 hdst⟩
  exact if_neg hform

end State

section Moves

variable {dst : Byte} {rest : List Byte} {s : State} (src : Byte) (h : Passed dst s) (hrest : rest.length < 60)

include h hrest

theorem exec_moveNew : exec (.moveNew dst src rest) s =
    .next ((s.setLinkCount 0).moveTaken ⟨dst, src, clsMove, 1 :: rest⟩) := by
  have hbody : (1 :: rest : List Byte).length ≤ Config.maxBody := hrest
  refine (awake_of_rstHigh _ h.1).trans (congrArg Host.Outcome.next ?_)
  exact State.upperGate_of_passed (t := ⟨dst, src, clsMove, 1 :: rest⟩) _ hbody h

theorem exec_moveCancel : exec (.moveCancel dst src rest) s =
    .next ((s.setLinkCount 0).moveTaken ⟨dst, src, clsMove, 2 :: rest⟩) := by
  have hbody : (2 :: rest : List Byte).length ≤ Config.maxBody := hrest
  refine (awake_of_rstHigh _ h.1).trans (congrArg Host.Outcome.next ?_)
  exact State.upperGate_of_passed (t := ⟨dst, src, clsMove, 2 :: rest⟩) _ hbody h

end Moves

/-- A well-formed MOVE NEW that the mode lets through is admitted or refused as R76 says. -/
theorem exec_moveNew_wellFormed {dst : Byte} {rest : List Byte} {s : State} (src : Byte) (h : Passed dst s)
    (hlen : rest.length = 12) (hdst : dst = u8 rest 1) :
    exec (.moveNew dst src rest) s = .next ((s.setLinkCount 0).admitMove .upper src
      ⟨dst, u8 rest 0, locAt rest 2, locAt rest 5, u32 rest 8⟩) := by
  rw [exec_moveNew src h (by omega), State.moveTaken_new _ hlen hdst, ← hdst]

/-- Settles O11: the form by `moveTaken`, checks 1 to 8 by `refusedEarly`, check 9 by the two locations. -/
theorem moveChecksInOrder : Obligations.MoveChecksInOrder := by
  intro dst src rest s hpassed hrest u tag refused
  refine ⟨fun hform => ?illFormed, fun hlen hdst => ?wellFormed⟩
  case illFormed =>
    have hill (k : Byte) : (k :: rest).length ≠ moveLength ∨ dst ≠ u8 (k :: rest) 2 :=
      hform.imp_left fun h => by simpa [moveLength] using h
    refine ⟨?_, ?_⟩
    · rw [exec_moveNew src hpassed hrest, State.moveTaken_of_illFormed _ (hill 1)]
      rfl
    · rw [exec_moveCancel src hpassed hrest, State.moveTaken_of_illFormed _ (hill 2)]
      rfl
  case wellFormed =>
    have hexec := exec_moveNew_wellFormed src hpassed hlen hdst
    have early {r : Reason} (h : u.refusedEarly .upper ⟨dst, tag, locAt rest 2, locAt rest 5, u32 rest 8⟩ = .error r) :
        refused r := hexec.trans (congrArg _ (State.admitMove_of_refused h))
    refine ⟨fun hmode => early (State.refusedEarly_of_stopped (s := u) _ _ (not_running_of_config (s := u) hmode)),
      fun hmode => early (State.refusedEarly_of_autonomous _ hmode), fun hmode =>
        ⟨fun hv => early (State.refusedEarly_of_unknown hmode hv), fun v hv =>
          ⟨fun hoff => early (State.refusedEarly_of_off (s := u) hmode hv hoff), fun hlost => early (State.refusedEarly_of_lost (s := u) hmode hv hlost),
            fun hworks => ⟨fun htag => early (State.refusedEarly_of_badTag (s := u) hmode hv hworks htag), fun hzero hlow =>
              ⟨fun hused => early (State.refusedEarly_of_tagInUse (s := u) hmode hv hworks hzero hlow hused), fun hfresh => ?_⟩⟩⟩⟩⟩
    have htag := State.refusedEarly_of_freshTag (s := u) (m := ⟨dst, tag, locAt rest 2, locAt rest 5, u32 rest 8⟩) hmode hv
      hworks hzero hlow hfresh
    refine ⟨fun hfull => early (htag.trans (if_pos hfull)), fun hroom => ?_⟩
    have hok := htag.trans (if_neg hroom.not_ge)
    exact ⟨fun hunlisted => hexec.trans (congrArg _ (State.admitMove_of_unlisted hok hunlisted)),
      fun pickup drop hp hd hbad => hexec.trans (congrArg _ (State.admitMove_of_badLocation hok hp hd hbad))⟩

end Sys2Proof.Machine
end

section
/-! PROOFS. What checks 9 to 15 of a MOVE NEW look at (R57, R77, R78), and the admission of an order to a hold queue. -/

namespace Sys2Proof.Machine

theorem find?_of_unique {α : Type} {p : α → Bool} {l : List α} {a : α} (ha : a ∈ l) (hp : p a = true)
    (hu : ∀ b ∈ l, p b = true → b = a) : l.find? p = some a := by
  cases h : l.find? p with
  | none => exact absurd hp (List.find?_eq_none.1 h a ha)
  | some b => rw [hu b (List.mem_of_find?_eq_some h) (List.find?_some h)]

theorem stand?_standLoc (st : StandIx) : (standLoc st).stand? = some st := (if_pos rfl).trans (toIx_of_eq_num rfl)

theorem stand?_of_kind {l : Loc} (h : l.kind ≠ .stand) : l.stand? = none := if_neg h

theorem pickable_iff {v : VehicleIx} {pickup : Loc} {x : RollStatus} : State.pickable v pickup x = true ↔
    (∃ d, x = .announced d ∧ pickup = ⟨.dock, d⟩) ∨
      (∃ p, (x = .stored p ∨ ∃ o, x = .reserved p o) ∧ pickup = ⟨.place, p⟩) ∨
      (∃ st, x = .butt st ∧ pickup = ⟨.stand, num st⟩) ∨ (x = .carried (some v) ∧ pickup.kind = .none) := by
  obtain ⟨kind, n⟩ := pickup
  cases x <;> simp [State.pickable, standLoc, and_comm]

theorem names_iff {c : Call} {id : RollId} :
    c.phase.roll? = some id ↔ c.phase = .selected id ∨ ∃ l, c.phase = .ordered id l := by
  cases c.phase <;> simp [CallPhase.roll?]

namespace State

/-! ### Checks 9 to 13 -/

theorem pickupAllowed_iff {roll : RollId} {l : Loc} {s : State} :
    (pickupAllowed roll l.kind && (decide (l.kind = .none) || l.inRange s)) = true ↔
      l.kind = .none ∨ ((l.kind = .place ∨ l.kind = .stand ∨ l.kind = .dock) ∧ roll ≠ 0 ∧ l.inRange s = true) := by
  cases hk : l.kind <;> simp [pickupAllowed]

theorem dropAllowed_iff {roll : RollId} {k : LocKind} :
    dropAllowed roll k = true ↔
      k = .place ∨ k = .stand ∨ k = .dock ∨ k = .waste ∨ (k = .home ∧ roll = 0) := by
  cases k <;> simp [dropAllowed]

theorem locationsOk_iff {roll : RollId} {pickup drop : Loc} {s : State} : s.locationsOk roll pickup drop = true ↔
    (pickup.kind = .none ∨
      ((pickup.kind = .place ∨ pickup.kind = .stand ∨ pickup.kind = .dock) ∧ roll ≠ 0 ∧ pickup.inRange s = true)) ∧
    (drop.kind = .place ∨ drop.kind = .stand ∨ drop.kind = .dock ∨ drop.kind = .waste ∨ (drop.kind = .home ∧ roll = 0)) ∧
    drop.inRange s = true := by
  rw [locationsOk, Bool.and_eq_true, Bool.and_eq_true, pickupAllowed_iff, dropAllowed_iff, and_assoc]

theorem orders_any {s : State} {f : Order → Bool} : (s.orders.any fun e => f e.2) = true ↔
    ∃ w, ∃ o ∈ (s.vehicle w).outstanding ++ (s.vehicle w).queue, f o = true := by
  simp only [orders, List.any_flatMap, List.any_map, List.any_eq_true, List.mem_finRange, true_and, Function.comp_apply]

theorem rollOk_iff {v : VehicleIx} {roll : RollId} {pickup : Loc} {s : State} : s.rollOk v roll pickup = true ↔
    ∃ k r, s.findRoll roll = some (k, r) ∧ pickable v pickup r.status = true ∧
      ∀ w, ∀ o ∈ (s.vehicle w).outstanding ++ (s.vehicle w).queue, ¬(o.roll = roll ∧ o.progress = .toPickup) := by
  have hany : (s.orders.any fun e => decide (e.2.roll = roll ∧ e.2.progress = .toPickup)) = false ↔
      ∀ w, ∀ o ∈ (s.vehicle w).outstanding ++ (s.vehicle w).queue, ¬(o.roll = roll ∧ o.progress = .toPickup) := by
    rw [Bool.eq_false_iff, ne_eq, orders_any (f := fun o => decide (o.roll = roll ∧ o.progress = .toPickup))]
    simp only [decide_eq_true_eq, not_exists, not_and]
  unfold rollOk roll?
  cases s.findRoll roll with
  | none => simp
  | some e =>
    simp only [Option.map_some, Bool.and_eq_true, Bool.not_eq_true', hany]
    exact ⟨fun h => ⟨e.1, e.2, rfl, h⟩, fun ⟨k, r, he, h⟩ => by cases he; exact h⟩

theorem callNaming?_of_unique {id : RollId} {c : Call} {s : State} (hc : c ∈ s.fdu.calls) (hn : c.phase.roll? = some id)
    (hu : ∀ d ∈ s.fdu.calls, d.phase.roll? = some id → d = c) : s.callNaming? id = some c :=
  find?_of_unique hc (decide_eq_true hn) fun d hd h => hu d hd (of_decide_eq_true h)

theorem callNaming?_some {id : RollId} {c : Call} {s : State} (h : s.callNaming? id = some c) :
    c ∈ s.fdu.calls ∧ c.phase.roll? = some id :=
  ⟨List.mem_of_find?_eq_some h, of_decide_eq_true (List.find?_some (p := fun c : Call => decide (c.phase.roll? = some id)) h)⟩

/-- Check 11 fails by the call that names the roll, or by the reservation in its record. -/
theorem reservedElsewhere_iff {roll : RollId} {drop : Loc} {s : State} : s.reservedElsewhere roll drop = true ↔
    (∃ c, s.callNaming? roll = some c ∧ drop ≠ standLoc c.stand) ∨
      ∃ k r p st, s.findRoll roll = some (k, r) ∧ r.status = .reserved p (.call st) ∧ drop ≠ standLoc st := by
  rw [reservedElsewhere, Bool.or_eq_true]
  refine or_congr ?_ ?_
  · cases s.callNaming? roll <;> simp
  · unfold roll?
    cases s.findRoll roll with
    | none => simp
    | some e =>
      obtain ⟨k, r⟩ := e
      cases hr : r.status with
      | reserved p o => cases o <;> simp [hr]
      | _ => simp [hr]

/-! ### The drop -/

theorem dropClaimed_iff {drop : Loc} {s : State} : s.dropClaimed drop = true ↔ s.dropClaim? drop ≠ none ∨
    ∃ w, ∃ o ∈ (s.vehicle w).outstanding ++ (s.vehicle w).queue, o.claim = .pending ∧ o.drop = drop := by
  rw [dropClaimed, Bool.or_eq_true, Option.isSome_iff_ne_none,
    orders_any (f := fun o => decide (o.claim = .pending ∧ o.drop = drop))]
  simp only [decide_eq_true_eq]

theorem dropClaim?_standLoc (st : StandIx) (s : State) : s.dropClaim? (standLoc st) = (s.stand st).claim := by
  have hst := stand?_standLoc st
  unfold dropClaim?
  simp only [hst]
  rfl

theorem dropOccupied_standLoc (st : StandIx) (s : State) : s.dropOccupied (standLoc st) = true ↔
    (∃ id, (s.stand st).other = .standby id) ∨
      ((∃ id, (s.stand st).other = .butt id) ∧
        ¬∃ w, ∃ o ∈ (s.vehicle w).outstanding ++ (s.vehicle w).queue, o.pickup = standLoc st ∧ o.progress = .toPickup) := by
  have hst := stand?_standLoc st
  have hany : (∃ w, ∃ o ∈ (s.vehicle w).outstanding ++ (s.vehicle w).queue, o.pickup = standLoc st ∧ o.progress = .toPickup) ↔
      (s.orders.any fun e => decide (e.2.pickup = standLoc st ∧ e.2.progress = .toPickup)) = true := by
    rw [orders_any (f := fun o => decide (o.pickup = standLoc st ∧ o.progress = .toPickup))]
    simp only [decide_eq_true_eq]
  have hkind : (standLoc st).kind = .stand := rfl
  rw [hany]
  unfold dropOccupied
  simp only [hkind, hst]
  cases (s.stand st).other <;> simp

theorem dropClaim?_of_keepless {drop : Loc} (h : drop.kind = .dock ∨ drop.kind = .waste) (s : State) :
    s.dropClaim? drop = none := by
  rcases h with h | h <;> simp only [dropClaim?, h]

theorem dropOccupied_of_keepless {drop : Loc} (h : drop.kind = .dock ∨ drop.kind = .waste) (s : State) :
    s.dropOccupied drop = false := by
  rcases h with h | h <;> simp only [dropOccupied, h]

theorem dropBlocked_of_kind {drop : Loc} (h : drop.kind ≠ .place) (s : State) : s.dropBlocked drop = false := by
  simp [dropBlocked, h]

/-! ### Routes -/

theorem unreachable_iff {l : Loc} {s : State} : s.unreachable l = true ↔ l.kind = .place ∧ (s.place l.num).access = 0 :=
  decide_eq_true_iff

section LegBetween

variable {a b : Loc} {s : State}

theorem legBetween_self : s.legBetween a a = .clear [] := if_pos rfl

variable (hne : a ≠ b)

include hne

theorem legBetween_of_unreachable (h : s.unreachable a = true ∨ s.unreachable b = true) : s.legBetween a b = .missing := by
  rw [legBetween, if_neg hne, if_pos (by simpa using h)]

variable (ha : ¬s.unreachable a = true) (hb : ¬s.unreachable b = true)

include ha hb

theorem legBetween_of_none (h : ∀ e ∈ s.tmc.routes, ¬(e.2.start = a ∧ e.2.goal = b)) : s.legBetween a b = .missing := by
  have hfind : (s.tmc.routes.find? fun e => decide (e.2.start = a ∧ e.2.goal = b)) = none :=
    List.find?_eq_none.2 fun e he => by simpa using h e he
  rw [legBetween, if_neg hne, if_neg (by simp [ha, hb]), hfind]

theorem legBetween_of_route {e : Nat × Route} (he : e ∈ s.tmc.routes) (hstart : e.2.start = a) (hgoal : e.2.goal = b)
    (hu : ∀ f ∈ s.tmc.routes, f.2.start = a → f.2.goal = b → f = e) :
    s.legBetween a b =
      if e.2.leg.all fun n => s.configured n && !(s.seg n).blocked then .clear e.2.leg else .blocked e.2.leg := by
  have hfind : (s.tmc.routes.find? fun e => decide (e.2.start = a ∧ e.2.goal = b)) = some e :=
    find?_of_unique he (decide_eq_true ⟨hstart, hgoal⟩) fun f hf h =>
      hu f hf (of_decide_eq_true h).1 (of_decide_eq_true h).2
  rw [legBetween, if_neg hne, if_neg (by simp [ha, hb]), hfind]

end LegBetween

theorem legFree_iff {leg : List Nat} {s : State} : (leg.all fun n => s.configured n && !(s.seg n).blocked) = true ↔
    ∀ n ∈ leg, (s.seg n).capacity ≠ 0 ∧ (s.seg n).blocked = false := by
  simp [configured]

theorem plannedStart_of_nil {v : VehicleIx} {s : State} (h : (s.vehicle v).queue = []) :
    s.plannedStart v = (s.vehicle v).endLoc := by
  simp only [plannedStart, h, List.getLast?_nil]

theorem plannedStart_of_last {v : VehicleIx} {before : List Order} {o : Order} {s : State}
    (h : (s.vehicle v).queue = before ++ [o]) : s.plannedStart v = o.drop := by
  simp only [plannedStart, h, List.getLast?_append_of_ne_nil _ (List.cons_ne_nil o []), List.getLast?_singleton]

/-! ### Forwarding that waits (R80) -/

theorem forwardable?_eq_none {v : VehicleIx} {s : State}
    (h : s.running = false ∨ (s.vehicle v).causes.none = false ∨ (s.vehicle v).status = .lost ∨
      (s.vehicle v).status = .off ∨ (s.vehicle v).window ≤ (s.vehicle v).outstanding.length) :
    s.forwardable? v = none := by
  unfold forwardable?
  refine if_neg fun hall => ?_
  simp only [Bool.and_eq_true, decide_eq_true_eq] at hall
  obtain ⟨⟨⟨hrun, hworks⟩, hcauses⟩, hwindow⟩ := hall
  rcases h with h | h | h | h | h
  · exact absurd (h.symm.trans hrun) (by decide)
  · exact absurd (h.symm.trans hcauses) (by decide)
  · rw [h] at hworks; exact absurd hworks (by decide)
  · rw [h] at hworks; exact absurd hworks (by decide)
  · exact absurd hwindow h.not_gt

theorem forwardLoop_of_waits {tell : State → State} {v : VehicleIx} {s : State} (h : s.forwardable? v = none) (n : Nat) :
    s.forwardLoop tell v n = s := by
  cases n with
  | zero => rfl
  | succ n => simp only [forwardLoop, h]

theorem forwardLoop_of_head {tell : State → State} {v : VehicleIx} {o : Order} {s : State}
    (h : s.forwardable? v = some o) (n : Nat) :
    s.forwardLoop tell v (n + 1) = (s.forwardHead tell v o).forwardLoop tell v n := by
  simp only [forwardLoop, h]

end State

/-! ### Acceptance (R78) -/

/-- An order as it joins the hold queue. -/
def Order.admitted (src : Source) (reply tag : Byte) (pickup drop : Loc) (roll : RollId) (claim : DropHold) : Order :=
  { tag := tag, source := src, reply := reply, pickup := pickup, drop := drop, roll := roll, claim := claim
    progress := if pickup.kind = .none then .toDrop else .toPickup }

namespace State

/-- The state with an order at the tail of a hold queue. -/
def withQueued (v : VehicleIx) (o : Order) (s : State) : State :=
  s.setVehicle v { s.vehicle v with queue := (s.vehicle v).queue ++ [o] }

theorem linkCall_of_none {st : StandIx} {s : State} (r : OrderRef) (roll : RollId) (h : s.call? st = none) :
    s.linkCall st r roll = s := by
  simp only [linkCall, h]

theorem call?_setDropClaim (l : Loc) (c : Option OrderRef) (st : StandIx) (s : State) :
    (s.setDropClaim l c).call? st = s.call? st := by
  have hcalls : (s.setDropClaim l c).fdu.calls = s.fdu.calls :=
    (Prod.mk.inj ((Moves.setDropClaim l c s).same .calls (by decide))).1
  simp only [call?, hcalls]

/-- An order that joins no call is queued, takes its drop claim and is considered for forwarding. -/
theorem accept_of_unlinked {v : VehicleIx} {src : Source} {reply tag : Byte} {pickup drop : Loc} {roll : RollId}
    {hold : DropHold} {s : State} (hhold : s.newDropHold roll drop = hold)
    (hcall : roll ≠ 0 → ∀ st, drop.stand? = some st → s.call? st = none) :
    s.accept v src reply tag pickup drop roll =
      forward v (if hold = .held then
        (s.withQueued v (.admitted src reply tag pickup drop roll hold)).setDropClaim drop (some ⟨v, tag⟩)
        else s.withQueued v (.admitted src reply tag pickup drop roll hold)) := by
  have hunlinked (u : State) (hu : ∀ st, u.call? st = s.call? st) :
      (match if roll = 0 then none else drop.stand? with
        | some st => u.linkCall st ⟨v, tag⟩ roll
        | none => u) = u := by
    split
    next st hst =>
      by_cases hroll : roll = 0
      · rw [if_pos hroll] at hst
        cases hst
      · rw [if_neg hroll] at hst
        exact linkCall_of_none _ _ ((hu st).trans (hcall hroll st hst))
    next => rfl
  subst hhold
  refine congrArg (forward v) (hunlinked _ fun st => ?_)
  split
  · exact call?_setDropClaim ..
  · rfl

theorem newDropHold_of_travel {drop : Loc} {s : State} : s.newDropHold 0 drop = .none := if_pos rfl

theorem newDropHold_of_keepless {roll : RollId} {drop : Loc} (h : drop.kind = .dock ∨ drop.kind = .waste) (s : State) :
    s.newDropHold roll drop = .none := by
  rcases h with h | h <;> simp [newDropHold, h]

theorem newDropHold_place {roll : RollId} {drop : Loc} {s : State} (hne : roll ≠ 0) (h : drop.kind = .place) :
    s.newDropHold roll drop = .held := by
  simp only [newDropHold, if_neg hne, h]

theorem newDropHold_emptyArm {roll : RollId} {st : StandIx} {s : State} (hne : roll ≠ 0) (h : (s.stand st).other = .none) :
    s.newDropHold roll (standLoc st) = .held := by
  have hkind : (standLoc st).kind = .stand := rfl
  simp only [newDropHold, if_neg hne, hkind, stand?_standLoc, Option.map_some, h]

theorem newDropHold_butt {roll : RollId} {st : StandIx} {id : RollId} {s : State} (hne : roll ≠ 0)
    (h : (s.stand st).other = .butt id) : s.newDropHold roll (standLoc st) = .pending := by
  have hkind : (standLoc st).kind = .stand := rfl
  simp only [newDropHold, if_neg hne, hkind, stand?_standLoc, Option.map_some, h]

theorem setDropClaim_place {l : Loc} {s : State} (c : Option OrderRef) (hkind : l.kind = .place) (h : s.noParity) :
    s.setDropClaim l c = s.setPlace l.num { s.place l.num with claim := c } := by
  rw [setDropClaim, hkind]
  exact updPlace_of_noParity h _ _

theorem setDropClaim_standLoc (st : StandIx) (c : Option OrderRef) (s : State) :
    s.setDropClaim (standLoc st) c = s.setStand st { s.stand st with claim := c } := by
  have hkind : (standLoc st).kind = .stand := rfl
  simp only [setDropClaim, hkind, stand?_standLoc]
  rfl

/-- An order of a halted vehicle waits in the hold queue. -/
theorem forward_of_halted {v : VehicleIx} {s : State} (h : (s.vehicle v).causes.none = false) : s.forward v = s :=
  forwardLoop_of_waits (forwardable?_eq_none (.inr (.inl h))) _

theorem causes_withQueued (v : VehicleIx) (o : Order) (s : State) :
    ((s.withQueued v o).vehicle v).causes = (s.vehicle v).causes := by
  simp [withQueued]

end State

/-- What check 9 allows, a move passes; the tag and the hold queue are those of MoveAllowed. -/
theorem MoveAllowed.refusedEarly_ok {v : VehicleIx} {dst : Byte} {rest : List Byte} {pickup drop : Loc} {s : State}
    (h : MoveAllowed v dst rest pickup drop s) :
    (s.setLinkCount 0).refusedEarly .upper ⟨dst, u8 rest 0, locAt rest 2, locAt rest 5, u32 rest 8⟩ = .ok v := by
  obtain ⟨-, -, -, hmode, hv, hworks, hzero, hlow, hfresh, hroom, -⟩ := h
  have hzero' : (MoveFields.mk dst (u8 rest 0) (locAt rest 2) (locAt rest 5) (u32 rest 8)).tag ≠ 0 := hzero
  rw [State.refusedEarly_of_freshTag (s := s.setLinkCount 0)
    (m := ⟨dst, u8 rest 0, locAt rest 2, locAt rest 5, u32 rest 8⟩) hmode hv hworks hzero' hlow hfresh]
  exact if_neg hroom.not_ge

section Allowed

variable {v : VehicleIx} {dst : Byte} {rest : List Byte} {pickup drop : Loc} {s : State} (src : Byte)
  (h : MoveAllowed v dst rest pickup drop s) (hpar : s.noParity)

include h hpar

theorem exec_moveNew_of_refusedRoll {r : Reason} (hroll : s.refusedRoll v (u32 rest 8) pickup drop = some r) :
    exec (.moveNew dst src rest) s = .next ((s.setLinkCount 0).refuseTo src (u8 rest 0) dst r) := by
  have hok := h.refusedEarly_ok
  obtain ⟨hpassed, hlen, hdst, -, -, -, -, -, -, -, hpickup, hdrop, hloc⟩ := h
  rw [exec_moveNew_wellFormed src hpassed hlen hdst,
    State.admitMove_of_refusedRoll (s := s.setLinkCount 0) hok hpickup hdrop hloc hpar hroll]

variable (hroll : s.refusedRoll v (u32 rest 8) pickup drop = none)

include hroll

theorem exec_moveNew_of_legsReason {r : Reason}
    (hlegs : legsReason (s.lookupLegs (s.plannedStart v) pickup drop).1 (s.lookupLegs (s.plannedStart v) pickup drop).2.1
      (s.dropBlocked drop) = some r) :
    exec (.moveNew dst src rest) s = .next ((s.setLinkCount 0).refuseTo src (u8 rest 0) dst r) := by
  have hok := h.refusedEarly_ok
  obtain ⟨hpassed, hlen, hdst, -, -, -, -, -, -, -, hpickup, hdrop, hloc⟩ := h
  rw [State.lookupLegs_of_noParity hpar] at hlegs
  rw [exec_moveNew_wellFormed src hpassed hlen hdst,
    State.admitMove_of_legsReason (s := s.setLinkCount 0) hok hpickup hdrop hloc hpar hroll
      (by rw [State.lookupLegs_of_noParity (s := s.setLinkCount 0) hpar]; exact hlegs)]

theorem exec_moveNew_of_accepted
    (hlegs : legsReason (s.lookupLegs (s.plannedStart v) pickup drop).1 (s.lookupLegs (s.plannedStart v) pickup drop).2.1
      (s.dropBlocked drop) = none) :
    exec (.moveNew dst src rest) s =
      .next ((s.setLinkCount 0).accept v .upper src (u8 rest 0) pickup drop (u32 rest 8)) := by
  have hok := h.refusedEarly_ok
  obtain ⟨hpassed, hlen, hdst, -, -, -, -, -, -, -, hpickup, hdrop, hloc⟩ := h
  rw [State.lookupLegs_of_noParity hpar] at hlegs
  rw [exec_moveNew_wellFormed src hpassed hlen hdst,
    State.admitMove_of_accepted (s := s.setLinkCount 0) hok hpickup hdrop hloc hpar hroll
      (by rw [State.lookupLegs_of_noParity (s := s.setLinkCount 0) hpar]; exact hlegs)]

end Allowed

/-- Settles O12: the admission by the first check that fails, and each check by what it looks at. -/
theorem moveChecksTenToFifteenAdmit : Obligations.MoveChecksTenToFifteenAdmit := by
  refine ⟨fun v dst src rest pickup drop s hallowed hpar => ?checks, fun v src reply tag pickup drop roll s hhalted hpar => ?halted,
    fun roll pickup drop s => ?locations, fun v roll pickup s => ?roll, fun roll drop s => ?reserved, fun drop s => ?drop,
    fun v s => ⟨State.plannedStart_of_nil, fun before o => State.plannedStart_of_last⟩, fun a b s hpar => ?route,
    fun start pickup drop s hpar => ?legs, fun l => ⟨rfl, rfl, rfl⟩⟩
  case checks =>
    intro u tag roll legs refused byRoute
    have routed (hnone : s.refusedRoll v roll pickup drop = none) : byRoute := by
      refine ⟨fun h => exec_moveNew_of_legsReason src hallowed hpar hnone (legsReason_missing _ h), fun h1 h2 =>
        ⟨fun h => exec_moveNew_of_legsReason src hallowed hpar hnone (legsReason_blocked h1 h2 h), fun h3 h4 h5 =>
          exec_moveNew_of_accepted src hallowed hpar hnone (by rw [h5]; exact legsReason_none h3 h4)⟩⟩
    have refuses {r : Reason} (h : s.refusedRoll v roll pickup drop = some r) : refused r :=
      exec_moveNew_of_refusedRoll src hallowed hpar h
    refine ⟨fun hzero => routed (if_pos hzero), fun hne => ⟨fun h => refuses (State.refusedRoll_of_rollState hne h), fun hok => ?_⟩⟩
    have hroll := State.refusedRoll_of_rollOk (drop := drop) hne hok
    refine ⟨fun h => refuses (hroll.trans (if_pos h)), fun hres => ⟨fun h => refuses ?_, fun hocc => ⟨fun h => refuses ?_, fun hcl => routed ?_⟩⟩⟩ <;>
      simp only [*, Bool.false_eq_true, if_false, if_true]
  case halted =>
    intro o queued
    have held (claim : DropHold) : ((s.withQueued v (o claim)).vehicle v).causes.none = false :=
      (congrArg Causes.none (State.causes_withQueued v (o claim) s)).trans hhalted
    have unclaimed {claim : DropHold} (hhold : s.newDropHold roll drop = claim) (hnot : claim ≠ .held)
        (hcall : roll ≠ 0 → ∀ st, drop.stand? = some st → s.call? st = none) :
        s.accept v src reply tag pickup drop roll = queued claim := by
      rw [State.accept_of_unlinked hhold hcall, if_neg hnot]
      exact State.forward_of_halted (held claim)
    refine ⟨fun h => ?_, fun hne hplace => ?_, fun hne st hst hcall => ?_⟩
    · rcases h with rfl | h
      · exact unclaimed State.newDropHold_of_travel (by decide) fun h => absurd rfl h
      · refine unclaimed (State.newDropHold_of_keepless h s) (by decide) fun _ st hst => ?_
        rw [stand?_of_kind (by rcases h with h | h <;> simp [h])] at hst
        cases hst
    · have hhold := State.newDropHold_place (s := s) hne hplace
      rw [State.accept_of_unlinked hhold, if_pos rfl, State.setDropClaim_place _ hplace (by exact hpar),
        State.forward_of_halted (by exact held .held)]
      · rfl
      · intro _ st hst
        rw [stand?_of_kind (by simp [hplace])] at hst
        cases hst
    · subst hst
      have hcall' : roll ≠ 0 → ∀ w, (standLoc st).stand? = some w → s.call? w = none := by
        intro _ w hw
        rw [stand?_standLoc] at hw
        cases hw
        exact hcall
      refine ⟨fun hnone => ?_, fun id hbutt => unclaimed (State.newDropHold_butt hne hbutt) (by decide) hcall'⟩
      rw [State.accept_of_unlinked (State.newDropHold_emptyArm hne hnone) hcall', if_pos rfl, State.setDropClaim_standLoc,
        State.forward_of_halted (by exact held .held)]
      rfl
  case locations =>
    intro within
    have hwithin (l : Loc) : l.inRange s = true ↔ within l := by
      obtain ⟨kind, n⟩ := l
      cases kind <;> exact decide_eq_true_iff
    rw [State.locationsOk_iff, hwithin, hwithin]
  case roll =>
    rw [State.rollOk_iff]
    simp only [pickable_iff]
  case reserved =>
    intro names hunique
    have hnaming : (∃ c, s.callNaming? roll = some c ∧ drop ≠ standLoc c.stand) ↔
        ∃ c ∈ s.fdu.calls, names c ∧ drop ≠ ⟨.stand, num c.stand⟩ := by
      constructor
      · rintro ⟨c, hc, hdrop⟩
        obtain ⟨hmem, hn⟩ := State.callNaming?_some hc
        exact ⟨c, hmem, names_iff.1 hn, hdrop⟩
      · rintro ⟨c, hmem, hn, hdrop⟩
        exact ⟨c, State.callNaming?_of_unique hmem (names_iff.2 hn) fun d hd hdn =>
          hunique d hd c hmem (names_iff.1 hdn) hn, hdrop⟩
    rw [State.reservedElsewhere_iff, hnaming]
    rfl
  case drop =>
    intro anyOrder pending
    refine ⟨fun p hp => ?_, fun st hst => ?_, fun hkind => ?_⟩
    · subst hp
      exact ⟨Option.isSome_iff_ne_none, State.dropClaimed_iff, by simp [State.dropBlocked]⟩
    · subst hst
      refine ⟨State.dropOccupied_standLoc st s, State.dropClaimed_iff.trans ?_, State.dropBlocked_of_kind (by simp) s⟩
      rw [show Loc.mk .stand (num st) = standLoc st from rfl, State.dropClaim?_standLoc]
      rfl
    · refine ⟨State.dropOccupied_of_keepless hkind s, State.dropClaimed_iff.trans ?_,
        State.dropBlocked_of_kind (by rcases hkind with h | h <;> simp [h]) s⟩
      rw [State.dropClaim?_of_keepless hkind]
      exact or_iff_right fun h => h rfl
  case route =>
    intro cut
    have hcut (l : Loc) : cut l ↔ s.unreachable l = true := State.unreachable_iff.symm
    simp only [hcut]
    rw [State.lookup_of_noParity hpar]
    refine ⟨rfl, fun h => h ▸ State.legBetween_self, State.legBetween_of_unreachable, fun hne ha hb =>
      ⟨State.legBetween_of_none hne ha hb, fun e he hstart hgoal hu => ?_⟩⟩
    have hleg := State.legBetween_of_route hne ha hb he hstart hgoal hu
    exact ⟨fun hfree => hleg.trans (if_pos (State.legFree_iff.2 hfree)),
      fun hfree => hleg.trans (if_neg (mt State.legFree_iff.1 hfree))⟩
  case legs =>
    simp only [State.lookupLegs_of_noParity hpar, State.lookup_of_noParity hpar, State.legsFrom]
    exact ⟨fun h => by simp only [if_pos h], fun h => by simp only [if_neg h]⟩

end Sys2Proof.Machine
end

section
/-! PROOFS. The operations that place telegrams and set flags: each reads the pins, the clock, the queues, the node table and
the SFU alone and changes none but the pins, the queues and the SFU, so that it commutes with a change of any other part. -/

namespace Sys2Proof.Machine

/-- Two states with the same pins, clock, queues, node table and SFU. -/
def SameLink (a b : State) : Prop :=
  b.pins = a.pins ∧ b.clock = a.clock ∧ b.ltu = a.ltu ∧ b.nd = a.nd ∧ b.sfu = a.sfu

/-- A state with the pins, the queues and the SFU of another. -/
def State.withLink (u s : State) : State := { s with pins := u.pins, ltu := u.ltu, sfu := u.sfu }

/-- An operation of the link: placing telegrams and setting flags. -/
structure LinkOp (F : State → State) : Prop where
  eq : ∀ a b, SameLink a b → F b = (F a).withLink b

theorem SameLink.refl (s : State) : SameLink s s := ⟨rfl, rfl, rfl, rfl, rfl⟩

namespace LinkOp

variable {F G : State → State}

theorem self (h : LinkOp F) (s : State) : F s = (F s).withLink s := h.eq s s (.refl s)

theorem sameLink (h : LinkOp F) (a b : State) (hab : SameLink a b) : SameLink (F a) (F b) := by
  have hclock : (F a).clock = a.clock := by rw [h.self a]; rfl
  have hnd : (F a).nd = a.nd := by rw [h.self a]; rfl
  rw [h.eq a b hab]
  exact ⟨rfl, hab.2.1.trans hclock.symm, rfl, hab.2.2.2.1.trans hnd.symm, rfl⟩

theorem id : LinkOp fun s => s := by
  refine ⟨fun a b ⟨hp, _, hl, _, hs⟩ => ?_⟩
  rw [State.withLink, ← hp, ← hl, ← hs]

theorem comp (hF : LinkOp F) (hG : LinkOp G) : LinkOp fun s => G (F s) := by
  refine ⟨fun a b hab => ?_⟩
  rw [hG.eq _ _ (hF.sameLink a b hab), hF.eq a b hab]
  rfl

/-- Two link operations under a condition that the link decides. -/
theorem ite {p : State → Prop} [DecidablePred p] (hp : ∀ a b, SameLink a b → (p b ↔ p a)) (hF : LinkOp F) (hG : LinkOp G) :
    LinkOp fun s => if p s then F s else G s := by
  refine ⟨fun a b hab => ?_⟩
  by_cases h : p a
  · simp only [if_pos h, if_pos ((hp a b hab).2 h)]
    exact hF.eq a b hab
  · simp only [if_neg h, if_neg (mt (hp a b hab).1 h)]
    exact hG.eq a b hab

theorem cond {c : Prop} [Decidable c] (hF : LinkOp F) (hG : LinkOp G) : LinkOp fun s => if c then F s else G s := by
  split
  · exact hF
  · exact hG

/-! ### The flags -/

theorem latch (f : Flag) (n : Word) : LinkOp (State.latch f n) := by
  constructor
  rintro ⟨⟩ ⟨⟩ ⟨rfl, rfl, rfl, rfl, rfl⟩
  rfl

theorem driveAlarm : LinkOp State.driveAlarm := by
  constructor
  rintro ⟨⟩ ⟨⟩ ⟨rfl, rfl, rfl, rfl, rfl⟩
  rfl

theorem alarmFor (f : Flag) : LinkOp (State.alarmFor f) := by
  constructor
  rintro ⟨⟩ ⟨⟩ ⟨rfl, rfl, rfl, rfl, rfl⟩
  cases f <;> rfl

theorem pushUpper (t : State → Telegram) (ht : ∀ a b, SameLink a b → t b = t a) : LinkOp fun s => s.pushUpper (t s) := by
  refine ⟨fun a b h => ?_⟩
  rw [ht a b h]
  obtain ⟨⟩ := a
  obtain ⟨⟩ := b
  obtain ⟨rfl, rfl, rfl, rfl, rfl⟩ := h
  rfl

theorem upperRoom (a b : State) (h : SameLink a b) : b.upperRoom = true ↔ a.upperRoom = true := by
  obtain ⟨-, -, hl, -, -⟩ := h
  rw [State.upperRoom, State.upperRoom, hl]

theorem normalRoom (a b : State) (h : SameLink a b) : b.normalRoom = true ↔ a.normalRoom = true := by
  obtain ⟨-, -, hl, -, -⟩ := h
  rw [State.normalRoom, State.normalRoom, hl]

theorem reports (f : Flag) (a b : State) (h : SameLink a b) : b.reports f = true ↔ a.reports f = true := by
  obtain ⟨-, -, -, -, hs⟩ := h
  rw [State.reports, State.reports, State.flag, State.flag, hs]

theorem collector (a b : State) (h : SameLink a b) : b.sfu.collector = 0 ↔ a.sfu.collector = 0 := by
  obtain ⟨-, -, -, -, hs⟩ := h
  rw [hs]

theorem notice (f : Flag) (w : Word) (a b : State) (h : SameLink a b) : b.notice f w = a.notice f w := by
  obtain ⟨hp, hc, -, -, hs⟩ := h
  rw [State.notice, State.notice, State.ownAddr, State.ownAddr, hp, hc, hs]

theorem raiseNoticeDropped (n : Nat) : LinkOp (State.raiseNoticeDropped n) := by
  have hlatch := latch .noticeDropped (BitVec.ofNat 32 n)
  have hwarn : LinkOp fun s : State => State.alarmFor .noticeDropped
      (if s.sfu.collector = 0 then s
       else if s.upperRoom then s.pushUpper (s.notice .noticeDropped (BitVec.ofNat 32 n))
       else s.latch .noticeDropped (BitVec.ofNat 32 Flag.noticeDropped.number)) :=
    (ite collector id (ite upperRoom (pushUpper _ (notice _ _)) (latch ..))).comp (alarmFor _)
  exact ite (reports _) (hlatch.comp hwarn) hlatch

theorem raiseField (f : Flag) (n w : Word) : LinkOp (State.raiseField f n w) := by
  have hwarn : LinkOp fun s : State => State.alarmFor f
      (if s.sfu.collector = 0 then s
       else if s.upperRoom then s.pushUpper (s.notice f w)
       else s.raiseNoticeDropped f.number) :=
    (ite collector id (ite upperRoom (pushUpper _ (notice _ _)) (raiseNoticeDropped _))).comp (alarmFor _)
  exact ite (reports _) ((latch f n).comp hwarn) (latch f n)

theorem raise (f : Flag) (n : Nat) : LinkOp (State.raise f n) := raiseField ..

/-! ### The queues -/

theorem setLtu (x : Ltu → Ltu) : LinkOp fun s => { s with ltu := x s.ltu } := by
  constructor
  rintro ⟨⟩ ⟨⟩ ⟨rfl, rfl, rfl, rfl, rfl⟩
  rfl

theorem placeNormal (t : Telegram) : LinkOp (State.placeNormal t) :=
  ite normalRoom (setLtu fun l => { l with normal := l.normal ++ [t] }) (raise ..)

theorem placeUpper (t : Telegram) : LinkOp (State.placeUpper t) :=
  ite upperRoom (pushUpper _ fun _ _ _ => rfl) (raise ..)

theorem placeAnswer (t : Telegram) : LinkOp (State.placeAnswer t) :=
  ite upperRoom (pushUpper _ fun _ _ _ => rfl) (raise ..)

theorem placeUrgent (t : Telegram) : LinkOp (State.placeUrgent t) := by
  have hflush : LinkOp State.flushRestartHolds :=
    setLtu fun l => { l with
      urgent := l.urgent ++ l.restartHolds.take (Config.urgentSlots - l.urgent.length)
      restartHolds := l.restartHolds.drop (Config.urgentSlots - l.urgent.length) }
  have hplace : LinkOp fun s : State =>
      if s.ltu.urgent.length < Config.urgentSlots then { s with ltu := { s.ltu with urgent := s.ltu.urgent ++ [t] } }
      else s.raise .queueOverflow 1 :=
    ite (p := fun s => s.ltu.urgent.length < Config.urgentSlots) (fun a b ⟨_, _, hl, _⟩ => by rw [hl])
      (setLtu fun l => { l with urgent := l.urgent ++ [t] }) (raise ..)
  exact hflush.comp hplace

/-- An operation that takes its parameter from the node table and the pins. -/
theorem param {α : Type} {P : α → State → State} (f : State → α) (hf : ∀ a b, SameLink a b → f b = f a)
    (hP : ∀ x, LinkOp (P x)) : LinkOp fun s => P (f s) s := by
  refine ⟨fun a b h => ?_⟩
  rw [hf a b h]
  exact (hP _).eq a b h

theorem ownAddr (a b : State) (h : SameLink a b) : b.ownAddr = a.ownAddr := by
  obtain ⟨hp, -⟩ := h
  rw [State.ownAddr, State.ownAddr, hp]

theorem vehicleEntry? (v : VehicleIx) (a b : State) (h : SameLink a b) : b.vehicleEntry? v = a.vehicleEntry? v := by
  obtain ⟨-, -, -, hn, -⟩ := h
  rw [State.vehicleEntry?, State.vehicleEntry?, hn]

theorem sendVehicle (v : VehicleIx) (cls : Byte) (body : List Byte) : LinkOp (State.sendVehicle v cls body) := by
  refine ⟨fun a b h => ?_⟩
  cases he : a.vehicleEntry? v with
  | none =>
    rw [State.sendVehicle_of_none _ _ he, State.sendVehicle_of_none _ _ ((vehicleEntry? v a b h).trans he)]
    exact id.eq a b h
  | some e =>
    rw [State.sendVehicle_of_some _ _ he, State.sendVehicle_of_some _ _ ((vehicleEntry? v a b h).trans he), ownAddr a b h]
    exact (placeUrgent _).eq a b h

theorem sendGrant (v : VehicleIx) (n : Nat) (r : GrantResult) : LinkOp (State.sendGrant v n r) := sendVehicle ..

theorem sendRelease (v : VehicleIx) : LinkOp (State.sendRelease v) := sendVehicle ..

theorem refuseTo (dst tag addr : Byte) (r : Reason) : LinkOp (State.refuseTo dst tag addr r) :=
  cond id (param (P := fun own => State.placeAnswer ⟨dst, own, clsRefuse, [clsMove, tag, addr, r.code]⟩) State.ownAddr ownAddr
    fun _ => placeAnswer _)

theorem vehicleAddr (v : VehicleIx) (a b : State) (h : SameLink a b) : b.vehicleAddr v = a.vehicleAddr v := by
  rw [State.vehicleAddr, State.vehicleAddr, vehicleEntry? v a b h]

theorem reply (t : Telegram) (x : Answer) : LinkOp (State.reply t x) :=
  cond id (param (P := fun own => State.placeAnswer ⟨t.src, own, clsMreply, [t.cls, x.result.code] ++ echo t x.carried ++ x.data⟩)
    State.ownAddr ownAddr fun _ => placeAnswer _)

/-! ### What a link operation leaves -/

section Leaves

variable (h : LinkOp F) (s : State)

include h

theorem clock_eq : (F s).clock = s.clock := by rw [h.self]; rfl
theorem nd_eq : (F s).nd = s.nd := by rw [h.self]; rfl
theorem tcu_eq : (F s).tcu = s.tcu := by rw [h.self]; rfl
theorem vou_eq : (F s).vou = s.vou := by rw [h.self]; rfl
theorem tmc_eq : (F s).tmc = s.tmc := by rw [h.self]; rfl
theorem fdu_eq : (F s).fdu = s.fdu := by rw [h.self]; rfl
theorem scu_eq : (F s).scu = s.scu := by rw [h.self]; rfl
theorem pls_eq : (F s).pls = s.pls := by rw [h.self]; rfl
theorem mga_eq : (F s).mga = s.mga := by rw [h.self]; rfl
theorem due_eq : (F s).due = s.due := by rw [h.self]; rfl

theorem vehicle_eq (v : VehicleIx) : (F s).vehicle v = s.vehicle v := by rw [State.vehicle, h.vou_eq]; rfl
theorem stand_eq (st : StandIx) : (F s).stand st = s.stand st := by rw [State.stand, h.fdu_eq]; rfl
theorem seg_eq (n : Nat) : (F s).seg n = s.seg n := by rw [State.seg, h.tcu_eq]; rfl
theorem zone_eq (z : ZoneIx) : (F s).zone z = s.zone z := by rw [State.zone, h.tcu_eq]; rfl
theorem place_eq (p : Nat) : (F s).place p = s.place p := by rw [State.place, h.tmc_eq]; rfl
theorem waitsFor?_eq (v : VehicleIx) : (F s).waitsFor? v = s.waitsFor? v := by rw [State.waitsFor?, h.tcu_eq]; rfl
theorem entry_eq (v : VehicleIx) : (F s).vehicleEntry? v = s.vehicleEntry? v := by
  rw [State.vehicleEntry?, h.nd_eq]
  rfl
theorem noParity_eq (hs : s.noParity) : (F s).noParity := by
  rw [State.noParity, h.tmc_eq]
  exact hs

/-- A change of another part commutes with a link operation. -/
theorem commutes {G : State → State} (hlink : ∀ s, SameLink s (G s))
    (hG : ∀ u s : State, G (u.withLink s) = u.withLink (G s)) : F (G s) = G (F s) := by
  rw [h.eq _ _ (hlink s), h.self s, hG]
  rfl

theorem setVehicle (v : VehicleIx) (x : Vehicle) : F (s.setVehicle v x) = (F s).setVehicle v x :=
  h.commutes s (G := State.setVehicle v x) (fun _ => ⟨rfl, rfl, rfl, rfl, rfl⟩) fun _ _ => rfl

theorem updVehicle (v : VehicleIx) (f : Vehicle → Vehicle) : F (s.updVehicle v f) = (F s).updVehicle v f :=
  h.commutes s (G := State.updVehicle v f) (fun _ => ⟨rfl, rfl, rfl, rfl, rfl⟩) fun _ _ => rfl

theorem setStand (st : StandIx) (x : Stand) : F (s.setStand st x) = (F s).setStand st x :=
  h.commutes s (G := State.setStand st x) (fun _ => ⟨rfl, rfl, rfl, rfl, rfl⟩) fun _ _ => rfl

theorem updStand (st : StandIx) (f : Stand → Stand) : F (s.updStand st f) = (F s).updStand st f :=
  h.commutes s (G := State.updStand st f) (fun _ => ⟨rfl, rfl, rfl, rfl, rfl⟩) fun _ _ => rfl

theorem setSlot (k : Nat) (r : Roll) : F (s.setSlot k r) = (F s).setSlot k r :=
  h.commutes s (G := State.setSlot k r) (fun _ => ⟨rfl, rfl, rfl, rfl, rfl⟩) fun _ _ => rfl

theorem setPlace (p : Nat) (x : Place) : F (s.setPlace p x) = (F s).setPlace p x :=
  h.commutes s (G := State.setPlace p x) (fun _ => ⟨rfl, rfl, rfl, rfl, rfl⟩) fun _ _ => rfl

theorem setSeg (n : Nat) (x : Segment) : F (s.setSeg n x) = (F s).setSeg n x :=
  h.commutes s (G := State.setSeg n x) (fun _ => ⟨rfl, rfl, rfl, rfl, rfl⟩) fun _ _ => rfl

theorem updSeg (n : Nat) (f : Segment → Segment) : F (s.updSeg n f) = (F s).updSeg n f :=
  h.commutes s (G := State.updSeg n f) (fun _ => ⟨rfl, rfl, rfl, rfl, rfl⟩) fun _ _ => rfl

theorem updZone (z : ZoneIx) (f : Zone → Zone) : F (s.updZone z f) = (F s).updZone z f :=
  h.commutes s (G := State.updZone z f) (fun _ => ⟨rfl, rfl, rfl, rfl, rfl⟩) fun _ _ => rfl

end Leaves

end LinkOp

namespace State

/-! ### Records written twice -/

theorem setVehicle_setVehicle (v : VehicleIx) (x y : Vehicle) (s : State) :
    (s.setVehicle v x).setVehicle v y = s.setVehicle v y := by
  simp only [setVehicle, Vector.set_set]

@[simp] theorem vehicle_setVehicle_self (v : VehicleIx) (x : Vehicle) (s : State) : (s.setVehicle v x).vehicle v = x := by
  simp

theorem updVehicle_setVehicle (v : VehicleIx) (x : Vehicle) (f : Vehicle → Vehicle) (s : State) :
    (s.setVehicle v x).updVehicle v f = s.setVehicle v (f x) := by
  rw [updVehicle, vehicle_setVehicle_self, setVehicle_setVehicle]

theorem setVehicle_self (v : VehicleIx) (s : State) : s.setVehicle v (s.vehicle v) = s := by
  simp [setVehicle, vehicle]

theorem setStand_setStand (st : StandIx) (x y : Stand) (s : State) :
    (s.setStand st x).setStand st y = s.setStand st y := by
  simp only [setStand, Vector.set_set]

@[simp] theorem stand_setStand_self (st : StandIx) (x : Stand) (s : State) : (s.setStand st x).stand st = x := by
  simp

theorem updStand_setStand (st : StandIx) (x : Stand) (f : Stand → Stand) (s : State) :
    (s.setStand st x).updStand st f = s.setStand st (f x) := by
  rw [updStand, stand_setStand_self, setStand_setStand]

theorem setStand_self (st : StandIx) (s : State) : s.setStand st (s.stand st) = s := by
  simp [setStand, stand]

end State

end Sys2Proof.Machine
end

section
/-! PROOFS. An order forwarded, an order that fails at forwarding (R80, R41, R49), and the CANCEL (R85). -/

namespace Sys2Proof.Machine

namespace State

/-! ### Seating (R59) -/

theorem seat_of_full {v : VehicleIx} {s : State}
    (h : (s.seg (s.vehicle v).currentSeg).capacity ≤ (s.seg (s.vehicle v).currentSeg).holders.length) : s.seat v = s := by
  refine if_neg fun hall => ?_
  rw [Bool.and_eq_true] at hall
  exact absurd (of_decide_eq_true hall.2) h.not_gt

theorem seat_of_room {v : VehicleIx} {s : State}
    (h : (s.seg (s.vehicle v).currentSeg).holders.length < (s.seg (s.vehicle v).currentSeg).capacity) :
    s.seat v = s.takeClaim v (s.vehicle v).currentSeg ((s.vehicle v).occupiedPos (s.vehicle v).currentSeg) := by
  have hconf : s.configured (s.vehicle v).currentSeg = true := decide_eq_true (Nat.ne_zero_of_lt h)
  have hroom : s.hasRoom (s.vehicle v).currentSeg = true := decide_eq_true h
  unfold seat
  simp only [hconf, hroom, Bool.and_self, if_true]

/-- Seating touches the segments and the vehicle's claims alone. -/
theorem vehicle_seat (v : VehicleIx) (s : State) : ∃ l, (s.seat v).vehicle v = { s.vehicle v with claims := l } := by
  rcases Nat.lt_or_ge (s.seg (s.vehicle v).currentSeg).holders.length (s.seg (s.vehicle v).currentSeg).capacity with h | h
  · exact ⟨_, by rw [seat_of_room h, takeClaim, vehicle_updVehicle, if_pos rfl]; rfl⟩
  · exact ⟨(s.vehicle v).claims, by rw [seat_of_full h]⟩

theorem occupiedPos_of_at {x : Vehicle} {n : Nat} {e : PathEntry} (h : x.path[x.pointer]? = some e) (he : e.seg = n) :
    x.occupiedPos n = some x.pointer := by
  simp only [Vehicle.occupiedPos, h, if_pos he]

theorem occupiedPos_of_away {x : Vehicle} {n : Nat} (h : ∀ e, x.path[x.pointer]? = some e → e.seg ≠ n) :
    x.occupiedPos n = none := by
  unfold Vehicle.occupiedPos
  split
  next e he => exact if_neg (h e he)
  next => rfl

theorem takeClaim_first {v : VehicleIx} {s : State} (n : Nat) (pos : Option Nat) (h : (s.vehicle v).claims = []) :
    s.takeClaim v n pos =
      (s.setSeg n { s.seg n with
        holders := (s.seg n).holders ++ [v], waiters := (s.seg n).waiters.filter (· ≠ v) }).setVehicle v
        { s.vehicle v with claims := [⟨n, pos⟩] } := by
  rw [takeClaim, updVehicle]
  have hx : (s.updSeg n fun x => { x with holders := x.holders ++ [v], waiters := x.waiters.filter (· ≠ v) }).vehicle v =
      s.vehicle v := rfl
  rw [hx, h]
  rfl

/-! ### A path that begins (R59) -/

theorem joinPath_of_free {v : VehicleIx} {s : State} (o : Order) (hpath : (s.vehicle v).path = [])
    (hclaims : (s.vehicle v).claims = []) :
    s.joinPath v o =
      (s.setVehicle v { s.vehicle v with path := (o.leg1 ++ o.leg2).map fun n => ⟨n, o.tag⟩, pointer := 0 }).seat v := by
  simp only [joinPath, hpath, hclaims, List.isEmpty_nil, Bool.and_self, if_true, List.nil_append]

/-! ### Forwarding (R80) -/

theorem forwardable?_of_free {v : VehicleIx} {o : Order} {l : List Order} {s : State} (hrun : s.running = true)
    (hworks : (s.vehicle v).status = .idle ∨ (s.vehicle v).status = .busy) (hcauses : (s.vehicle v).causes.none = true)
    (hwindow : (s.vehicle v).outstanding.length < (s.vehicle v).window) (hqueue : (s.vehicle v).queue = o :: l) :
    s.forwardable? v = some o := by
  simp [forwardable?, hrun, hworks, hcauses, hwindow, hqueue]

/-- The order with the legs found at its forwarding. -/
def routed (o : Order) (leg1 leg2 : List Nat) : Order := { o with leg1 := leg1, leg2 := leg2 }

theorem forwardHead_of_clear {tell : State → State} {v : VehicleIx} {o : Order} {leg1 leg2 : List Nat} {s : State}
    (hpar : s.noParity) (hlegs : s.legsFrom (s.vehicle v).endLoc o.pickup o.drop = (.clear leg1, .clear leg2))
    (hdrop : s.dropBlocked o.drop = false) :
    s.forwardHead tell v o = sendMove tell v (routed o leg1 leg2)
      (((s.updVehicle v fun x => { x with
        queue := x.queue.drop 1, outstanding := x.outstanding ++ [routed o leg1 leg2] }).joinPath v
          (routed o leg1 leg2)).updVehicle v fun x => { x with endLoc := o.drop, status := .busy }) := by
  have hreason : legsReason (.clear leg1) (.clear leg2) false = none :=
    legsReason_none (Option.some_ne_none _) (Option.some_ne_none _)
  simp only [forwardHead, readLoc_of_noParity hpar, lookupLegs_of_noParity hpar, hlegs, hdrop, hreason]
  rfl

theorem forwardHead_of_failed {tell : State → State} {v : VehicleIx} {o : Order} {reason : Reason} {s : State}
    (hpar : s.noParity)
    (h : legsReason (s.legsFrom (s.vehicle v).endLoc o.pickup o.drop).1 (s.legsFrom (s.vehicle v).endLoc o.pickup o.drop).2
      (s.dropBlocked o.drop) = some reason) :
    s.forwardHead tell v o = (s.endQueued v o).refuseTo o.reply o.tag (s.vehicleAddr v) reason := by
  simp only [forwardHead, readLoc_of_noParity hpar, lookupLegs_of_noParity hpar, h]

/-- A vehicle that waits for nothing and has no order, so that the next one is forwarded at once. -/
structure Free (v : VehicleIx) (s : State) : Prop where
  running : s.running = true
  parity  : s.noParity
  idle    : (s.vehicle v).status = .idle
  causes  : (s.vehicle v).causes.none = true
  queue   : (s.vehicle v).queue = []
  none    : (s.vehicle v).outstanding = []
  path    : (s.vehicle v).path = []
  claims  : (s.vehicle v).claims = []
  window  : 0 < (s.vehicle v).window

/-- The state in which the MOVE of a forwarded order is made: outstanding, on the path, the vehicle seated and BUSY. -/
def withForwarded (v : VehicleIx) (o : Order) (s : State) : State :=
  ((s.setVehicle v { s.vehicle v with
    outstanding := [o], path := (o.leg1 ++ o.leg2).map fun n => ⟨n, o.tag⟩, pointer := 0 }).seat v).updVehicle v
    fun x => { x with endLoc := o.drop, status := .busy }

theorem forward_of_free {v : VehicleIx} {o : Order} {leg1 leg2 : List Nat} {s : State} (h : Free v s)
    (hlegs : s.legsFrom (s.vehicle v).endLoc o.pickup o.drop = (.clear leg1, .clear leg2))
    (hdrop : s.dropBlocked o.drop = false) :
    (s.withQueued v o).forward v = (s.withForwarded v (routed o leg1 leg2)).sendMove id v (routed o leg1 leg2) := by
  have hx : (s.withQueued v o).vehicle v = { s.vehicle v with queue := [o] } := by
    rw [withQueued, h.queue, vehicle_setVehicle_self]
    rfl
  have hhead : (s.withQueued v o).forwardable? v = some o :=
    forwardable?_of_free h.running (.inl (by rw [hx]; exact h.idle)) (by rw [hx]; exact h.causes)
      (by rw [hx]; exact (congrArg List.length h.none).trans_lt h.window) (by rw [hx])
  have hlegs' : (s.withQueued v o).legsFrom ((s.withQueued v o).vehicle v).endLoc o.pickup o.drop = (.clear leg1, .clear leg2) := by
    rw [hx]
    exact hlegs
  have hqueue : { s.vehicle v with
      queue := [], outstanding := [routed o leg1 leg2], path := (leg1 ++ leg2).map fun n => ⟨n, o.tag⟩, pointer := 0 } =
      { s.vehicle v with
        outstanding := [routed o leg1 leg2], path := (leg1 ++ leg2).map fun n => ⟨n, o.tag⟩, pointer := 0 } :=
    congrArg (fun q => { s.vehicle v with
      queue := q, outstanding := [routed o leg1 leg2], path := (leg1 ++ leg2).map fun n => ⟨n, o.tag⟩, pointer := 0 })
      h.queue.symm
  have hjoin : ((s.withQueued v o).updVehicle v fun x => { x with
      queue := x.queue.drop 1, outstanding := x.outstanding ++ [routed o leg1 leg2] }).joinPath v (routed o leg1 leg2) =
      (s.setVehicle v { s.vehicle v with
        outstanding := [routed o leg1 leg2], path := (leg1 ++ leg2).map fun n => ⟨n, o.tag⟩, pointer := 0 }).seat v := by
    rw [updVehicle, hx, h.none, withQueued, setVehicle_setVehicle,
      joinPath_of_free _ (by rw [vehicle_setVehicle_self]; exact h.path) (by rw [vehicle_setVehicle_self]; exact h.claims),
      vehicle_setVehicle_self, setVehicle_setVehicle, ← hqueue]
    rfl
  have hlen : ((s.withQueued v o).vehicle v).queue.length = 1 := by rw [hx]; rfl
  rw [forward, hlen, forwardLoop_of_head hhead, forwardLoop,
    forwardHead_of_clear (s := s.withQueued v o) h.parity hlegs' hdrop, hjoin]
  rfl

theorem moves_withForwarded (v : VehicleIx) (o : Order) (s : State) : Moves [.vehicles, .tcu] s (s.withForwarded v o) :=
  ((Moves.setVehicle ..).mono.next (Moves.seat ..)).next (Moves.updVehicle ..)

theorem vehicle_withForwarded (v : VehicleIx) (o : Order) (s : State) :
    ∃ l, (s.withForwarded v o).vehicle v = { s.vehicle v with
      status := .busy, outstanding := [o], endLoc := o.drop, claims := l
      path := (o.leg1 ++ o.leg2).map fun n => ⟨n, o.tag⟩, pointer := 0 } := by
  obtain ⟨l, hl⟩ := vehicle_seat v (s.setVehicle v { s.vehicle v with
    outstanding := [o], path := (o.leg1 ++ o.leg2).map fun n => ⟨n, o.tag⟩, pointer := 0 })
  refine ⟨l, ?_⟩
  rw [withForwarded, vehicle_updVehicle, if_pos rfl, hl, vehicle_setVehicle_self]

theorem sendMove_of_room {tell : State → State} {v : VehicleIx} {o : Order} {e : NodeEntry} {s : State}
    (he : s.vehicleEntry? v = some e) (hroom : s.ltu.normal.length < Config.normalSlots) (hsrc : o.source = .upper) :
    s.sendMove tell v o = s.placeNormal ⟨e.addr, o.reply, clsMove, forwardedMoveBody o e.addr⟩ := by
  simp only [sendMove, he, normalRoom_iff.2 hroom, if_true, hsrc]

theorem sendMove_of_full {tell : State → State} {v : VehicleIx} {o : Order} {e : NodeEntry} {s : State}
    (he : s.vehicleEntry? v = some e) (hfull : Config.normalSlots ≤ s.ltu.normal.length) :
    s.sendMove tell v o =
      (if ((s.raise .queueOverflow 2).endOutstanding v o .failed).fallsIdle v then
          tell (((s.raise .queueOverflow 2).endOutstanding v o .failed).settle v)
        else ((s.raise .queueOverflow 2).endOutstanding v o .failed).settle v).refuseTo o.reply o.tag e.addr .queueFull := by
  have hnot : ¬s.normalRoom = true := mt normalRoom_iff.1 hfull.not_gt
  simp only [sendMove, he, if_neg hnot]

/-! ### The end of a lone order (R83) -/

theorem leaveWaiting_of_none {v : VehicleIx} {s : State} (h : s.waitsFor? v = none) : s.leaveWaiting v = s := by
  simp only [leaveWaiting, h]

theorem serveWaiting_of_none {v : VehicleIx} {s : State} (h : s.waitsFor? v = none) : s.serveWaiting v = s := by
  simp only [serveWaiting, h]

theorem revertCall_of_unlinked {v : VehicleIx} {o : Order} {s : State} (h : o.link = none) : s.revertCall v o = s := by
  simp only [revertCall, h, Option.bind_none]

theorem linkSelected_of_unlinked {o : Order} {s : State} (h : o.link = none) : s.linkSelected o = false := by
  simp only [linkSelected, h, Option.bind_none, Option.isSome_none]

theorem releaseClaims_nil (v : VehicleIx) (keep : List TrackClaim) (s : State) :
    s.releaseClaims v [] keep = s.updVehicle v fun x => { x with claims := keep } := rfl

/-- Where a vehicle stands when its newest order ends undelivered (R83). -/
def restLoc (x : Vehicle) : Loc := if x.currentSeg = 0 then ⟨.home, x.home⟩ else ⟨.segment, x.currentSeg⟩

/-- The only order of a vehicle without claims and without a call ends undelivered: nothing is served and nothing reverts. -/
theorem endOutstanding_of_lone {v : VehicleIx} {o : Order} {s : State} (ho : (s.vehicle v).outstanding = [o])
    (hwaits : s.waitsFor? v = none) (hclaims : (s.vehicle v).claims = []) (hclaim : o.claim ≠ .held) (hlink : o.link = none) :
    s.endOutstanding v o .failed = s.setVehicle v { s.vehicle v with
      outstanding := [], path := [], pointer := 0, endLoc := restLoc (s.vehicle v) } := by
  have hnewest : (((s.vehicle v).outstanding.dropWhile fun x => x.tag ≠ o.tag).drop 1).isEmpty = true := by simp [ho]
  have hleft : (s.vehicle v).outstanding.filter (fun y => y.tag ≠ o.tag) = [] := by simp [ho]
  have hleave : (s.setVehicle v { s.vehicle v with outstanding := [] }).leavePath v o.tag =
      s.setVehicle v { s.vehicle v with outstanding := [], path := [], pointer := 0 } := by
    have hempty : ((s.setVehicle v { s.vehicle v with outstanding := [] }).vehicle v).outstanding.isEmpty = true := by simp
    rw [leavePath, if_pos hempty, emptyPath, leaveWaiting_of_none (s := s.setVehicle v _) hwaits, updVehicle_setVehicle, vehicle_setVehicle_self]
    simp only [hclaims, releaseClaims_nil, updVehicle_setVehicle]
  unfold endOutstanding
  simp only [hnewest, updVehicle, hleft, hleave, if_neg hclaim, Bool.true_and, true_or, decide_true, if_true,
    revertCall_of_unlinked hlink, vehicle_setVehicle_self, setVehicle_setVehicle]
  rfl

theorem settle_of_busy {v : VehicleIx} {s : State} (h : (s.vehicle v).outstanding = []) (hbusy : (s.vehicle v).status = .busy) :
    s.settle v = s.setVehicle v { s.vehicle v with status := .idle } := by
  simp only [settle, h, List.isEmpty_nil, if_true, hbusy]

theorem endQueued_of_unlinked {v : VehicleIx} {o : Order} (s : State) (hclaim : o.claim ≠ .held) (hlink : o.link = none) :
    s.endQueued v o =
      s.setVehicle v { s.vehicle v with queue := (s.vehicle v).queue.filter fun y => y.tag ≠ o.tag } := by
  simp only [endQueued, if_neg hclaim, revertCall_of_unlinked hlink]
  rfl

theorem tryCalls_of_normal {s : State} (h : s.sfu.mode = .normal) : s.tryCalls = s := if_neg (by rw [h]; decide)

/-- The queue of a vehicle that may not be forwarded stays as it is (R80). -/
theorem forwardAndTell_of_waits {v : VehicleIx} {s : State}
    (h : s.running = false ∨ (s.vehicle v).causes.none = false ∨ (s.vehicle v).status = .lost ∨
      (s.vehicle v).status = .off ∨ (s.vehicle v).window ≤ (s.vehicle v).outstanding.length) :
    s.forwardAndTell v = s :=
  forwardLoop_of_waits (forwardable?_eq_none h) _

theorem forwardAndTell_of_nil {v : VehicleIx} {s : State} (h : (s.vehicle v).queue = []) : s.forwardAndTell v = s := by
  rw [forwardAndTell, h]
  rfl

theorem forward_of_nil {v : VehicleIx} {s : State} (h : (s.vehicle v).queue = []) : s.forward v = s := by
  rw [forward, h]
  rfl

end State

end Sys2Proof.Machine
end

section
/-! PROOFS. A MOVE that is admitted for a free vehicle, forwarded or undone, a hold queue that fails when its vehicle is
resumed (R80, R49, R91), and the CANCEL (R85). -/

namespace Sys2Proof.Machine

theorem Table.find_insert_of_any {α : Type} (k j : Nat) (a : α) :
    ∀ l : List (Nat × α), Table.find? j (Table.insert k a l) = if j = k then some a else Table.find? j l
  | [] => by
    rcases eq_or_ne j k with rfl | hne
    · simp [Table.insert, Table.find?]
    · simp [Table.insert, Table.find?, hne, hne.symm]
  | (i, b) :: r => by
    have ih := Table.find_insert_of_any k j a r
    unfold Table.insert
    split
    case isTrue =>
      rcases eq_or_ne j k with rfl | hne
      · simp [Table.find?]
      · simp [Table.find?, hne, hne.symm]
    case isFalse =>
      split
      case isTrue hk =>
        subst hk
        rcases eq_or_ne j k with rfl | hne
        · simp [Table.find?]
        · simp [Table.find?, hne, hne.symm]
      case isFalse hk =>
        rcases eq_or_ne i j with rfl | hne
        · simp [Table.find?, Ne.symm hk]
        · simp [Table.find?, hne, ih]

namespace State

/-- A place that reads as no unlisted one is read as it was written, whatever the table. -/
theorem place_setPlace_of_listed {x : Place} (hx : x ≠ {}) (p q : Nat) (s : State) :
    (s.setPlace p x).place q = if q = p then x else s.place q := by
  simp only [place, setPlace, Table.get, Table.put, if_neg hx, Table.find_insert_of_any]
  split <;> rfl

theorem claimed_ne_unlisted (x : Place) (r : OrderRef) : { x with claim := some r } ≠ ({} : Place) :=
  fun h => nomatch congrArg Place.claim h

theorem legBetween_congr {a b : State} (hroutes : b.tmc.routes = a.tmc.routes) (htcu : b.tcu = a.tcu)
    (haccess : ∀ n, (b.place n).access = (a.place n).access) (l m : Loc) : b.legBetween l m = a.legBetween l m := by
  have hseg (n : Nat) : b.seg n = a.seg n := by rw [seg, seg, htcu]
  simp only [legBetween, unreachable, configured, hroutes, hseg, haccess]
  rfl

theorem legsFrom_congr {a b : State} (hroutes : b.tmc.routes = a.tmc.routes) (htcu : b.tcu = a.tcu)
    (haccess : ∀ n, (b.place n).access = (a.place n).access) (k l m : Loc) : b.legsFrom k l m = a.legsFrom k l m := by
  simp only [legsFrom, legBetween_congr hroutes htcu haccess]

/-- A drop claim at a place leaves where the routes lead. -/
theorem legsFrom_claimed (n : Nat) (r : OrderRef) (k l m : Loc) (s : State) :
    (s.setPlace n { s.place n with claim := some r }).legsFrom k l m = s.legsFrom k l m := by
  refine legsFrom_congr (a := s) (b := s.setPlace n { s.place n with claim := some r }) rfl rfl (fun q => ?_) k l m
  rw [place_setPlace_of_listed (claimed_ne_unlisted _ _)]
  split
  next h => rw [h]
  next => rfl

theorem dropBlocked_claimed (n : Nat) (r : OrderRef) (l : Loc) (s : State) :
    (s.setPlace n { s.place n with claim := some r }).dropBlocked l = s.dropBlocked l := by
  simp only [dropBlocked, place_setPlace_of_listed (claimed_ne_unlisted _ _)]
  split
  next h => rw [h]
  next => rfl

/-! ### A free vehicle's order -/

theorem entry_withForwarded (v : VehicleIx) (o : Order) (s : State) :
    (s.withForwarded v o).vehicleEntry? v = s.vehicleEntry? v := by
  rw [vehicleEntry?, (moves_withForwarded v o s).same .nd (by decide)]
  rfl

section Free

variable {v : VehicleIx} {o : Order} {leg1 leg2 : List Nat} {e : NodeEntry} {s : State} (h : Free v s)
  (hlegs : s.legsFrom (s.vehicle v).endLoc o.pickup o.drop = (.clear leg1, .clear leg2))
  (hdrop : s.dropBlocked o.drop = false) (he : s.vehicleEntry? v = some e)

include h hlegs hdrop he

theorem forward_withQueued_of_room (hroom : s.ltu.normal.length < Config.normalSlots) (hsrc : o.source = .upper) :
    (s.withQueued v o).forward v = (s.withForwarded v (routed o leg1 leg2)).placeNormal
      ⟨e.addr, o.reply, clsMove, forwardedMoveBody (routed o leg1 leg2) e.addr⟩ := by
  have hltu : (s.withForwarded v (routed o leg1 leg2)).ltu = s.ltu := (moves_withForwarded ..).same .ltu (by decide)
  have hentry := (entry_withForwarded v (routed o leg1 leg2) s).trans he
  rw [forward_of_free h hlegs hdrop, sendMove_of_room (o := routed o leg1 leg2) hentry (by rw [hltu]; exact hroom) hsrc]
  rfl

/-- Floor normal full: the MOVE is dropped, the order undone, and the vehicle IDLE where it stands (R49). -/
theorem forward_withQueued_of_full (hfull : Config.normalSlots ≤ s.ltu.normal.length) (hpointer : (s.vehicle v).pointer = 0)
    (hseg : (s.seg (s.vehicle v).currentSeg).capacity = 0) (hwaits : s.waitsFor? v = none) (hclaim : o.claim ≠ .held)
    (hlink : o.link = none) :
    (s.withQueued v o).forward v =
      ((s.raise .queueOverflow 2).setVehicle v { s.vehicle v with endLoc := restLoc (s.vehicle v) }).refuseTo o.reply o.tag
        e.addr .queueFull := by
  have hraise := LinkOp.raise .queueOverflow 2
  let y : Vehicle := { s.vehicle v with
    outstanding := [routed o leg1 leg2], path := (leg1 ++ leg2).map fun n => ⟨n, o.tag⟩, pointer := 0
    endLoc := o.drop, status := .busy }
  have hforwarded : s.withForwarded v (routed o leg1 leg2) = s.setVehicle v y := by
    rw [withForwarded, seat_of_full (by rw [vehicle_setVehicle_self]; exact hseg.trans_le (Nat.zero_le _)),
      updVehicle_setVehicle]
    rfl
  have hended : ((s.withForwarded v (routed o leg1 leg2)).raise .queueOverflow 2).endOutstanding v (routed o leg1 leg2) .failed =
      (s.raise .queueOverflow 2).setVehicle v
        { y with outstanding := [], path := [], pointer := 0, endLoc := restLoc (s.vehicle v) } := by
    rw [hforwarded, hraise.setVehicle, endOutstanding_of_lone (o := routed o leg1 leg2) (s := (s.raise .queueOverflow 2).setVehicle v y)
      (by rw [vehicle_setVehicle_self]) ((hraise.waitsFor?_eq s v).trans hwaits) (by rw [vehicle_setVehicle_self]; exact h.claims) hclaim hlink,
      vehicle_setVehicle_self, setVehicle_setVehicle]
    rfl
  have hidle : ((s.raise .queueOverflow 2).setVehicle v
      { y with outstanding := [], path := [], pointer := 0, endLoc := restLoc (s.vehicle v) }).fallsIdle v = true := by
    simp [fallsIdle, y]
  have hback : { y with outstanding := [], path := [], pointer := 0, endLoc := restLoc (s.vehicle v), status := .idle } =
      { s.vehicle v with endLoc := restLoc (s.vehicle v) } := by
    have hnone := h.none
    have hpath := h.path
    have hidle := h.idle
    simp only [y]
    generalize s.vehicle v = x at hnone hpath hidle hpointer
    obtain ⟨⟩ := x
    subst hnone hpath hidle hpointer
    rfl
  have hentry := (entry_withForwarded v (routed o leg1 leg2) s).trans he
  have hltu : (s.withForwarded v (routed o leg1 leg2)).ltu = s.ltu := by rw [hforwarded]; rfl
  rw [forward_of_free h hlegs hdrop, sendMove_of_full (o := routed o leg1 leg2) hentry (by rw [hltu]; exact hfull), hended, if_pos hidle, id,
    settle_of_busy (by rw [vehicle_setVehicle_self]) (by rw [vehicle_setVehicle_self]), vehicle_setVehicle_self,
    setVehicle_setVehicle, hback]
  rfl

end Free

end State

end Sys2Proof.Machine
end

section
/-! PROOFS. The forwarding of an admitted order, its failures, and the CANCEL, as the commands give them (R49, R80, R85). -/

namespace Sys2Proof.Machine

theorem locAt_of_kind {l : List Byte} {i : Nat} {k : LocKind} (h : LocKind.ofByte (u8 l i) = some k) :
    locAt l i = some ⟨k, u16 l (i + 1)⟩ := by
  rw [locAt, h]
  rfl

theorem eq_num_of_toIx {k n : Nat} {i : Fin k} (h : toIx k n = some i) : n = num i := by
  obtain ⟨hn, hi⟩ := Option.dite_none_right_eq_some.1 h
  rw [num, ← Option.some.inj hi]
  exact (Nat.sub_add_cancel hn.1).symm

theorem Loc.eq_standLoc {l : Loc} {st : StandIx} (h : l.stand? = some st) : l = standLoc st := by
  obtain ⟨hkind, hix⟩ := Option.ite_none_right_eq_some.1 h
  rw [standLoc, ← eq_num_of_toIx hix, ← hkind]

namespace State

theorem noParity_setPlace {s : State} (p : Nat) (x : Place) (h : s.noParity) : (s.setPlace p x).noParity := by
  obtain ⟨hrolls, hplaces, hroutes⟩ := h
  exact ⟨hrolls, by simp [setPlace, hplaces], hroutes⟩

theorem homeOf?_of_home {l : Loc} (hkind : l.kind = .home) (h1 : 1 ≤ l.num) (h16 : l.num ≤ 16) :
    homeOf? (some l) = some l.num := if_pos ⟨hkind, h1, h16⟩

/-- An MWRITE of one record of VEHICLES. -/
theorem vehicleWrites_of_one {t : Telegram} {v : VehicleIx} (hcount : reqCount t = 1) (hindex : reqIndex t = num v) :
    vehicleWrites t = [⟨v, homeOf? (locAt t.body 4), (u8 t.body 7).toNat, (u8 t.body 8).getLsbD 2, (u8 t.body 8).getLsbD 1⟩] := by
  have hix : toIx 16 (reqIndex t + 0) = some v := toIx_of_eq_num ((Nat.add_zero _).trans hindex)
  rw [vehicleWrites, hcount, List.range_one, List.filterMap_cons_some, List.filterMap_nil]
  rw [hix]
  rfl

theorem clampTo_of_within {lo hi n : Nat} (h1 : lo ≤ n) (h2 : n ≤ hi) : clampTo lo hi n = n := by
  simp only [clampTo]
  omega

/-! ### A hold queue that fails when its vehicle is resumed -/

/-- The only queued order of a vehicle just resumed fails at forwarding: a REFUSE, and the vehicle with an empty queue. -/
theorem takeUp_of_failed {v : VehicleIx} {o : Order} {reason : Reason} {s : State} (hmode : s.sfu.mode = .normal)
    (hpar : s.noParity) (hwaits : s.waitsFor? v = none) (hidle : (s.vehicle v).status = .idle)
    (hcauses : (s.vehicle v).causes.none = true) (hnone : (s.vehicle v).outstanding = []) (hwindow : 0 < (s.vehicle v).window)
    (hqueue : (s.vehicle v).queue = [o]) (hlink : o.link = none) (hclaim : o.claim ≠ .held)
    (hfails : legsReason (s.legsFrom (s.vehicle v).endLoc o.pickup o.drop).1
      (s.legsFrom (s.vehicle v).endLoc o.pickup o.drop).2 (s.dropBlocked o.drop) = some reason) :
    s.takeUp v =
      (s.setVehicle v { s.vehicle v with queue := [] }).refuseTo o.reply o.tag (s.vehicleAddr v) reason := by
  have hhead := forwardable?_of_free (running_of_normal hmode) (.inl hidle) hcauses (by rw [hnone]; exact hwindow) hqueue
  have hempty : (s.vehicle v).queue.filter (fun y => y.tag ≠ o.tag) = [] := by simp [hqueue]
  have hlen : (s.vehicle v).queue.length = 1 := by rw [hqueue]; rfl
  rw [takeUp, serveWaiting_of_none hwaits, if_pos hidle, tryCalls_of_normal hmode, forwardAndTell, hlen,
    forwardLoop_of_head hhead, forwardLoop, forwardHead_of_failed hpar hfails, endQueued_of_unlinked s hclaim hlink, hempty]

theorem mode_sendRelease (v : VehicleIx) (s : State) : (s.sendRelease v).sfu.mode = s.sfu.mode :=
  (Moves.sendRelease v s).same .mode (by decide)

theorem running_eq_of_mode {a b : State} (h : b.sfu.mode = a.sfu.mode) : b.running = a.running := by
  rw [running, running, h]

theorem causesEmptied_of_works {v : VehicleIx} {s : State} (hrun : s.running = true)
    (hoff : (s.vehicle v).status ≠ .off) (hlost : (s.vehicle v).status ≠ .lost) :
    s.causesEmptied v = (s.sendRelease v).takeUp v := by
  have hx := (LinkOp.sendRelease v).vehicle_eq s v
  have hrun' := (running_eq_of_mode (mode_sendRelease v s)).trans hrun
  rw [causesEmptied, if_pos ⟨hrun, hoff, hlost⟩, resumeVehicle, hx, if_pos ⟨hrun', hoff, hlost⟩]

theorem rangeOk_one {i greatest : Nat} (h1 : 1 ≤ i) (h2 : i ≤ greatest) : rangeOk i 1 greatest = true :=
  decide_eq_true ⟨h1, Nat.add_le_add_right h2 1⟩

/-- Outside CONFIG a record of VEHICLES that repeats the home and the window changes the halt causes alone. -/
theorem writeVehicles_of_repeated {t : Telegram} {v : VehicleIx} {s : State} (hcount : reqCount t = 1)
    (hindex : reqIndex t = num v) (hhome : homeOf? (locAt t.body 4) = some (s.vehicle v).home)
    (hwindow : clampTo 1 3 (u8 t.body 7).toNat = (s.vehicle v).window) :
    s.writeVehicles t = (s.applyVehicleWrite ⟨v, homeOf? (locAt t.body 4), (u8 t.body 7).toNat, (u8 t.body 8).getLsbD 2,
        (u8 t.body 8).getLsbD 1⟩).answered
      (if clampTo 1 3 (u8 t.body 7).toNat ≠ (u8 t.body 7).toNat then .clamped else .ok) := by
  have hrange : rangeOk (reqIndex t) (reqCount t) 16 = true := by
    rw [hcount, hindex]
    exact rangeOk_one (Nat.le_add_left 1 _) v.isLt
  have hws := vehicleWrites_of_one hcount hindex
  rw [hhome] at hws ⊢
  simp only [writeVehicles, hws, hrange, List.any_cons, List.any_nil, List.foldl_cons, List.foldl_nil, hwindow,
    Option.isNone_some, Bool.or_false, ne_eq, not_true_eq_false, or_self, decide_false, Bool.false_eq_true, and_false,
    if_false, Bool.not_true, decide_eq_true_eq]

/-- A record that takes MANAGEMENT, the only halt cause, from a vehicle. -/
theorem applyVehicleWrite_of_resumed {w : VehicleWrite} {s : State} (hmode : s.sfu.mode ≠ .config)
    (hw : w.management = false) (hcauses : (s.vehicle w.vehicle).causes = ⟨false, false, true, false⟩) :
    s.applyVehicleWrite w =
      (s.setVehicle w.vehicle { s.vehicle w.vehicle with causes := ⟨false, false, false, false⟩ }).causesEmptied w.vehicle := by
  unfold applyVehicleWrite
  simp only [if_neg hmode, hcauses, hw, Bool.false_and, Bool.false_eq_true, if_false]
  exact if_pos rfl

theorem vehicleAddr_of_entry {v : VehicleIx} {e : NodeEntry} {s : State} (h : s.vehicleEntry? v = some e) :
    s.vehicleAddr v = e.addr := by
  simp only [vehicleAddr, h]

end State

/-- A free vehicle of an allowed order is free in any state that has its record, the mode and good parity. -/
theorem free_of_allowed {v : VehicleIx} {dst : Byte} {rest : List Byte} {pickup drop : Loc} {s u : State}
    (h : MoveAllowed v dst rest pickup drop s) (hidle : (s.vehicle v).status = .idle)
    (hcauses : (s.vehicle v).causes.none = true) (hqueue : (s.vehicle v).queue = []) (hnone : (s.vehicle v).outstanding = [])
    (hpath : (s.vehicle v).path = []) (hclaims : (s.vehicle v).claims = []) (hwindow : 0 < (s.vehicle v).window)
    (hmode : u.sfu.mode = s.sfu.mode) (hgood : u.noParity) (hx : u.vehicle v = s.vehicle v) : State.Free v u := by
  obtain ⟨-, -, -, hnormal, -⟩ := h
  exact ⟨running_of_normal (hmode.trans hnormal), hgood, by rw [hx]; exact hidle, by rw [hx]; exact hcauses,
    by rw [hx]; exact hqueue, by rw [hx]; exact hnone, by rw [hx]; exact hpath, by rw [hx]; exact hclaims,
    by rw [hx]; exact hwindow⟩

section Forwarded

variable {v : VehicleIx} {dst : Byte} {rest : List Byte} {pickup drop : Loc} {leg1 leg2 : List Nat} {e : NodeEntry} {s : State}
  (src : Byte) (h : MoveAllowed v dst rest pickup drop s) (hpar : s.noParity)
  (hroll : s.refusedRoll v (u32 rest 8) pickup drop = none)
  (hcall : u32 rest 8 ≠ 0 → ∀ st, drop.stand? = some st → s.call? st = none)
  (hidle : (s.vehicle v).status = .idle) (hcauses : (s.vehicle v).causes.none = true) (hqueue : (s.vehicle v).queue = [])
  (hnone : (s.vehicle v).outstanding = []) (hpath : (s.vehicle v).path = []) (hclaims : (s.vehicle v).claims = [])
  (hwindow : 0 < (s.vehicle v).window) (he : s.vehicleEntry? v = some e)
  (hlegs : s.legsFrom (s.vehicle v).endLoc pickup drop = (.clear leg1, .clear leg2)) (hdrop : s.dropBlocked drop = false)

include h hpar hroll hcall hqueue hlegs hdrop

/-- The order of a vehicle with an empty queue passes its checks and is considered with its drop claim taken. -/
theorem exec_moveNew_considered {hold : DropHold} (hhold : s.newDropHold (u32 rest 8) drop = hold) :
    exec (.moveNew dst src rest) s = .next (State.forward v (if hold = .held then
      ((s.setLinkCount 0).withQueued v (.admitted .upper src (u8 rest 0) pickup drop (u32 rest 8) hold)).setDropClaim drop
        (some ⟨v, u8 rest 0⟩)
      else (s.setLinkCount 0).withQueued v (.admitted .upper src (u8 rest 0) pickup drop (u32 rest 8) hold))) := by
  have hok : legsReason (s.lookupLegs (s.plannedStart v) pickup drop).1 (s.lookupLegs (s.plannedStart v) pickup drop).2.1
      (s.dropBlocked drop) = none := by
    rw [State.lookupLegs_of_noParity hpar, State.plannedStart_of_nil hqueue, hlegs, hdrop]
    exact legsReason_none (Option.some_ne_none _) (Option.some_ne_none _)
  rw [exec_moveNew_of_accepted src h hpar hroll hok, State.accept_of_unlinked (s := s.setLinkCount 0) hhold hcall]

include hidle hcauses hnone hpath hclaims hwindow he

/-- With room in Floor normal, the order is forwarded in the state with its drop claim taken. -/
theorem exec_moveNew_forwarded (hroom : s.ltu.normal.length < Config.normalSlots) {hold : DropHold}
    (hhold : s.newDropHold (u32 rest 8) drop = hold) {u : State}
    (hu : ∀ o, (if hold = .held then ((s.setLinkCount 0).withQueued v o).setDropClaim drop (some ⟨v, u8 rest 0⟩)
      else (s.setLinkCount 0).withQueued v o) = u.withQueued v o)
    (hmode : u.sfu.mode = s.sfu.mode) (hgood : u.noParity) (hx : u.vehicle v = s.vehicle v)
    (hltu : u.ltu.normal = s.ltu.normal) (hnd : u.nd = s.nd)
    (hsame : u.legsFrom (s.vehicle v).endLoc pickup drop = s.legsFrom (s.vehicle v).endLoc pickup drop)
    (hblocked : u.dropBlocked drop = s.dropBlocked drop) :
    exec (.moveNew dst src rest) s = .next
      ((u.withForwarded v (State.routed (.admitted .upper src (u8 rest 0) pickup drop (u32 rest 8) hold) leg1 leg2)).placeNormal
        ⟨e.addr, src, clsMove,
          forwardedMoveBody (State.routed (.admitted .upper src (u8 rest 0) pickup drop (u32 rest 8) hold) leg1 leg2) e.addr⟩) := by
  have hfree := free_of_allowed h hidle hcauses hqueue hnone hpath hclaims hwindow hmode hgood hx
  have hentry : u.vehicleEntry? v = some e := by rw [State.vehicleEntry?, hnd]; exact he
  rw [exec_moveNew_considered src h hpar hroll hcall hqueue hlegs hdrop hhold, hu,
    State.forward_withQueued_of_room
      (o := .admitted .upper src (u8 rest 0) pickup drop (u32 rest 8) hold) hfree (by rw [hx]; exact hsame.trans hlegs)
      (hblocked.trans hdrop) hentry (by rw [hltu]; exact hroom) rfl]
  rfl

end Forwarded

/-- Settles O13: a free vehicle's order is forwarded or undone by the room in Floor normal, a queued one fails by its legs. -/
theorem orderIsForwardedOrFails : Obligations.OrderIsForwardedOrFails := by
  refine ⟨fun v dst src rest pickup drop leg e s hallowed hpar hzero => ?travel,
    ⟨fun v dst src rest pickup drop leg1 leg2 e s hallowed hpar hne => ?roll, fun v s => ?seat⟩,
    fun v dst src rest pickup drop leg e s hallowed hpar hzero => ?full,
    fun v t rest o e s hready hcount hindex hmode hpar => ?resumed, fun v s => State.forwardAndTell_of_waits⟩
  case travel =>
    intro x hidle hcauses hqueue hnone hpath hclaims hwindow hentry hroom hpickup hleg hdrop o u
    have hlegs : s.legsFrom x.endLoc pickup drop = (.clear [], .clear leg) := by
      rw [State.lookup_of_noParity hpar] at hleg
      rw [State.legsFrom, if_pos hpickup]
      exact congrArg _ hleg
    have horder : State.routed (.admitted .upper src (u8 rest 0) pickup drop (u32 rest 8) .none) [] leg = o := by
      simp only [State.routed, Order.admitted, if_pos hpickup, hzero]
      rfl
    have hexec := exec_moveNew_forwarded src hallowed hpar (by rw [hzero]; exact State.refusedRoll_of_travel)
      (fun h => absurd hzero h) hidle hcauses hqueue hnone hpath hclaims hwindow hentry hlegs hdrop hroom
      (hold := .none) (by rw [hzero]; exact State.newDropHold_of_travel) (u := s.setLinkCount 0)
      (fun _ => if_neg (by decide)) rfl hpar rfl rfl rfl rfl rfl
    rw [horder] at hexec
    obtain ⟨l, hvehicle⟩ := State.vehicle_withForwarded v o (s.setLinkCount 0)
    have hltu : ((s.setLinkCount 0).withForwarded v o).ltu.normal = s.ltu.normal := congrArg Ltu.normal
      ((State.moves_withForwarded v o (s.setLinkCount 0)).same .ltu (by decide))
    have hplaced := State.placeNormal_of_room (t := ⟨e.addr, src, 0x11, forwardedMoveBody o e.addr⟩)
      (s := (s.setLinkCount 0).withForwarded v o) (by rw [hltu]; exact hroom)
    have hkept : (((s.setLinkCount 0).withForwarded v o).placeNormal
        ⟨e.addr, src, 0x11, forwardedMoveBody o e.addr⟩).vehicle v = ((s.setLinkCount 0).withForwarded v o).vehicle v := by
      rw [hplaced]
      rfl
    refine ⟨_, hexec, rfl, ?_, ?_, ?_, ?_⟩
    · exact (congrArg (fun y : State => y.ltu.normal) hplaced).trans (congrArg (· ++ _) hltu)
    · exact (congrArg Vehicle.status (hkept.trans hvehicle))
    · exact (congrArg Vehicle.outstanding (hkept.trans hvehicle))
    · exact (congrArg Vehicle.queue (hkept.trans hvehicle)).trans hqueue
  case roll =>
    intro x hidle hcauses hqueue hnone hpath hclaims hwindow hentry hroom hroll hcall hleg1 hleg2 hdrop o answer
    have hcauses' : x.causes.none = true := by rw [hcauses]; rfl
    rw [State.lookupLegs_of_noParity hpar] at hleg1 hleg2
    have hlegs : s.legsFrom x.endLoc pickup drop = (.clear leg1, .clear leg2) := Prod.ext hleg1 hleg2
    have hcall' : u32 rest 8 ≠ 0 → ∀ st, drop.stand? = some st → s.call? st = none :=
      fun _ st hst => hcall st (Loc.eq_standLoc hst)
    have forwarded := fun hold => exec_moveNew_forwarded src hallowed hpar hroll hcall' hidle hcauses' hqueue hnone hpath hclaims
      hwindow hentry hlegs hdrop hroom (hold := hold)
    refine ⟨fun hkind => ?_, fun hplace => ?_, fun st hst => ⟨fun harm => ?_, fun b harm => ?_⟩⟩
    · exact forwarded .none (State.newDropHold_of_keepless hkind s) (u := s.setLinkCount 0) (fun _ => if_neg (by decide)) rfl hpar
        rfl rfl rfl rfl rfl
    · exact forwarded .held (State.newDropHold_place hne hplace)
        (u := (s.setLinkCount 0).setPlace drop.num { s.place drop.num with claim := some ⟨v, u8 rest 0⟩ })
        (fun o => (if_pos rfl).trans (State.setDropClaim_place (s := (s.setLinkCount 0).withQueued v o) _ hplace hpar)) rfl (State.noParity_setPlace _ _ hpar) rfl rfl rfl
        (State.legsFrom_claimed drop.num ⟨v, u8 rest 0⟩ _ _ _ (s.setLinkCount 0))
        (State.dropBlocked_claimed drop.num ⟨v, u8 rest 0⟩ drop (s.setLinkCount 0))
    · subst hst
      exact forwarded .held (State.newDropHold_emptyArm hne harm)
        (u := (s.setLinkCount 0).setStand st { s.stand st with claim := some ⟨v, u8 rest 0⟩ })
        (fun o => (if_pos rfl).trans (State.setDropClaim_standLoc st _ _)) rfl hpar rfl rfl rfl rfl rfl
    · subst hst
      exact forwarded .pending (State.newDropHold_butt hne harm) (u := s.setLinkCount 0) (fun _ => if_neg (by decide)) rfl hpar
        rfl rfl rfl rfl rfl
  case seat =>
    intro x c
    refine ⟨State.seat_of_full, fun hroom hclaims => ?_⟩
    intro seated
    refine ⟨fun e he hseg => ?_, fun haway => ?_⟩
    · rw [State.seat_of_room hroom, State.takeClaim_first _ _ hclaims, State.occupiedPos_of_at he hseg]
    · rw [State.seat_of_room hroom, State.takeClaim_first _ _ hclaims, State.occupiedPos_of_away haway]
  case full =>
    intro x hidle hcauses hqueue hnone hpath hclaims hpointer hwindow hentry hfull hwaits hseg hpickup hleg hdrop
    have hlegs : s.legsFrom x.endLoc pickup drop = (.clear [], .clear leg) := by
      rw [State.lookup_of_noParity hpar] at hleg
      rw [State.legsFrom, if_pos hpickup]
      exact congrArg _ hleg
    have htravel : s.refusedRoll v (u32 rest 8) pickup drop = none := by rw [hzero]; exact State.refusedRoll_of_travel
    have hcall : u32 rest 8 ≠ 0 → ∀ st, drop.stand? = some st → s.call? st = none := fun h => absurd hzero h
    have hfree := free_of_allowed hallowed hidle hcauses hqueue hnone hpath hclaims hwindow
      (u := s.setLinkCount 0) rfl hpar rfl
    rw [exec_moveNew_considered src hallowed hpar htravel hcall hqueue hlegs hdrop
        (hold := .none) (by rw [hzero]; exact State.newDropHold_of_travel),
      if_neg (by decide), State.forward_withQueued_of_full
        (o := .admitted .upper src (u8 rest 0) pickup drop (u32 rest 8) .none) hfree hlegs hdrop hentry hfull hpointer hseg hwaits
        (fun h : DropHold.none = .held => nomatch h) rfl]
    rfl
  case resumed =>
    intro x hkind hhome h1 h16 hwin hw1 hw3 hbit hcauses hidle hnone hqueue hentry hwaits hlink hclaim released legs failed
    have hfield : locAt t.body 4 = some ⟨.home, x.home⟩ := by
      rw [← hhome]
      exact locAt_of_kind (by rw [hkind]; rfl)
    have hown : State.homeOf? (locAt t.body 4) = some x.home := by
      rw [hfield]
      exact State.homeOf?_of_home (l := ⟨.home, x.home⟩) rfl h1 h16
    have hclamp : clampTo 1 3 (u8 t.body 7).toNat = (u8 t.body 7).toNat :=
      State.clampTo_of_within (by rw [hwin]; exact hw1) (by rw [hwin]; exact hw3)
    have hrelease := LinkOp.sendRelease v
    have hx : released.vehicle v = { x with causes := ⟨false, false, false, false⟩ } :=
      (hrelease.vehicle_eq _ v).trans (State.vehicle_setVehicle_self ..)
    have hnormal : released.sfu.mode = .normal := (State.mode_sendRelease v _).trans hmode
    have hlegs : released.legsFrom (released.vehicle v).endLoc o.pickup o.drop = s.legsFrom x.endLoc o.pickup o.drop := by
      rw [hx]
      exact State.legsFrom_congr (a := s) (by rw [hrelease.tmc_eq]; rfl) (by rw [hrelease.tcu_eq]; rfl)
        (fun n => by rw [hrelease.place_eq]; rfl) ..
    have hblocked : released.dropBlocked o.drop = s.dropBlocked o.drop := by
      rw [State.dropBlocked, hrelease.place_eq]
      rfl
    have hfailed {reason : Reason} (h : legsReason (s.legsFrom x.endLoc o.pickup o.drop).1
        (s.legsFrom x.endLoc o.pickup o.drop).2 (s.dropBlocked o.drop) = some reason) : failed reason := by
      have htake := State.takeUp_of_failed (v := v) (o := o) (reason := reason) (s := released) hnormal
        (hrelease.noParity_eq _ hpar) ((hrelease.waitsFor?_eq _ v).trans hwaits) (by rw [hx]; exact hidle) (by rw [hx]; rfl)
        (by rw [hx]; exact hnone) (by rw [hx]; exact hw1) (by rw [hx]; exact hqueue) hlink hclaim
        (by rw [hlegs, hblocked]; exact h)
      have haddr : released.vehicleAddr v = e.addr :=
        State.vehicleAddr_of_entry ((hrelease.entry_eq _ v).trans hentry)
      rw [hx, haddr] at htake
      have hidle' : x.status ≠ .off ∧ x.status ≠ .lost := by simp [x, hidle]
      have hwrite := State.writeVehicles_of_repeated (t := t) (v := v) (s := s.popped rest) hcount hindex hown
        (hclamp.trans hwin)
      have happly := State.applyVehicleWrite_of_resumed
        (w := ⟨v, State.homeOf? (locAt t.body 4), (u8 t.body 7).toNat, (u8 t.body 8).getLsbD 2, (u8 t.body 8).getLsbD 1⟩)
        (s := s.popped rest) (by rw [show (s.popped rest).sfu.mode = .normal from hmode]; decide) hbit hcauses
      rw [State.causesEmptied_of_works (by exact running_of_normal hmode)
        (by rw [State.vehicle_setVehicle_self]; exact hidle'.1) (by rw [State.vehicle_setVehicle_self]; exact hidle'.2)] at happly
      rw [happly, if_neg (not_not_intro hclamp)] at hwrite
      exact served hready (hwrite.trans (congrArg (Prod.mk _) htake))
    rw [show legs = _ from State.lookupLegs_of_noParity hpar ..]
    exact ⟨fun h => hfailed (legsReason_missing _ h), fun hl hm h => hfailed (legsReason_blocked hl hm h)⟩

end Sys2Proof.Machine
end

section
/-! PROOFS. The CANCEL (R85). -/

namespace Sys2Proof.Machine

namespace State

section Cancel

variable {t : Telegram} {v : VehicleIx} {s : State} (hmode : s.sfu.mode = .normal) (hv : s.vehicleAt? (u8 t.body 2) = some v)

include hmode

theorem cancelOrder_of_unknown (h : s.vehicleAt? (u8 t.body 2) = none) :
    s.cancelOrder t = s.refuseTo t.src (u8 t.body 1) (u8 t.body 2) .unknownVehicle := by
  simp only [cancelOrder, running_of_normal hmode, hmode, h, Bool.not_true, Bool.false_eq_true, if_false, reduceCtorEq]

include hv

theorem cancelOrder_of_badTag (h : u8 t.body 1 = 0) :
    s.cancelOrder t = s.refuseTo t.src (u8 t.body 1) (u8 t.body 2) .badTag := by
  simp only [cancelOrder, running_of_normal hmode, hmode, hv, if_pos h, Bool.not_true, Bool.false_eq_true, if_false,
    reduceCtorEq]

variable (htag : u8 t.body 1 ≠ 0)

include htag

theorem cancelOrder_of_queued {o : Order} (h : ((s.vehicle v).queue.find? fun o => o.tag = u8 t.body 1) = some o) :
    s.cancelOrder t = (s.endQueuedOrder v o).vdoneOnBehalf v o := by
  simp only [cancelOrder, running_of_normal hmode, hmode, hv, if_neg htag, h, Bool.not_true, Bool.false_eq_true, if_false,
    reduceCtorEq]

theorem cancelOrder_of_notQueued (h : ∀ o ∈ (s.vehicle v).queue, o.tag ≠ u8 t.body 1) :
    s.cancelOrder t =
      if (s.vehicle v).outstanding.any fun o => o.tag = u8 t.body 1 then
        if s.normalRoom then s.placeNormal t
        else (s.raise .queueOverflow 2).refuseTo t.src (u8 t.body 1) (u8 t.body 2) .queueFull
      else s.refuseTo t.src (u8 t.body 1) (u8 t.body 2) .notFound := by
  have hnone : ((s.vehicle v).queue.find? fun o => o.tag = u8 t.body 1) = none :=
    List.find?_eq_none.2 fun o ho => by simpa using h o ho
  simp only [cancelOrder, running_of_normal hmode, hmode, hv, if_neg htag, hnone, Bool.not_true, Bool.false_eq_true, if_false,
    reduceCtorEq]

end Cancel

end State

/-- Settles O14: a CANCEL by the first check that fails, then by where the order stands. -/
theorem cancelEndsOrPassesOn : Obligations.CancelEndsOrPassesOn := by
  intro dst src rest s hpassed hlen hdst u tag answer refused
  let t : Telegram := ⟨dst, src, clsMove, 2 :: rest⟩
  have answers {y : State} (h : u.cancelOrder t = y) : answer y := by
    show exec _ _ = _
    rw [exec_moveCancel src hpassed (by omega), State.moveTaken_cancel _ hlen hdst, h]
  have hrefuse (r : Reason) : u.refuseTo t.src (u8 t.body 1) (u8 t.body 2) r = u.refuseTo src tag dst r := by
    rw [hdst]
    rfl
  refine ⟨fun hmode => answers ?config, fun hmode => answers ?autonomous, fun hmode => ⟨fun hv => ?_, fun v hv => ?_⟩⟩
  case config =>
    have hstopped : u.running = false := not_running_of_config hmode
    rw [State.cancelOrder, if_pos (by simp [hstopped])]
    exact hrefuse _
  case autonomous =>
    have hrun : u.running = true := running_of_autonomous hmode
    rw [State.cancelOrder, if_neg (by simp [hrun]), if_pos (by exact hmode)]
    exact hrefuse _
  · rw [hdst] at hv
    exact answers ((State.cancelOrder_of_unknown (t := t) (s := u) hmode hv).trans (hrefuse _))
  intro x
  have hv' : u.vehicleAt? (u8 t.body 2) = some v := by
    rw [hdst] at hv
    exact hv
  refine ⟨fun hzero => answers ((State.cancelOrder_of_badTag (t := t) (s := u) hmode hv' hzero).trans (hrefuse _)),
    fun htag hfresh => answers ?notFound,
    fun htag o ho => ⟨answers (State.cancelOrder_of_queued (s := u) hmode hv' htag ho), fun hhalted hlink hclaim => ?queued⟩,
    fun htag hqueue hout => ?outstanding⟩
  case notFound =>
    have hout : ¬(x.outstanding.any fun o => o.tag = u8 t.body 1) = true := by
      rw [List.any_eq_true]
      rintro ⟨o, ho, htagged⟩
      exact hfresh o (List.mem_append_left _ ho) (of_decide_eq_true htagged)
    rw [State.cancelOrder_of_notQueued (s := u) hmode hv' htag fun o ho => hfresh o (List.mem_append_right _ ho),
      if_neg (by exact hout), hrefuse]
  case queued =>
    have htagged : o.tag = tag := of_decide_eq_true (List.find?_some (p := fun o : Order => decide (o.tag = tag)) ho)
    rw [State.endQueuedOrder, State.endQueued_of_unlinked u hclaim hlink, htagged, State.linkSelected_of_unlinked hlink,
      if_neg (by decide), State.forwardAndTell_of_waits (.inr (.inl (by rw [State.vehicle_setVehicle_self]; exact hhalted)))]
    rfl
  case outstanding =>
    have hany : (x.outstanding.any fun o => o.tag = u8 t.body 1) = true := by
      obtain ⟨o, ho, htagged⟩ := hout
      exact List.any_eq_true.2 ⟨o, ho, decide_eq_true htagged⟩
    have hcancel := State.cancelOrder_of_notQueued (s := u) hmode hv' htag hqueue
    rw [if_pos (by exact hany)] at hcancel
    refine ⟨fun hroom => answers ?_, fun hfull => answers ?_⟩
    · rw [hcancel, if_pos (State.normalRoom_iff.2 (by exact hroom)), State.placeNormal_of_room (s := u) hroom]
      rfl
    · have hnot : ¬u.normalRoom = true := mt State.normalRoom_iff.1 (Nat.not_lt.2 hfull)
      rw [hcancel, if_neg hnot, hdst]
      rfl

end Sys2Proof.Machine
end

section
/-! PROOFS. The phases of a run, its end, and the RUN telegrams that no watcher acts on (R42, R149, R151, R152). -/

namespace Sys2Proof.Machine

namespace State

theorem toIx_eq_none {k n : Nat} (h : n = 0 ∨ k < n) : toIx k n = none := dif_neg (by omega)

theorem watchRun_of_unused {p : PressIx} {press : Byte} {s : State} (src : Byte) (act : PressIx → State → State)
    (hpress : press.toNat = num p) (huse : s.inUse p = false) : s.watchRun src press act = s := by
  simp only [watchRun, toIx_of_eq_num hpress, huse, Bool.false_eq_true, if_false]

theorem watchRun_of_unknown {press : Byte} {s : State} (src : Byte) (act : PressIx → State → State)
    (h : press.toNat = 0 ∨ 4 < press.toNat) : s.watchRun src press act = s.raise .nodeMismatch src.toNat := by
  simp only [watchRun, toIx_eq_none h]

theorem runGate_of_config {t : Telegram} {s : State} (watch : State → State) (hbody : t.body.length ≤ Config.maxBody)
    (h : Passed t.dst s) (hmode : s.sfu.mode = .config) : s.runGate t watch = (s.setLinkCount 0).placeNormal t := by
  unfold runGate
  rw [upperGate_of_passed _ hbody h, if_neg (by rw [not_running_of_config (s := s.setLinkCount 0) hmode]; decide)]

theorem runGood_of_none {p : PressIx} {s : State} (h : s.run? p = none) : s.runGood p = s := by
  simp only [runGood, h]

theorem runGood_of_some {p : PressIx} {r : Run} {s : State} (h : s.run? p = some r) :
    s.runGood p =
      (s.setRun p (some { r with phase := .good })).updPress p fun x => { x with blockCopies := 0, blockWaste := 0 } := by
  simp only [runGood, h]

theorem updRun_of_none {p : PressIx} {s : State} (f : Run → Run) (h : s.run? p = none) : s.updRun p f = s := by
  have hself : s.scu.runs.set p none = s.scu.runs := by
    rw [← h]
    exact Vector.set_getElem_self ..
  rw [updRun, h, Option.map_none, setRun, hself]

theorem updRun_of_some {p : PressIx} {r : Run} {s : State} (f : Run → Run) (h : s.run? p = some r) :
    s.updRun p f = s.setRun p (some (f r)) := by
  rw [updRun, h, Option.map_some]

theorem closeRun_of_none {p : PressIx} {s : State} (c : CloseCause) (h : s.run? p = none) : s.closeRun p c = s := by
  simp only [closeRun, h]

theorem closeRun_of_some {p : PressIx} {r : Run} {s : State} (c : CloseCause) (h : s.run? p = some r) :
    s.closeRun p c = (s.pushClosed ⟨p, r, s.clock, c⟩).setRun p none := by
  simp only [closeRun, h]

theorem askSwap_of_unready {p : PressIx} {s : State} (h : s.pls.ready[p] = false) :
    s.askSwap p = s.raise .planNotReady (num p) :=
  if_neg (by rw [h]; decide)

end State

section RunTelegrams

variable {dst src press : Byte} {run : Half} {edition : Byte} {s : State} (h : Passed dst s)

/-- The RUN telegrams as their commands receive them. -/
def runTelegram (dst src press action : Byte) (run : Half) (edition : Byte) : Telegram :=
  ⟨dst, src, clsRun, runBody press action run edition⟩

theorem runTelegram_fits (dst src press action : Byte) (run : Half) (edition : Byte) :
    (runTelegram dst src press action run edition).body.length ≤ Config.maxBody := by
  simp [runTelegram, runBody, be16, Config.maxBody]

include h

/-- A RUN telegram is forwarded after what its watcher does. -/
theorem awake_runGate (hrun : s.running = true) (action : Byte) (watch : State → State) :
    awake (State.runGate (runTelegram dst src press action run edition) watch) s =
      .next ((watch (s.setLinkCount 0)).placeNormal (runTelegram dst src press action run edition)) := by
  rw [awake_of_rstHigh _ h.1, State.runGate_of_running watch (runTelegram_fits ..) h hrun]

theorem awake_runGate_of_config (hmode : s.sfu.mode = .config) (action : Byte) (watch : State → State) :
    awake (State.runGate (runTelegram dst src press action run edition) watch) s =
      .next ((s.setLinkCount 0).placeNormal (runTelegram dst src press action run edition)) := by
  rw [awake_of_rstHigh _ h.1, State.runGate_of_config watch (runTelegram_fits ..) h hmode]

/-- Nothing is done for a press not in use, whatever the mode. -/
theorem awake_runGate_of_unused {p : PressIx} (hpress : press.toNat = num p) (huse : s.inUse p = false) (action : Byte)
    (act : PressIx → State → State) :
    awake (State.runGate (runTelegram dst src press action run edition) (State.watchRun src press act)) s =
      .next ((s.setLinkCount 0).placeNormal (runTelegram dst src press action run edition)) := by
  rw [awake_of_rstHigh _ h.1, State.runGate, State.upperGate_of_passed _ (runTelegram_fits ..) h,
    State.watchRun_of_unused (s := s.setLinkCount 0) src act hpress huse, ite_self]

end RunTelegrams

/-- Settles O16: the RUN telegrams by the open run, and those that are only forwarded. -/
theorem runPhasesEndAndForwarding : Obligations.RunPhasesEndAndForwarding := by
  refine ⟨fun p dst src press run edition s hpassed hrun hpress huse => ?watched,
    fun dst src press run edition s hpassed => ?forwarded⟩
  case watched =>
    intro sent u good plate ended
    have watched (action : Byte) (act : PressIx → State → State) :
        awake (State.runGate (runTelegram dst src press action run edition) (State.watchRun src press act)) s =
          .next ((act p u).placeNormal (sent action)) := by
      rw [awake_runGate hpassed hrun, State.watchRun_of_inUse (s := s.setLinkCount 0) src act hpress huse]
      rfl
    have hgood : good = .next ((u.runGood p).placeNormal (sent 2)) := watched 2 State.runGood
    have hplate : plate = .next (((u.runEdition p edition.toNat).askSwap p).placeNormal (sent 3)) :=
      watched 3 fun p s => (s.runEdition p edition.toNat).askSwap p
    have hended : ended = .next ((u.closeRun p .ended).placeNormal (sent 4)) := watched 4 fun p s => s.closeRun p .ended
    refine ⟨fun hnone => ⟨?_, ?_, ?_⟩, fun r hr => ⟨?_, ?_, ?_⟩, fun h => State.askSwap_of_unready (s := u) h⟩
    · rw [hgood, State.runGood_of_none (s := u) hnone]
    · rw [hplate, State.runEdition, State.updRun_of_none (s := u) _ hnone]
    · rw [hended, State.closeRun_of_none (s := u) _ hnone]
    · rw [hgood, State.runGood_of_some (s := u) hr]
      rfl
    · rw [hplate, State.runEdition, State.updRun_of_some (s := u) _ hr]
      rfl
    · rw [hended, State.closeRun_of_some (s := u) _ hr]
      rfl
  case forwarded =>
    intro sent u all
    refine ⟨fun hmode => ?_, fun p hpress huse => ?_, fun hrun hpress => ?_⟩
    · exact ⟨awake_runGate_of_config hpassed hmode 1 _, awake_runGate_of_config hpassed hmode 2 _,
        awake_runGate_of_config hpassed hmode 3 _, awake_runGate_of_config hpassed hmode 4 _⟩
    · exact ⟨awake_runGate_of_unused hpassed hpress huse 1 _, awake_runGate_of_unused hpassed hpress huse 2 _,
        awake_runGate_of_unused hpassed hpress huse 3 _, awake_runGate_of_unused hpassed hpress huse 4 _⟩
    · have unknown (action : Byte) (act : PressIx → State → State) :
          awake (State.runGate (runTelegram dst src press action run edition) (State.watchRun src press act)) s =
            .next ((u.raise .nodeMismatch src.toNat).placeNormal (sent action)) := by
        rw [awake_runGate hpassed hrun, State.watchRun_of_unknown src act hpress]
        rfl
      exact ⟨unknown 1 _, unknown 2 _, unknown 3 _, unknown 4 _⟩

end Sys2Proof.Machine
end

section
/-! PROOFS. Track claims: requests, waits, wait cycles, service and release (R58, R62 to R66, R68). -/

namespace Sys2Proof.Machine

/-! ### Reads after writes -/

theorem Table.find_erase_of_ne {α : Type} {k j : Nat} (h : j ≠ k) :
    ∀ l : List (Nat × α), Table.find? j (Table.erase k l) = Table.find? j l
  | [] => rfl
  | (i, a) :: r => by
    have ih := Table.find_erase_of_ne h r
    unfold Table.erase
    split
    case isTrue hi =>
      simp [Table.find?, hi, h.symm]
    case isFalse hi =>
      simp [Table.find?, ih]

theorem Table.get_put_of_ne {α : Type} [DecidableEq α] {d : α} {k j : Nat} (h : j ≠ k) (x : α) (l : List (Nat × α)) :
    Table.get d j (Table.put d k x l) = Table.get d j l := by
  unfold Table.get Table.put
  split
  · rw [Table.find_erase_of_ne h]
  · rw [Table.find_insert_of_any, if_neg h]

theorem Table.get_put_of_listed {α : Type} [DecidableEq α] {d x : α} (k : Nat) (h : x ≠ d) (l : List (Nat × α)) :
    Table.get d k (Table.put d k x l) = x := by
  unfold Table.get Table.put
  rw [if_neg h, Table.find_insert_of_any, if_pos rfl]
  rfl

namespace State

theorem seg_setSeg_of_ne {m n : Nat} (h : n ≠ m) (x : Segment) (s : State) : (s.setSeg m x).seg n = s.seg n :=
  Table.get_put_of_ne (d := ({} : Segment)) h x _

theorem seg_setSeg_of_listed {x : Segment} (h : x ≠ {}) (n : Nat) (s : State) : (s.setSeg n x).seg n = x :=
  Table.get_put_of_listed (d := ({} : Segment)) n h _

theorem held_ne_unlisted {x : Segment} {v : VehicleIx} (h : v ∈ x.holders) : x ≠ {} := by
  rintro rfl
  cases h

/-! ### The first entry of a path (R62) -/

theorem firstAt_eq_none {path : List PathEntry} {p n : Nat} :
    firstAt path p n = none ↔ ∀ i e, p ≤ i → path[i]? = some e → e.seg ≠ n := by
  simp only [firstAt, Option.map_eq_none_iff, List.findIdx?_eq_none_iff, decide_eq_false_iff_not]
  constructor
  · intro h i e hi he
    exact h e (List.mem_iff_getElem?.2 ⟨i - p, by rw [List.getElem?_drop, Nat.add_sub_cancel' hi, he]⟩)
  · intro h e he
    obtain ⟨j, hj⟩ := List.mem_iff_getElem?.1 he
    rw [List.getElem?_drop] at hj
    exact h _ e (Nat.le_add_right p j) hj

theorem firstAt_eq_some {path : List PathEntry} {p n i : Nat} {e : PathEntry} (hi : p ≤ i) (he : path[i]? = some e)
    (hseg : e.seg = n) (hfirst : ∀ j f, p ≤ j → j < i → path[j]? = some f → f.seg ≠ n) : firstAt path p n = some i := by
  have hidx : (path.drop p).findIdx? (fun e => decide (e.seg = n)) = some (i - p) := by
    have hget : (path.drop p)[i - p]? = some e := by rw [List.getElem?_drop, Nat.add_sub_cancel' hi, he]
    obtain ⟨hlt, hval⟩ := List.getElem?_eq_some_iff.1 hget
    refine List.findIdx?_eq_some_iff_getElem.2 ⟨hlt, by rw [hval]; exact decide_eq_true hseg, fun j hj => ?_⟩
    have hmem := List.getElem?_eq_getElem (hj.trans hlt)
    rw [List.getElem?_drop] at hmem
    simpa using hfirst _ _ (Nat.le_add_right p j) (by omega) hmem
  rw [firstAt, hidx, Option.map_some, Nat.sub_add_cancel hi]

/-! ### Halts, room and eligibility -/

theorem causes_none_iff {c : Causes} : c.none = true ↔ c = ⟨false, false, false, false⟩ := by
  obtain ⟨z, d, m, i⟩ := c
  revert z d m i
  decide

theorem zoneHalted_iff {z : ZoneIx} {s : State} : s.zoneHalted z = true ↔ (s.zone z).lost ≠ 0 ∨ (s.zone z).intruders ≠ 0 :=
  decide_eq_true_iff

theorem zoneOf?_eq_some {n : Nat} {z : ZoneIx} {s : State} :
    s.zoneOf? n = some z ↔ (s.seg n).capacity ≠ 0 ∧ (s.seg n).zone = num z := by
  have hix : toIx 8 (s.seg n).zone = some z ↔ (s.seg n).zone = num z := ⟨eq_num_of_toIx, toIx_of_eq_num⟩
  simp [zoneOf?, configured, hix]

theorem segHalted_iff {n : Nat} {s : State} : s.segHalted n = true ↔
    (s.seg n).capacity ≠ 0 ∧ ∃ z : ZoneIx, (s.seg n).zone = num z ∧ ((s.zone z).lost ≠ 0 ∨ (s.zone z).intruders ≠ 0) := by
  constructor
  · intro h
    unfold segHalted at h
    split at h
    next z hz =>
      obtain ⟨hcap, hzone⟩ := zoneOf?_eq_some.1 hz
      exact ⟨hcap, z, hzone, zoneHalted_iff.1 h⟩
    next => cases h
  · rintro ⟨hcap, z, hzone, hhalt⟩
    simp only [segHalted, zoneOf?_eq_some.2 ⟨hcap, hzone⟩]
    exact zoneHalted_iff.2 hhalt

theorem segHalted_eq_false {n : Nat} {s : State} : s.segHalted n = false ↔
    ∀ z : ZoneIx, (s.seg n).capacity ≠ 0 → (s.seg n).zone = num z → (s.zone z).lost = 0 ∧ (s.zone z).intruders = 0 := by
  rw [Bool.eq_false_iff, Ne, segHalted_iff]
  constructor
  · intro h z hcap hz
    by_contra hnot
    exact h ⟨hcap, z, hz, by tauto⟩
  · rintro h ⟨hcap, z, hz, hhalt⟩
    have := h z hcap hz
    tauto

theorem eligible_iff {v : VehicleIx} {s : State} : s.eligible v = true ↔
    (s.vehicle v).causes = ⟨false, false, false, false⟩ ∧ (s.vehicle v).status ≠ .lost ∧
      (s.vehicle v).claims.length < s.tcu.claimDepth := by
  simp only [eligible, Bool.and_eq_true, causes_none_iff, decide_eq_true_eq, and_assoc]

theorem hasRoom_iff {n : Nat} {s : State} : s.hasRoom n = true ↔ (s.seg n).holders.length < (s.seg n).capacity :=
  decide_eq_true_iff

/-! ### Requests (R62) -/

/-- A claim granted: in the holder list, in its place in the claim list, and told. -/
theorem grantClaim_of_firstAt {v : VehicleIx} {n : Nat} {pos : Option Nat} {s : State}
    (h : firstAt (s.vehicle v).path (s.vehicle v).pointer n = pos) :
    s.grantClaim v n = ((s.setSeg n { s.seg n with
        holders := (s.seg n).holders ++ [v], waiters := (s.seg n).waiters.filter (· ≠ v) }).setVehicle v
      { s.vehicle v with claims := insertClaim ⟨n, pos⟩ (s.vehicle v).claims }).sendGrant v n .granted := by
  subst h
  rfl

section Request

variable {v : VehicleIx} {n : Nat} {s : State}

theorem request_of_halted (h : (s.vehicle v).causes ≠ ⟨false, false, false, false⟩) :
    s.request v n = s.sendGrant v n .halted :=
  if_pos (by rw [Bool.not_eq_true', Bool.eq_false_iff]; exact mt causes_none_iff.1 h)

variable (hfree : (s.vehicle v).causes = ⟨false, false, false, false⟩)

include hfree

theorem request_of_idle (h : (s.vehicle v).outstanding = []) :
    s.request v n = s.sendGrant v n (if n = (s.vehicle v).currentSeg then .granted else .idle) := by
  simp only [request, causes_none_iff.2 hfree, Bool.not_true, Bool.false_eq_true, if_false, h, List.isEmpty_nil, if_true]

variable (hbusy : (s.vehicle v).outstanding ≠ [])

include hbusy

theorem request_of_offRoute (h : firstAt (s.vehicle v).path (s.vehicle v).pointer n = none) :
    s.request v n = s.sendGrant v n .offRoute := by
  simp only [request, causes_none_iff.2 hfree, Bool.not_true, Bool.false_eq_true, if_false, List.isEmpty_iff, hbusy, if_pos h]

variable {i : Nat} (hroute : firstAt (s.vehicle v).path (s.vehicle v).pointer n = some i)

include hroute

theorem request_of_onRoute : s.request v n =
    if (s.vehicle v).claims.any (fun c => c.seg = n) then s.sendGrant v n .granted
    else if s.tcu.claimDepth ≤ (s.vehicle v).claims.length then s
    else if s.hasRoom n && !(s.seg n).blocked && !s.segHalted n then s.grantClaim v n
    else s.waitCheck v n := by
  simp only [request, causes_none_iff.2 hfree, Bool.not_true, Bool.false_eq_true, if_false, List.isEmpty_iff, hbusy, hroute,
    reduceCtorEq]

theorem request_of_claimed (h : ∃ c ∈ (s.vehicle v).claims, c.seg = n) : s.request v n = s.sendGrant v n .granted := by
  rw [request_of_onRoute hfree hbusy hroute, if_pos (by simpa using h)]

variable (hnew : ∀ c ∈ (s.vehicle v).claims, c.seg ≠ n)

include hnew

theorem request_of_deep (h : s.tcu.claimDepth ≤ (s.vehicle v).claims.length) : s.request v n = s := by
  rw [request_of_onRoute hfree hbusy hroute, if_neg (by simpa using hnew), if_pos h]

theorem request_of_new (h : (s.vehicle v).claims.length < s.tcu.claimDepth) :
    s.request v n = if s.hasRoom n && !(s.seg n).blocked && !s.segHalted n then s.grantClaim v n else s.waitCheck v n := by
  rw [request_of_onRoute hfree hbusy hroute, if_neg (by simpa using hnew), if_neg h.not_ge]

end Request

/-! ### Places in the claim list (R58) -/

theorem insertClaim_append {c : TrackClaim} (l : List TrackClaim) :
    ∀ {before : List TrackClaim}, (∀ d ∈ before, c.behind d = false) → insertClaim c (before ++ l) = before ++ insertClaim c l
  | [], _ => rfl
  | d :: before, h => by
    have hd := h d List.mem_cons_self
    have ih := insertClaim_append (c := c) l fun x hx => h x (List.mem_cons_of_mem d hx)
    simp only [List.cons_append, insertClaim, hd, ih, Bool.false_eq_true, if_false]

theorem behind_of_some {n i : Nat} {d : TrackClaim} :
    (TrackClaim.mk n (some i)).behind d = true ↔ ∃ j, d.pos = some j ∧ i < j := by
  unfold TrackClaim.behind
  split
  next j h => simp_all
  next h => 
    constructor
    · intro h; cases h
    · rintro ⟨j, hj, -⟩
      exact absurd hj (h i j rfl)

end State

/-- Settles O17: a request by the first of its seven cases, and a claim's place by the positions ahead. -/
theorem requestDecidedByFirstCase : Obligations.RequestDecidedByFirstCase := by
  refine ⟨fun v n s => ?cases, fun n i before after hbefore => ?place⟩
  case cases =>
    intro x
    refine ⟨State.request_of_halted, fun hfree => ⟨fun hidle => ⟨fun h => ?_, fun h => ?_⟩, fun hbusy =>
      ⟨fun h => State.request_of_offRoute hfree hbusy (State.firstAt_eq_none.2 h), fun i e hi he hseg hfirst => ?_⟩⟩⟩
    · rw [State.request_of_idle hfree hidle, if_pos h]
    · rw [State.request_of_idle hfree hidle, if_neg h]
    have hroute := State.firstAt_eq_some hi he hseg hfirst
    refine ⟨State.request_of_claimed hfree hbusy hroute, fun hnew =>
      ⟨State.request_of_deep hfree hbusy hroute hnew, fun hdepth => ?_⟩⟩
    intro open'
    have hopen : open' ↔ (s.hasRoom n && !(s.seg n).blocked && !s.segHalted n) = true := by
      rw [Bool.and_eq_true, Bool.and_eq_true, Bool.not_eq_true', Bool.not_eq_true', State.hasRoom_iff,
        State.segHalted_eq_false, and_assoc]
    rw [State.request_of_new hfree hbusy hroute hnew hdepth]
    exact ⟨fun h => (if_pos (hopen.1 h)).trans (State.grantClaim_of_firstAt hroute), fun h => if_neg (mt hopen.2 h)⟩
  case place =>
    have hnot : ∀ d ∈ before, (TrackClaim.mk n (some i)).behind d = false := by
      intro d hd
      rw [Bool.eq_false_iff, Ne, State.behind_of_some]
      rintro ⟨j, hj, hlt⟩
      exact absurd hlt (hbefore d hd j hj).not_gt
    rw [State.insertClaim_append _ hnot]
    refine ⟨fun h => by rw [h]; rfl, fun d rest j h hj hlt => ?_⟩
    rw [h, insertClaim, if_pos (State.behind_of_some.2 ⟨j, hj, hlt⟩)]

end Sys2Proof.Machine
end

section
/-! PROOFS. The wait-cycle test, the wait check, and the service of waiting lists (R63 to R66). -/

namespace Sys2Proof.Machine

theorem nodup_eraseDups {α : Type} [DecidableEq α] : ∀ l : List α, l.eraseDups.Nodup
  | [] => List.nodup_nil
  | a :: l => by
    rw [List.eraseDups_cons]
    refine List.nodup_cons.2 ⟨?_, nodup_eraseDups _⟩
    simp
  termination_by l => l.length
  decreasing_by exact Nat.lt_succ_of_le (List.length_filter_le ..)

namespace State

/-! ### Chains of waits (R64) -/

theorem WaitChain.head {s : State} {n k m : Nat} {w : VehicleIx} (hw : w ∈ (s.seg n).holders) (hk : s.waitsFor? w = some k)
    (h : s.WaitChain k m) : s.WaitChain n m := by
  induction h with
  | here => exact .next .here hw hk
  | next _ hw' hk' ih => exact .next ih hw' hk'

/-- Segments that the test puts on its list when it visits segment m (R64). -/
def waitTargets (s : State) (m : Nat) : List Nat := (s.seg m).holders.filterMap s.waitsFor?

theorem mem_waitTargets {s : State} {m k : Nat} :
    k ∈ s.waitTargets m ↔ ∃ w ∈ (s.seg m).holders, s.waitsFor? w = some k := List.mem_filterMap

theorem cycleFrom_sound {s : State} {v : VehicleIx} : ∀ {fuel : Nat} {visited toVisit : List Nat},
    s.cycleFrom v fuel visited toVisit = true → ∃ k ∈ toVisit, ∃ m, s.WaitChain k m ∧ v ∈ (s.seg m).holders
  | 0, _, _, h => by cases h
  | _ + 1, _, [], h => by cases h
  | fuel + 1, visited, n :: toVisit, h => by
    rw [cycleFrom, Bool.or_eq_true, List.contains_iff_mem] at h
    rcases h with hv | h
    · exact ⟨n, List.mem_cons_self, n, .here, hv⟩
    · obtain ⟨k, hk, m, hchain, hm⟩ := cycleFrom_sound h
      rcases List.mem_append.1 hk with hk | hk
      · exact ⟨k, List.mem_cons_of_mem _ hk, m, hchain, hm⟩
      · obtain ⟨w, hw, hwk⟩ := mem_waitTargets.1 (List.mem_filter.1 (List.mem_eraseDups.1 hk)).1
        exact ⟨n, List.mem_cons_self, m, hchain.head hw hwk, hm⟩

/-- No segment of the first list is held by the vehicle, and each leads to segments of the second only. -/
def LeadsInto (s : State) (v : VehicleIx) (l m : List Nat) : Prop :=
  ∀ n ∈ l, v ∉ (s.seg n).holders ∧ s.waitTargets n ⊆ m

theorem not_holds_of_leadsInto {s : State} {v : VehicleIx} {l : List Nat} (h : s.LeadsInto v l l) {n m : Nat} (hn : n ∈ l)
    (hchain : s.WaitChain n m) : v ∉ (s.seg m).holders := by
  suffices hm : m ∈ l from (h m hm).1
  induction hchain with
  | here => exact hn
  | next _ hw hk ih => exact (h _ ih).2 (mem_waitTargets.2 ⟨_, hw, hk⟩)

/-- Segments that vehicles other than v wait for. -/
def othersWaitFor (s : State) (v : VehicleIx) : List Nat := ((List.finRange 16).erase v).filterMap s.waitsFor?

theorem length_othersWaitFor_le (s : State) (v : VehicleIx) : (s.othersWaitFor v).length ≤ 15 :=
  (List.length_filterMap_le ..).trans (by rw [List.length_erase_of_mem (List.mem_finRange v), List.length_finRange])

theorem waitTargets_subset_othersWaitFor {s : State} {v : VehicleIx} {m : Nat} (h : v ∉ (s.seg m).holders) :
    s.waitTargets m ⊆ s.othersWaitFor v := fun k hk => by
  obtain ⟨w, hw, hwk⟩ := mem_waitTargets.1 hk
  have hne : w ≠ v := fun heq => h (heq ▸ hw)
  exact List.mem_filterMap.2 ⟨w, (List.mem_erase_of_ne hne).2 (List.mem_finRange w), hwk⟩

/-- A test that finds nothing has visited a closed list: besides the first segment only those that the other 15 vehicles wait
for are ever visited, so that 16 visits suffice. -/
theorem leadsInto_of_cycleFrom_eq_false {s : State} {v : VehicleIx} {start : Nat} : ∀ {fuel : Nat} {visited toVisit : List Nat},
    (visited ++ toVisit).Nodup → visited ++ toVisit ⊆ start :: s.othersWaitFor v → 16 ≤ fuel + visited.length →
    s.LeadsInto v visited (visited ++ toVisit) → s.cycleFrom v fuel visited toVisit = false →
    ∃ l, visited ++ toVisit ⊆ l ∧ s.LeadsInto v l l
  | _, visited, [], _, _, _, hleads, _ => ⟨visited, by simp, by simpa using hleads⟩
  | 0, visited, n :: toVisit, hnodup, hsub, hfuel, _, _ => by
    have hle := (hnodup.subperm hsub).length_le
    have hothers := length_othersWaitFor_le s v
    simp only [List.length_append, List.length_cons] at hle
    omega
  | fuel + 1, visited, n :: toVisit, hnodup, hsub, hfuel, hleads, h => by
    rw [cycleFrom, Bool.or_eq_false_iff] at h
    obtain ⟨hv, hrest⟩ := h
    have hholds : v ∉ (s.seg n).holders := by simpa using hv
    set next := ((s.waitTargets n).filter fun m => !(n :: visited).contains m && !toVisit.contains m).eraseDups with hnext
    have hmem (k : Nat) : k ∈ next ↔ k ∈ s.waitTargets n ∧ k ∉ n :: visited ∧ k ∉ toVisit := by
      rw [hnext, List.mem_eraseDups, List.mem_filter, Bool.and_eq_true, Bool.not_eq_true', Bool.not_eq_true',
        List.contains_eq_mem, List.contains_eq_mem, decide_eq_false_iff_not, decide_eq_false_iff_not]
    have hperm : (visited ++ n :: toVisit).Perm (n :: visited ++ toVisit) := List.perm_middle
    have hold : (n :: visited ++ toVisit).Nodup := hperm.nodup_iff.1 hnodup
    have hsub' : n :: visited ++ toVisit ⊆ start :: s.othersWaitFor v := List.Subset.trans hperm.symm.subset hsub
    have hgrow : visited ++ n :: toVisit ⊆ n :: visited ++ (toVisit ++ next) := by
      rw [← List.append_assoc]
      exact List.Subset.trans hperm.subset (List.subset_append_left ..)
    have hleadsNow : s.LeadsInto v (n :: visited) (n :: visited ++ (toVisit ++ next)) := by
      intro m hm
      rcases List.mem_cons.1 hm with rfl | hm
      · refine ⟨hholds, fun k hk => ?_⟩
        rw [← List.append_assoc]
        by_cases hin : k ∈ m :: visited ++ toVisit
        · exact List.mem_append_left _ hin
        · rw [List.mem_append, not_or] at hin
          exact List.mem_append_right _ ((hmem k).2 ⟨hk, hin⟩)
      · exact ⟨(hleads m hm).1, fun k hk => hgrow ((hleads m hm).2 hk)⟩
    have hnodup' : (n :: visited ++ (toVisit ++ next)).Nodup := by
      rw [← List.append_assoc, List.nodup_append']
      refine ⟨hold, nodup_eraseDups _, fun k hk hnew => ?_⟩
      obtain ⟨-, h1, h2⟩ := (hmem k).1 hnew
      exact (List.mem_append.1 hk).elim h1 h2
    have hbound : n :: visited ++ (toVisit ++ next) ⊆ start :: s.othersWaitFor v := by
      rw [← List.append_assoc]
      exact List.append_subset.2 ⟨hsub', fun k hk =>
        List.mem_cons_of_mem _ (waitTargets_subset_othersWaitFor hholds ((hmem k).1 hk).1)⟩
    obtain ⟨l, hl, hclosed⟩ := leadsInto_of_cycleFrom_eq_false hnodup' hbound
      (by simp only [List.length_cons]; omega) hleadsNow hrest
    exact ⟨l, List.Subset.trans hgrow hl, hclosed⟩

theorem closesCycle_iff {s : State} {v : VehicleIx} {n : Nat} :
    s.closesCycle v n = true ↔ ∃ m, s.WaitChain n m ∧ v ∈ (s.seg m).holders := by
  constructor
  · intro h
    obtain ⟨k, hk, m, hchain⟩ := cycleFrom_sound h
    rw [List.mem_singleton.1 hk] at hchain
    exact ⟨m, hchain⟩
  · rintro ⟨m, hchain, hm⟩
    by_contra hnot
    rw [Bool.not_eq_true] at hnot
    obtain ⟨l, hl, hclosed⟩ := leadsInto_of_cycleFrom_eq_false (start := n) (List.nodup_singleton n) (by simp) (by decide)
      (fun _ h => absurd h List.not_mem_nil) hnot
    exact not_holds_of_leadsInto hclosed (hl (List.mem_singleton_self n)) hchain hm

/-! ### The wait check (R63) -/

section WaitCheck

variable {v : VehicleIx} {n : Nat} {s : State}

theorem waitCheck_of_waiting (h : v ∈ (s.seg n).waiters) : s.waitCheck v n = s.sendGrant v n .wait :=
  if_pos (List.contains_iff_mem.2 h)

variable (hnew : v ∉ (s.seg n).waiters)

include hnew

theorem waitCheck_of_cycle (h : s.closesCycle v n = true) :
    s.waitCheck v n = ((s.sendGrant v n .deadlock).raise .deadlock (num v)).updVehicle v
      fun x => { x with causes := { x.causes with deadlock := true } } := by
  rw [waitCheck, if_neg (mt List.contains_iff_mem.1 hnew), if_pos h]

theorem waitCheck_of_free (h : s.closesCycle v n = false) : s.waitCheck v n =
    ((s.leaveWaiting v).updSeg n fun x => { x with waiters := x.waiters ++ [v] }).sendGrant v n .wait := by
  rw [waitCheck, if_neg (mt List.contains_iff_mem.1 hnew), if_neg (by rw [h]; decide)]

end WaitCheck

theorem leaveWaiting_of_some {v : VehicleIx} {n : Nat} {s : State} (h : s.waitsFor? v = some n) :
    s.leaveWaiting v = s.setSeg n { s.seg n with waiters := (s.seg n).waiters.filter (· ≠ v) } := by
  simp only [leaveWaiting, h]
  rfl

theorem serveWaiting_of_some {v : VehicleIx} {n : Nat} {s : State} (h : s.waitsFor? v = some n) :
    s.serveWaiting v = s.serve n := by
  simp only [serveWaiting, h]

theorem leavePassed_of_none {v : VehicleIx} {s : State} (h : s.waitsFor? v = none) : s.leavePassed v = s := by
  simp only [leavePassed, h]

theorem leavePassed_of_some {v : VehicleIx} {n : Nat} {s : State} (h : s.waitsFor? v = some n) :
    s.leavePassed v =
      if firstAt (s.vehicle v).path (s.vehicle v).pointer n = none then
        s.setSeg n { s.seg n with waiters := (s.seg n).waiters.filter (· ≠ v) }
      else s := by
  simp only [leavePassed, h, leaveWaiting_of_some h]

theorem sendGrant_of_entry {v : VehicleIx} {e : NodeEntry} {s : State} (n : Nat) (r : GrantResult)
    (h : s.vehicleEntry? v = some e) :
    s.sendGrant v n r = s.placeUrgent ⟨e.addr, s.ownAddr, clsGrant, [BitVec.ofNat 8 n, r.code]⟩ := by
  simp only [sendGrant, sendVehicle, h]

theorem sendGrant_of_unlisted {v : VehicleIx} {s : State} (n : Nat) (r : GrantResult) (h : s.vehicleEntry? v = none) :
    s.sendGrant v n r = s := by
  simp only [sendGrant, sendVehicle, h]

theorem dropClaims_pair {c d : TrackClaim} (v : VehicleIx) (keep : List TrackClaim) (s : State) (h : c.seg ≠ d.seg) :
    s.dropClaims v [c, d] keep =
      ((((s.setVehicle v { s.vehicle v with claims := keep }).setSeg c.seg
        { s.seg c.seg with holders := (s.seg c.seg).holders.filter (· ≠ v) }).setSeg d.seg
        { s.seg d.seg with holders := (s.seg d.seg).holders.filter (· ≠ v) }).serve c.seg).serve d.seg := by
  simp only [dropClaims, List.foldl_cons, List.foldl_nil, updSeg, updVehicle, seg_setSeg_of_ne h.symm]
  rfl

/-! ### Service (R65) -/

theorem serve_of_closed {n : Nat} {s : State} (h : (s.seg n).blocked = true ∨ s.segHalted n = true) : s.serve n = s :=
  if_pos (by simpa using h)

theorem serve_of_open {n : Nat} {s : State} (hblocked : (s.seg n).blocked = false) (hhalt : s.segHalted n = false) :
    s.serve n = (s.seg n).waiters.foldl
      (fun s w => if s.hasRoom n && s.eligible w then s.grantClaim w n else s) s :=
  if_neg (by rw [hblocked, hhalt]; decide)

theorem serve_of_nil {n : Nat} {s : State} (h : (s.seg n).waiters = []) : s.serve n = s := by
  unfold serve
  rw [h]
  exact ite_self _

section Grant

variable (w : VehicleIx) (n : Nat) (s : State)

theorem seg_grantClaim : (s.grantClaim w n).seg n =
    { s.seg n with holders := (s.seg n).holders ++ [w], waiters := (s.seg n).waiters.filter (· ≠ w) } := by
  rw [grantClaim_of_firstAt rfl, (LinkOp.sendGrant w n .granted).seg_eq]
  exact seg_setSeg_of_listed (held_ne_unlisted (v := w) (by simp)) n s

theorem eligible_grantClaim {u : VehicleIx} (h : u ≠ w) : (s.grantClaim w n).eligible u = s.eligible u := by
  have hx : (s.grantClaim w n).vehicle u = s.vehicle u := by
    rw [grantClaim_of_firstAt rfl, (LinkOp.sendGrant w n .granted).vehicle_eq, vehicle_setVehicle, if_neg h.symm]
    rfl
  have hdepth : (s.grantClaim w n).tcu.claimDepth = s.tcu.claimDepth := by
    rw [grantClaim_of_firstAt rfl, (LinkOp.sendGrant w n .granted).tcu_eq]
    rfl
  rw [eligible, eligible, hx, hdepth]

end Grant

/-- Service from the head: the eligible waiters, as many as there is room for. -/
theorem foldl_grantClaim {n : Nat} (p : VehicleIx → Bool) : ∀ {l : List VehicleIx} {s : State}, l.Nodup →
    (∀ w ∈ l, s.eligible w = p w) →
    l.foldl (fun s w => if s.hasRoom n && s.eligible w then s.grantClaim w n else s) s =
      ((l.filter p).take ((s.seg n).capacity - (s.seg n).holders.length)).foldl (fun u w => u.grantClaim w n) s
  | [], _, _, _ => by simp
  | w :: l, s, hnodup, helig => by
    obtain ⟨hw, hl⟩ := List.nodup_cons.1 hnodup
    have hhead := helig w List.mem_cons_self
    have htail : ∀ u ∈ l, s.eligible u = p u := fun u hu => helig u (List.mem_cons_of_mem w hu)
    rw [List.foldl_cons]
    by_cases hp : p w = true
    · rw [List.filter_cons_of_pos hp, hhead, hp, Bool.and_true]
      by_cases hroom : s.hasRoom n = true
      · have hlt := hasRoom_iff.1 hroom
        have ih := foldl_grantClaim p (n := n) (s := s.grantClaim w n) hl fun u hu => by
          rw [eligible_grantClaim w n s fun heq => hw (heq ▸ hu)]
          exact htail u hu
        rw [if_pos hroom, ih, seg_grantClaim, List.length_append, List.length_singleton]
        obtain ⟨k, hk⟩ : ∃ k, (s.seg n).capacity - (s.seg n).holders.length = k + 1 := ⟨_, (Nat.succ_pred_eq_of_pos (by omega)).symm⟩
        have hleft : (s.seg n).capacity - ((s.seg n).holders.length + 1) = k := by omega
        rw [hk, List.take_succ_cons, List.foldl_cons]
        exact congrArg (fun j => ((l.filter p).take j).foldl (fun u w => u.grantClaim w n) (s.grantClaim w n)) hleft
      · have hfull : (s.seg n).capacity - (s.seg n).holders.length = 0 := by
          have := mt hasRoom_iff.2 hroom
          omega
        rw [if_neg hroom, foldl_grantClaim p hl htail, hfull, List.take_zero, List.take_zero]
    · rw [Bool.not_eq_true] at hp
      rw [List.filter_cons_of_neg (by rw [hp]; decide), hhead, hp, Bool.and_false, if_neg (by decide), foldl_grantClaim p hl htail]

end State

/-- Settles O18: the wait check, the cycle test, and service by the state of the segment and its waiters. -/
theorem waitCheckAndService : Obligations.WaitCheckAndService := by
  refine ⟨⟨fun v n s => ⟨State.waitCheck_of_waiting, fun hnew hcycle => ?deadlock, fun hnew hfree => ?waits⟩,
      fun v n r s => ⟨fun e => State.sendGrant_of_entry n r, State.sendGrant_of_unlisted n r⟩⟩,
    fun v n s => State.closesCycle_iff,
    ⟨State.releaseClaims_nil, fun v c keep s => ?one, fun v c d keep s hne => ?two, fun v s => ?passed,
      fun v s => ⟨State.serveWaiting_of_none, fun n => State.serveWaiting_of_some⟩, fun n s => ?single⟩,
    fun n s hnodup hblocked hhalt => ?many, fun n s => State.segHalted_iff, fun v n s => ?granted⟩
  case deadlock =>
    intro u
    have hx : u.vehicle v = s.vehicle v := by
      rw [(LinkOp.raise .deadlock (num v)).vehicle_eq, (LinkOp.sendGrant v n .deadlock).vehicle_eq]
    rw [State.waitCheck_of_cycle hnew hcycle, State.updVehicle, hx]
  case waits =>
    rw [State.waitCheck_of_free hnew hfree]
    refine ⟨fun hnone => by rw [State.leaveWaiting_of_none hnone]; rfl, fun m hm hne => ?_⟩
    rw [State.leaveWaiting_of_some hm, State.updSeg, State.seg_setSeg_of_ne hne.symm]
  case one => 
    intro u
    rfl
  case two =>
    intro u
    rw [State.releaseClaims, if_neg (List.cons_ne_nil _ _), State.dropClaims_pair v keep s hne]
  case passed =>
    intro ahead
    have hahead (n : Nat) : ahead n ↔ firstAt (s.vehicle v).path (s.vehicle v).pointer n ≠ none := by
      rw [Ne, State.firstAt_eq_none]
      push Not
      exact Iff.rfl
    refine ⟨State.leavePassed_of_none, fun n hn => ?_⟩
    rw [State.leavePassed_of_some hn, hahead]
    exact ⟨fun h => if_neg h, fun h => if_pos (not_not.1 h)⟩
  case single =>
    refine ⟨?_, fun hblocked hhalt w hw => ?_⟩
    · rintro (h | h)
      · exact State.serve_of_nil h
      · exact State.serve_of_closed h
    intro free
    have hfree : free ↔ (s.hasRoom n && s.eligible w) = true := by
      rw [Bool.and_eq_true, State.hasRoom_iff, State.eligible_iff]
    rw [State.serve_of_open hblocked hhalt, hw, List.foldl_cons, List.foldl_nil, hfree]
    exact ⟨fun h => if_pos h, fun h => if_neg h⟩
  case many =>
    intro eligible
    rw [State.serve_of_open hblocked hhalt]
    exact State.foldl_grantClaim eligible hnodup fun w _ => by
      rw [Bool.eq_iff_iff, State.eligible_iff]
      exact decide_eq_true_iff.symm
  case granted =>
    intro x granted
    exact ⟨fun i e hi he hseg hfirst => State.grantClaim_of_firstAt (State.firstAt_eq_some hi he hseg hfirst),
      fun h => State.grantClaim_of_firstAt (State.firstAt_eq_none.2 h)⟩

end Sys2Proof.Machine
end

section
/-! PROOFS. Position reports: what a VPOS records, the claims it releases, and the request it carries (R61, R88). -/

namespace Sys2Proof.Machine

/-- A vehicle's record with a report received, which starts supervision again unless the vehicle is OFF (R88). -/
def Vehicle.reported (x : Vehicle) (motion : Byte) (load : Word) (tick : Word) : Vehicle :=
  { x with motion := motion, repLoad := load, lastReport := tick }

namespace State

theorem configured_iff {n : Nat} {s : State} : s.configured n = true ↔ (s.seg n).capacity ≠ 0 := decide_eq_true_iff

theorem not_configured {n : Nat} {s : State} (h : (s.seg n).capacity = 0) : ¬s.configured n = true :=
  fun hc => configured_iff.1 hc h

/-- The request that a VPOS carries, when it carries one (R60). -/
def asked (v : VehicleIx) (req : Byte) (s : State) : State := if req = 0 then s else s.request v req.toNat

theorem asked_zero (v : VehicleIx) (s : State) : s.asked v 0 = s := if_pos rfl

section Vpos

variable {v : VehicleIx} {segment motion req : Byte} {load : Word} {s : State}

theorem vposTaken_of_off (h : (s.vehicle v).status = .off) :
    s.vposTaken segment motion load req v =
      s.setVehicle v { (s.vehicle v).reported motion load s.clock with
        currentSeg := if (s.seg segment.toNat).capacity = 0 then (s.vehicle v).currentSeg else segment.toNat } := by
  unfold vposTaken
  rw [if_pos h, updVehicle, updVehicle_setVehicle]
  by_cases hcap : (s.seg segment.toNat).capacity = 0
  · rw [if_pos hcap]
    exact if_neg (not_configured (by exact hcap))
  · rw [if_neg hcap]
    exact if_pos (configured_iff.2 (by exact hcap))

variable {f : Finding} {t : State} (hworks : (s.vehicle v).status ≠ .off)
  (hcur : (s.setVehicle v { (s.vehicle v).reported motion load s.clock with supCount := 0 }).takeCurrent v segment.toNat = (f, t))

include hworks hcur

theorem vposTaken_of_finding : s.vposTaken segment motion load req v =
    if f = .noPosition then t.asked v req
    else
      State.asked v req (State.updVehicle v (fun x => { x with currentSeg := segment.toNat })
        (if isIntrusion f segment.toNat (s.vehicle v).currentSeg then t.vehicleIntrudes v segment.toNat
        else if (s.vehicle v).status = .lost then t.vehicleReturns v
        else t)) := by
  unfold vposTaken
  have hreported : (s.updVehicle v fun x => x.reported motion load s.clock).updVehicle v (fun x => { x with supCount := 0 }) =
      s.setVehicle v { (s.vehicle v).reported motion load s.clock with supCount := 0 } := updVehicle_setVehicle ..
  rw [← hreported] at hcur
  rw [if_neg hworks]
  exact congrArg (fun r : Finding × State =>
    if r.1 = .noPosition then r.2.asked v req
    else
      State.asked v req (State.updVehicle v (fun x => { x with currentSeg := segment.toNat })
        (if isIntrusion r.1 segment.toNat (s.vehicle v).currentSeg then r.2.vehicleIntrudes v segment.toNat
        else if (s.vehicle v).status = .lost then r.2.vehicleReturns v
        else r.2))) hcur

end Vpos

/-! ### What the TCU finds (R61) -/

section TakeCurrent

variable {v : VehicleIx} {c : Nat} {s : State}

theorem takeCurrent_of_unconfigured (h : (s.seg c).capacity = 0) : s.takeCurrent v c = (.noPosition, s) :=
  if_pos (by simpa using not_configured h)

variable (hconf : (s.seg c).capacity ≠ 0)

include hconf

theorem takeCurrent_of_held {gone keep : List TrackClaim} {k : TrackClaim} (hclaims : (s.vehicle v).claims = gone ++ k :: keep)
    (hk : k.seg = c) (hgone : ∀ g ∈ gone, g.seg ≠ c) :
    s.takeCurrent v c = (.held,
      ((s.setVehicle v { s.vehicle v with pointer := max (s.vehicle v).pointer (k.pos.getD 0) }).leavePassed v).releaseClaims v
        gone (k :: keep)) := by
  have hidx : (gone ++ k :: keep).findIdx? (fun k => decide (k.seg = c)) = some gone.length := by
    refine List.findIdx?_eq_some_iff_getElem.2 ⟨by simp, by simp [hk], fun j hj => ?_⟩
    simpa [List.getElem_append_left hj] using hgone _ (List.getElem_mem hj)
  have hget : (gone ++ k :: keep)[gone.length]? = some k := by simp
  unfold takeCurrent
  rw [if_neg (by simpa using configured_iff.2 hconf), hclaims]
  simp only [hidx, hget, List.take_left, List.drop_left]
  rfl

theorem takeCurrent_of_notHeld (h : ∀ k ∈ (s.vehicle v).claims, k.seg ≠ c) :
    s.takeCurrent v c = (if (s.vehicle v).claims = [] then .noneHeld else .notHeld, s) := by
  have hidx : (s.vehicle v).claims.findIdx? (fun k => decide (k.seg = c)) = none :=
    List.findIdx?_eq_none_iff.2 fun k hk => decide_eq_false (h k hk)
  unfold takeCurrent
  rw [if_neg (by simpa using configured_iff.2 hconf)]
  simp only [hidx, List.isEmpty_iff]

end TakeCurrent

end State

/-- The VPOS telegram as its command receives it. -/
theorem exec_vpos {v : VehicleIx} {dst src : Byte} {s : State} (segment motion : Byte) (load : Word) (req : Byte)
    (h : Heard .vehicle (num v) dst src s) :
    exec (.vpos dst src segment motion load req) s =
      .next ((s.vposTaken segment motion load req v).placeUpper
        ⟨dst, src, clsVpos, [segment, motion] ++ beWord load ++ [req]⟩) :=
  have hlen : (vposBody segment motion load req).length = 7 := by simp [vposBody, beWord, be32, be16]
  heard_vehicle (t := ⟨dst, src, clsVpos, vposBody segment motion load req⟩) (by simp only [hlen]; rfl)
    (by simp only [hlen]; decide) _ h rfl

/-- Settles O19: by the status, and by what the TCU finds of the segment. -/
theorem vposRecordsAndReleases : Obligations.VposRecordsAndReleases := by
  intro v dst src segment motion load req s hheard x c sent answer asked seen
  have answers {t : State} (h : s.vposTaken segment motion load req v = t) : answer t := by
    show exec _ _ = _
    rw [exec_vpos segment motion load req hheard, h]
    rfl
  have works (h : x.status = .idle ∨ x.status = .busy) : x.status ≠ .off ∧ x.status ≠ .lost := by
    rcases h with h | h <;> simp [h]
  refine ⟨fun h => answers (State.vposTaken_of_off h), fun hon hcap => answers ?_,
    fun hworks hcap gone keep k hclaims hk hgone => ?held, fun hworks hcap hclaims hwhere => answers ?none⟩
  · rw [State.vposTaken_of_finding hon (State.takeCurrent_of_unconfigured hcap), if_pos rfl]
    rfl
  case held =>
    intro moved u
    obtain ⟨hon, hfound⟩ := works hworks
    have hcur := State.takeCurrent_of_held (v := v) (c := c) (k := k) (gone := gone) (keep := keep)
      (s := s.setVehicle v { x.reported motion load s.clock with supCount := 0 }) hcap
      (by rw [State.vehicle_setVehicle_self]; exact hclaims) hk hgone
    rw [State.vehicle_setVehicle_self, State.setVehicle_setVehicle] at hcur
    refine answers ?_
    rw [State.vposTaken_of_finding hon hcur, if_neg (by decide), if_neg (by simp [State.isIntrusion]), if_neg hfound]
    rfl
  case none =>
    obtain ⟨hon, hfound⟩ := works hworks
    have hcur := State.takeCurrent_of_notHeld (v := v) (c := c)
      (s := s.setVehicle v { x.reported motion load s.clock with supCount := 0 }) hcap
      (by rw [State.vehicle_setVehicle_self, Vehicle.reported, hclaims]; exact fun k hk => absurd hk List.not_mem_nil)
    rw [State.vehicle_setVehicle_self, if_pos (by exact hclaims)] at hcur
    have hno : State.isIntrusion .noneHeld c x.currentSeg = false := by
      rcases hwhere with h | h <;> simp [State.isIntrusion, h]
    rw [State.vposTaken_of_finding hon hcur, if_neg (by decide), if_neg (by rw [hno]; decide), if_neg hfound,
      State.updVehicle_setVehicle]
    rfl

end Sys2Proof.Machine
end

section
/-! PROOFS. Zones: what halts one, who is told, and when the halt is lifted (R67 to R69). -/

namespace Sys2Proof.Machine

/-! ### Folds in which few steps act -/

theorem foldl_eq_self {α β : Type} {f : β → α → β} {s : β} : ∀ {l : List α}, (∀ x ∈ l, f s x = s) → l.foldl f s = s
  | [], _ => rfl
  | x :: l, h => by
    rw [List.foldl_cons, h x List.mem_cons_self]
    exact foldl_eq_self fun y hy => h y (List.mem_cons_of_mem x hy)

/-- A fold in which one member alone acts. -/
theorem foldl_of_single {α β : Type} {f : β → α → β} {s : β} {l : List α} {a : α} (ha : a ∈ l) (hl : l.Nodup)
    (before : ∀ x ∈ l, x ≠ a → f s x = s) (after : ∀ x ∈ l, x ≠ a → f (f s a) x = f s a) : l.foldl f s = f s a := by
  obtain ⟨l1, l2, rfl⟩ := List.append_of_mem ha
  have hnot : a ∉ l1 ++ l2 := (List.nodup_middle.1 hl).notMem
  rw [List.mem_append, not_or] at hnot
  rw [List.foldl_append, List.foldl_cons,
    foldl_eq_self fun x hx => before x (List.mem_append_left _ hx) fun h => hnot.1 (h ▸ hx)]
  exact foldl_eq_self fun x hx => after x (List.mem_append_right _ (List.mem_cons_of_mem a hx)) fun h => hnot.2 (h ▸ hx)

theorem mem_finRange_nodup {n : Nat} (i : Fin n) : i ∈ List.finRange n ∧ (List.finRange n).Nodup :=
  ⟨List.mem_finRange i, List.nodup_finRange n⟩

/-! ### States that differ in the link, the vehicles and the track records -/

/-- What an operation on vehicles and track leaves, as one equation. -/
theorem eq_of_moves_track {a b : State} (h : Moves [.ltu, .flags, .vehicles, .tcu] a b) :
    b = { a with
      pins := { a.pins with alarmLow := b.pins.alarmLow }
      ltu := b.ltu
      sfu := { a.sfu with flags := b.sfu.flags, pulse := b.sfu.pulse }
      vou := { a.vou with vehicles := b.vou.vehicles }
      tcu := b.tcu } := by
  have hclock := h.same .clock (by decide)
  have hstraps := h.same .straps (by decide)
  have hnd := h.same .nd (by decide)
  have hvou := h.same .vou (by decide)
  have hrolls := h.same .rolls (by decide)
  have hplaces := h.same .places (by decide)
  have hroutes := h.same .routes (by decide)
  have hsizes := h.same .sizes (by decide)
  have hstands := h.same .stands (by decide)
  have hspeeds := h.same .speeds (by decide)
  have hcalls := h.same .calls (by decide)
  have hfdu := h.same .fdu (by decide)
  have hscu := h.same .scu (by decide)
  have hpls := h.same .pls (by decide)
  have hmode := h.same .mode (by decide)
  have hsfu := h.same .sfu (by decide)
  have hmga := h.same .mga (by decide)
  have hdue := h.same .due (by decide)
  have hpending := h.same .pending (by decide)
  clear h
  obtain ⟨⟨⟩, _, _, _, _, ⟨⟩, ⟨⟩, ⟨⟩, _, _, ⟨⟩, _, _, _⟩ := a
  obtain ⟨⟨⟩, _, _, _, _, ⟨⟩, ⟨⟩, ⟨⟩, _, _, ⟨⟩, _, _, _⟩ := b
  simp_all [Part.same]

namespace State

/-! ### HOLDs -/

theorem sendHoldLost_of_causes {v : VehicleIx} {c : Causes} {s : State} (h : (s.vehicle v).causes = c) :
    s.sendHoldLost v = s.sendVehicle v clsHold [holdLost ||| c.byte] := by
  rw [sendHoldLost, h]

@[simp] theorem vehicle_sendHold (v w : VehicleIx) (s : State) : (s.sendHold v).vehicle w = s.vehicle w :=
  (LinkOp.sendVehicle v clsHold _).vehicle_eq s w

@[simp] theorem vehicle_sendHoldLost (v w : VehicleIx) (s : State) : (s.sendHoldLost v).vehicle w = s.vehicle w :=
  (LinkOp.sendVehicle v clsHold _).vehicle_eq s w

@[simp] theorem tcu_sendHold (v : VehicleIx) (s : State) : (s.sendHold v).tcu = s.tcu :=
  (LinkOp.sendVehicle v clsHold _).tcu_eq s

@[simp] theorem tcu_sendHoldLost (v : VehicleIx) (s : State) : (s.sendHoldLost v).tcu = s.tcu :=
  (LinkOp.sendVehicle v clsHold _).tcu_eq s

/-! ### The halt of a zone (R68) -/

theorem holdsIn_iff {v : VehicleIx} {z : ZoneIx} {s : State} : s.holdsIn v z = true ↔
    ∃ k ∈ (s.vehicle v).claims, (s.seg k.seg).capacity ≠ 0 ∧ (s.seg k.seg).zone = num z := by
  simp only [holdsIn, List.any_eq_true, decide_eq_true_eq, zoneOf?_eq_some]

theorem holdsIn_congr {a b : State} {v : VehicleIx} (hclaims : (b.vehicle v).claims = (a.vehicle v).claims)
    (hsegs : b.tcu.segments = a.tcu.segments) (z : ZoneIx) : b.holdsIn v z = a.holdsIn v z := by
  have hseg (n : Nat) : b.seg n = a.seg n := by rw [seg, seg, hsegs]
  have hzone (n : Nat) : b.zoneOf? n = a.zoneOf? n := by rw [zoneOf?, zoneOf?, configured, configured, hseg]
  simp only [holdsIn, hclaims, hzone]

/-- The vehicle's record with the cause ZONE. -/
def zoned (x : Vehicle) : Vehicle := { x with causes := { x.causes with zone := true } }

/-- The halt of a zone as it reaches one vehicle. -/
def haltStep (z : ZoneIx) (s : State) (v : VehicleIx) : State :=
  if s.holdsIn v z && !(s.vehicle v).causes.zone then
    if (s.vehicle v).status = .lost then (s.updVehicle v zoned).sendHoldLost v else (s.updVehicle v zoned).sendHold v
  else s

theorem haltZone_eq_foldl (z : ZoneIx) (s : State) : s.haltZone z = (List.finRange 16).foldl (haltStep z) s := by
  unfold haltZone
  congr 1
  funext s v
  have hstatus : ((s.updVehicle v zoned).vehicle v).status = (s.vehicle v).status := by rw [vehicle_updVehicle, if_pos rfl]; rfl
  unfold haltStep
  rw [← hstatus]
  rfl

theorem haltStep_of_outside {z : ZoneIx} {v : VehicleIx} {s : State} (h : s.holdsIn v z = false) : haltStep z s v = s :=
  if_neg (by rw [h, Bool.false_and]; decide)

theorem haltStep_of_held {z : ZoneIx} {v : VehicleIx} {s : State} (h : (s.vehicle v).causes.zone = true) : haltStep z s v = s :=
  if_neg (by rw [h, Bool.not_true, Bool.and_false]; decide)

theorem haltStep_of_new {z : ZoneIx} {v : VehicleIx} {s : State} (h : s.holdsIn v z = true)
    (hnew : (s.vehicle v).causes.zone = false) (hfound : (s.vehicle v).status ≠ .lost) :
    haltStep z s v = (s.updVehicle v zoned).sendHold v := by
  rw [haltStep, if_pos (by rw [h, hnew]; rfl), if_neg hfound]

theorem zoned_of_zone {x : Vehicle} (h : x.causes.zone = true) : zoned x = x := by
  have hcauses : { x.causes with zone := true } = x.causes := by rw [← h]
  rw [zoned, hcauses]

theorem vehicle_haltStep (z : ZoneIx) (v y : VehicleIx) (s : State) :
    (haltStep z s v).vehicle y = if v = y ∧ s.holdsIn y z = true then zoned (s.vehicle y) else s.vehicle y := by
  rcases eq_or_ne v y with rfl | hne
  · by_cases hin : s.holdsIn v z = true
    · rw [if_pos ⟨rfl, hin⟩]
      by_cases hz : (s.vehicle v).causes.zone = true
      · rw [haltStep_of_held hz, zoned_of_zone hz]
      · rw [haltStep, if_pos (by simp [hin, hz])]
        split <;> simp
    · rw [haltStep_of_outside (Bool.not_eq_true _ ▸ hin), if_neg fun h => hin h.2]
  · rw [if_neg fun h => hne h.1]
    unfold haltStep
    split
    · split <;> simp [hne]
    · rfl

theorem tcu_haltStep (z : ZoneIx) (v : VehicleIx) (s : State) : (haltStep z s v).tcu = s.tcu := by
  unfold haltStep
  split
  · split <;> simp
  · rfl

theorem claims_haltStep (z : ZoneIx) (v y : VehicleIx) (s : State) :
    ((haltStep z s v).vehicle y).claims = (s.vehicle y).claims := by
  rw [vehicle_haltStep]
  split <;> rfl

theorem holdsIn_haltStep (z : ZoneIx) (v y : VehicleIx) (s : State) : (haltStep z s v).holdsIn y z = s.holdsIn y z :=
  holdsIn_congr (claims_haltStep z v y s) (by rw [tcu_haltStep]) z

theorem zoned_zoned (x : Vehicle) : zoned (zoned x) = zoned x := rfl

theorem foldl_haltStep (z : ZoneIx) (y : VehicleIx) : ∀ (l : List VehicleIx) (s : State),
    (l.foldl (haltStep z) s).tcu = s.tcu ∧
      (l.foldl (haltStep z) s).vehicle y = if y ∈ l ∧ s.holdsIn y z = true then zoned (s.vehicle y) else s.vehicle y
  | [], s => by simp
  | v :: l, s => by
    obtain ⟨htcu, hx⟩ := foldl_haltStep z y l (haltStep z s v)
    refine ⟨htcu.trans (tcu_haltStep ..), hx.trans ?_⟩
    rw [holdsIn_haltStep, vehicle_haltStep]
    by_cases hin : s.holdsIn y z = true
    · by_cases hv : v = y
      · by_cases hl : y ∈ l <;> simp [hin, hv, hl, zoned_zoned]
      · by_cases hl : y ∈ l <;> simp [hin, hv, Ne.symm hv, hl]
    · simp [hin]

/-- Every vehicle with a claim in the zone gains ZONE; no other record changes. -/
theorem vehicle_haltZone (z : ZoneIx) (y : VehicleIx) (s : State) :
    (s.haltZone z).vehicle y = if s.holdsIn y z = true then zoned (s.vehicle y) else s.vehicle y := by
  rw [haltZone_eq_foldl, (foldl_haltStep z y _ s).2]
  simp [List.mem_finRange]

theorem tcu_haltZone (z : ZoneIx) (s : State) : (s.haltZone z).tcu = s.tcu := by
  rw [haltZone_eq_foldl, (foldl_haltStep z 0 _ s).1]

theorem haltZone_of_empty {z : ZoneIx} {s : State} (h : ∀ y, s.holdsIn y z = false) : s.haltZone z = s := by
  rw [haltZone_eq_foldl]
  exact foldl_eq_self fun y _ => haltStep_of_outside (h y)

theorem haltZone_of_single {z : ZoneIx} {y : VehicleIx} {s : State} (h : ∀ w, w ≠ y → s.holdsIn w z = false) :
    s.haltZone z = haltStep z s y := by
  obtain ⟨hmem, hnodup⟩ := mem_finRange_nodup y
  rw [haltZone_eq_foldl]
  exact foldl_of_single hmem hnodup (fun w _ hw => haltStep_of_outside (h w hw)) fun w _ hw =>
    haltStep_of_outside ((holdsIn_haltStep z y w s).trans (h w hw))

/-! ### The sets of a zone (R68) -/

theorem zoneHalted_updZone {z : ZoneIx} {f : Zone → Zone} {s : State} :
    (s.updZone z f).zoneHalted z = true ↔ (f (s.zone z)).lost ≠ 0 ∨ (f (s.zone z)).intruders ≠ 0 := by
  rw [zoneHalted_iff, zone_updZone, if_pos rfl]

theorem changeZone_of_halted {z : ZoneIx} {s : State} (f : Zone → Zone) (h : s.zoneHalted z = true) :
    s.changeZone z f = s.updZone z f := by
  unfold changeZone
  rw [h]
  rfl

theorem changeZone_of_free {z : ZoneIx} {f : Zone → Zone} {s : State} (h : s.zoneHalted z = false)
    (hnew : (f (s.zone z)).lost ≠ 0 ∨ (f (s.zone z)).intruders ≠ 0) :
    s.changeZone z f = (s.updZone z f).haltZone z := by
  unfold changeZone
  simp only [h, zoneHalted_updZone.2 hnew, Bool.not_false, Bool.and_self, if_true]

theorem zone_congr {a b : State} (h : b.tcu = a.tcu) (z : ZoneIx) : b.zone z = a.zone z := by rw [zone, zone, h]

theorem zone_changeZone (z y : ZoneIx) (f : Zone → Zone) (s : State) :
    (s.changeZone z f).zone y = if z = y then f (s.zone z) else s.zone y := by
  unfold changeZone
  simp only
  split
  · rw [zone_congr (tcu_haltZone ..), zone_updZone]
  · rw [zone_updZone]

theorem setWith_ne_zero {w i : Nat} (m : BitVec w) (h : i < w) : setWith m i ≠ 0 := by
  intro hzero
  have hbit : (setWith m i).getLsbD i = true := by simp [setWith, h]
  rw [hzero] at hbit
  simp at hbit

theorem leaveLostSets_of_none {v : VehicleIx} {s : State} (h : ∀ y, (s.zone y).lost.getLsbD v.val = false) :
    s.leaveLostSets v = (s, []) :=
  foldl_eq_self fun y _ => if_neg (by rw [setHas, h y]; decide)

end State

end Sys2Proof.Machine
end

section
/-! PROOFS. Intruders and the return of a LOST vehicle, as a VPOS tells of them (R68, R88 to R90). -/

namespace Sys2Proof.Machine

namespace State

theorem tcu_changeZone (z : ZoneIx) (f : Zone → Zone) (s : State) : (s.changeZone z f).tcu = (s.updZone z f).tcu := by
  unfold changeZone
  simp only
  split
  · exact tcu_haltZone ..
  · rfl

/-- A change that halts a zone reaches every vehicle with a claim there, unless the zone was halted before. -/
theorem vehicle_changeZone {z : ZoneIx} {f : Zone → Zone} {s : State} (y : VehicleIx)
    (hnew : (f (s.zone z)).lost ≠ 0 ∨ (f (s.zone z)).intruders ≠ 0) :
    (s.changeZone z f).vehicle y =
      if s.zoneHalted z = false ∧ s.holdsIn y z = true then zoned (s.vehicle y) else s.vehicle y := by
  by_cases h : s.zoneHalted z = true
  · rw [changeZone_of_halted f h, if_neg (by simp [h])]
    rfl
  · rw [Bool.not_eq_true] at h
    have hin : (s.updZone z f).holdsIn y z = s.holdsIn y z := holdsIn_congr rfl rfl z
    rw [changeZone_of_free h hnew, vehicle_haltZone, hin]
    by_cases hy : s.holdsIn y z = true
    · rw [if_pos hy, if_pos ⟨h, hy⟩]
      rfl
    · rw [if_neg hy, if_neg fun hc => hy hc.2]
      rfl

/-- No telegram follows a change of a zone's sets that was halted before or in which no vehicle has a claim. -/
theorem changeZone_of_quiet {z : ZoneIx} {s : State} (f : Zone → Zone)
    (h : (∀ y, s.holdsIn y z = false) ∨ s.zoneHalted z = true) : s.changeZone z f = s.updZone z f := by
  rcases h with h | h
  · unfold changeZone
    simp only
    split
    · exact haltZone_of_empty fun y => (holdsIn_congr (a := s) rfl rfl z).trans (h y)
    · rfl
  · exact changeZone_of_halted f h

/-! ### The intruder (R90) -/

/-- An intruder joins the zone's intruder set, unless the zone's policy halts one vehicle only (R68). -/
def intruderJoins (v : VehicleIx) (z : ZoneIx) (s : State) : State :=
  if (s.zone z).haltOne then s else s.changeZone z fun x => { x with intruders := setWith x.intruders v.val }

/-- The zone joins the vehicle's intrusion zones. -/
def markIntrusion (v : VehicleIx) (z : ZoneIx) (s : State) : State :=
  s.updVehicle v fun x => { x with intrusionZones := setWith x.intrusionZones z.val }

/-- The vehicle gains INTRUSION, with a HOLD unless it had it. -/
def holdIntruder (v : VehicleIx) (s : State) : State :=
  if (s.vehicle v).causes.intrusion then s
  else (s.updVehicle v fun x => { x with causes := { x.causes with intrusion := true } }).sendHold v

theorem zoneIntruded_of_found {v : VehicleIx} {z : ZoneIx} {s : State} (h : ∀ y, (s.zone y).lost.getLsbD v.val = false) :
    s.zoneIntruded v z = (s.intruderJoins v z, []) := by
  refine foldl_eq_self fun y _ => if_neg ?_
  have hlost : ((s.intruderJoins v z).zone y).lost = (s.zone y).lost := by
    unfold intruderJoins
    split
    · rfl
    · rw [zone_changeZone]
      split
      next hy => rw [hy]
      next => rfl
  exact Bool.not_eq_true _ ▸ (congrArg (fun m => setHas m v.val) hlost).trans (h y)

/-- The found intruder's zone and hold, when no zone's halt is lifted by it. -/
theorem vehicleIntrudes_of_zone {v : VehicleIx} {z : ZoneIx} {c : Nat} {s t : State} (hz : s.zoneOf? c = some z)
    (ht : (((if (s.vehicle v).status = .lost then s.regain v else s).raise .intrusion (num v)).markIntrusion v z).zoneIntruded
      v z = (t, [])) :
    s.vehicleIntrudes v c = if (s.vehicle v).status = .lost then (t.holdIntruder v).takeUp v else t.holdIntruder v := by
  have hzone : ((if (s.vehicle v).status = .lost then s.regain v else s).raise .intrusion (num v)).zoneOf? c = some z := by
    have htcu : ((if (s.vehicle v).status = .lost then s.regain v else s).raise .intrusion (num v)).tcu = s.tcu := by
      rw [(LinkOp.raise ..).tcu_eq]
      split <;> rfl
    rw [zoneOf?, configured, seg, htcu]
    exact hz
  have hmark := ht
  unfold markIntrusion at hmark
  unfold vehicleIntrudes
  simp only [decide_eq_true_eq, hzone, hmark]
  rfl

end State

section Vpos

variable {v : VehicleIx} {segment motion : Byte} {load : Word} {s : State}

/-- A vehicle seen off its claims is found intruding. -/
theorem vposTaken_of_intruder (hworks : (s.vehicle v).status ≠ .off) (hconf : (s.seg segment.toNat).capacity ≠ 0)
    (hclaims : ∀ k ∈ (s.vehicle v).claims, k.seg ≠ segment.toNat)
    (haway : (s.vehicle v).claims ≠ [] ∨ ((s.vehicle v).currentSeg ≠ 0 ∧ (s.vehicle v).currentSeg ≠ segment.toNat)) :
    s.vposTaken segment motion load 0 v =
      ((s.setVehicle v { (s.vehicle v).reported motion load s.clock with supCount := 0 }).vehicleIntrudes v
        segment.toNat).updVehicle v fun x => { x with currentSeg := segment.toNat } := by
  obtain ⟨f, hcur, hplace, hfinding⟩ : ∃ f,
      (s.setVehicle v { (s.vehicle v).reported motion load s.clock with supCount := 0 }).takeCurrent v segment.toNat =
        (f, s.setVehicle v { (s.vehicle v).reported motion load s.clock with supCount := 0 }) ∧ f ≠ .noPosition ∧
      State.isIntrusion f segment.toNat (s.vehicle v).currentSeg = true := by
    refine ⟨_, State.takeCurrent_of_notHeld hconf (by rw [State.vehicle_setVehicle_self]; exact hclaims), ?_⟩
    rw [State.vehicle_setVehicle_self]
    split
    next h =>
      obtain ⟨h0, hc⟩ := haway.resolve_left (not_not_intro h)
      exact ⟨by decide, decide_eq_true ⟨hc.symm, h0⟩⟩
    next => exact ⟨by decide, rfl⟩
  rw [State.vposTaken_of_finding hworks hcur, if_neg hplace, if_pos hfinding, State.asked_zero]

end Vpos

namespace State

variable {v : VehicleIx} {z : ZoneIx} {c : Nat} {s : State}

/-- A vehicle that was not LOST is found intruding. -/
theorem vehicleIntrudes_of_found (hz : s.zoneOf? c = some z) (hworks : (s.vehicle v).status ≠ .lost)
    (hlost : ∀ y, (s.zone y).lost.getLsbD v.val = false) :
    s.vehicleIntrudes v c =
      ((((s.raise .intrusion (num v)).markIntrusion v z).intruderJoins v z).holdIntruder v) := by
  have hflagged := zoneIntruded_of_found (v := v) (z := z) (s := (s.raise .intrusion (num v)).markIntrusion v z)
    fun y => (congrArg (fun a : Zone => a.lost.getLsbD v.val) ((LinkOp.raise ..).zone_eq s y)).trans (hlost y)
  rw [vehicleIntrudes_of_zone hz (by rw [if_neg hworks]; exact hflagged), if_neg hworks]

theorem raise_markIntrusion (x : Vehicle) (s : State) :
    ((s.setVehicle v x).raise .intrusion (num v)).markIntrusion v z =
      (s.raise .intrusion (num v)).setVehicle v { x with intrusionZones := setWith x.intrusionZones z.val } := by
  rw [(LinkOp.raise .intrusion (num v)).setVehicle, markIntrusion, updVehicle_setVehicle]

theorem holdIntruder_of_held (h : (s.vehicle v).causes.intrusion = true) : s.holdIntruder v = s := if_pos h

theorem holdIntruder_of_new (h : (s.vehicle v).causes.intrusion = false) :
    s.holdIntruder v = (s.updVehicle v fun x => { x with causes := { x.causes with intrusion := true } }).sendHold v :=
  if_neg (by rw [h]; decide)

theorem takeUp_of_halted (hmode : s.sfu.mode = .normal) (hwaits : s.waitsFor? v = none)
    (h : (s.vehicle v).causes.none = false) : s.takeUp v = s := by
  rw [takeUp, serveWaiting_of_none hwaits, tryCalls_of_normal hmode, ite_self, forwardAndTell_of_waits (.inr (.inl h))]

theorem takeUp_of_nil (hmode : s.sfu.mode = .normal) (hwaits : s.waitsFor? v = none)
    (h : (s.vehicle v).queue = []) : s.takeUp v = s := by
  rw [takeUp, serveWaiting_of_none hwaits, tryCalls_of_normal hmode, ite_self, forwardAndTell_of_nil h]

theorem updZone_congr {f g : Zone → Zone} (h : f (s.zone z) = g (s.zone z)) : s.updZone z f = s.updZone z g := by
  rw [updZone, updZone, h]

theorem updZone_updZone (f g : Zone → Zone) : (s.updZone z f).updZone z g = s.updZone z fun a => g (f a) := by
  have hzone : (s.updZone z f).zone z = f (s.zone z) := by rw [zone_updZone, if_pos rfl]
  rw [updZone, hzone]
  simp only [updZone, Vector.set_set]

theorem setWith_setWith {w : Nat} (m : BitVec w) (i : Nat) : setWith (setWith m i) i = setWith m i := by
  rw [setWith, setWith, BitVec.or_assoc, BitVec.or_self]

/-- A LOST vehicle passes from the lost set of the one zone in which it is to that zone's intruder set; the halt stays. -/
theorem zoneIntruded_of_lost (hpolicy : (s.zone z).haltOne = false) (hz : (s.zone z).lost.getLsbD v.val = true)
    (hothers : ∀ y, y ≠ z → (s.zone y).lost.getLsbD v.val = false) :
    s.zoneIntruded v z = (s.updZone z fun a => { a with
      lost := setWithout a.lost v.val, intruders := setWith a.intruders v.val }, []) := by
  have hhalted : s.zoneHalted z = true := zoneHalted_iff.2 (.inl fun h => by rw [h] at hz; simp at hz)
  let joined := s.updZone z fun a => { a with intruders := setWith a.intruders v.val }
  let moved := s.updZone z fun a => { a with lost := setWithout a.lost v.val, intruders := setWith a.intruders v.val }
  have hjoin : (if (s.zone z).haltOne then s else s.changeZone z fun a => { a with intruders := setWith a.intruders v.val }) =
      joined := by
    rw [hpolicy]
    exact changeZone_of_halted _ hhalted
  have hmoved : joined.updZone z (fun a => { a with
      lost := setWithout a.lost v.val
      intruders := if a.haltOne then a.intruders else setWith a.intruders v.val }) = moved := by
    rw [updZone_updZone]
    refine updZone_congr ?_
    simp only [hpolicy, Bool.false_eq_true, if_false, setWith_setWith]
  have hstill : moved.zoneHalted z = true := zoneHalted_updZone.2 (.inr (setWith_ne_zero _ v.isLt))
  have hstays : moved.liftIfClear z true = (moved, []) := if_neg (by rw [hstill]; decide)
  have hlost : setHas (joined.zone z).lost v.val = true := by rw [zone_updZone, if_pos rfl]; exact hz
  obtain ⟨hmem, hnodup⟩ := mem_finRange_nodup z
  unfold zoneIntruded
  simp only [hjoin]
  have hstep : (if setHas (joined.zone z).lost v.val = true then
      (((joined.updZone z (fun a => { a with
        lost := setWithout a.lost v.val
        intruders := if a.haltOne then a.intruders else setWith a.intruders v.val })).liftIfClear z true).1,
        [] ++ ((joined.updZone z (fun a => { a with
          lost := setWithout a.lost v.val
          intruders := if a.haltOne then a.intruders else setWith a.intruders v.val })).liftIfClear z true).2)
      else (joined, [])) = (moved, ([] : List VehicleIx)) := by
    rw [if_pos hlost, hmoved, hstays]
    rfl
  refine (foldl_of_single hmem hnodup (fun y _ hy => if_neg ?_) fun y _ hy => ?_).trans hstep
  · rw [zone_updZone, if_neg hy.symm, setHas, hothers y hy]
    decide
  · rw [hstep]
    refine if_neg ?_
    rw [zone_updZone, if_neg hy.symm, setHas, hothers y hy]
    decide

/-- A vehicle seen on its occupied claim releases nothing. -/
theorem takeCurrent_of_head {k : TrackClaim} {keep : List TrackClaim} (hconf : (s.seg c).capacity ≠ 0)
    (hclaims : (s.vehicle v).claims = k :: keep) (hk : k.seg = c) (hwaits : s.waitsFor? v = none) :
    s.takeCurrent v c =
      (.held, s.setVehicle v { s.vehicle v with pointer := max (s.vehicle v).pointer (k.pos.getD 0) }) := by
  have hsame : { s.vehicle v with pointer := max (s.vehicle v).pointer (k.pos.getD 0), claims := k :: keep } =
      { s.vehicle v with pointer := max (s.vehicle v).pointer (k.pos.getD 0) } := by rw [← hclaims]
  rw [takeCurrent_of_held (gone := []) hconf hclaims hk fun g hg => absurd hg List.not_mem_nil,
    leavePassed_of_none (s := s.setVehicle v _) hwaits, releaseClaims_nil, updVehicle_setVehicle, hsame]

/-- A LOST vehicle as it comes back (R89). -/
def regained (x : Vehicle) : Vehicle :=
  { x with status := if x.beforeLoss = .busy then .busy else .idle, retryCount := 0, supCount := 0 }

theorem regain_eq (v : VehicleIx) (s : State) : s.regain v = s.setVehicle v (regained (s.vehicle v)) := by
  rw [regain, updVehicle, regained]
  cases (s.vehicle v).beforeLoss <;> rfl

theorem waitsFor?_congr {a b : State} (h : b.tcu = a.tcu) (v : VehicleIx) : b.waitsFor? v = a.waitsFor? v := by
  rw [waitsFor?, waitsFor?, h]

/-- A LOST vehicle that is in no lost set returns: no halt is lifted, and its queue is empty. -/
theorem vehicleReturns_of_found (hmode : s.sfu.mode = .normal) (hlost : ∀ y, (s.zone y).lost.getLsbD v.val = false)
    (hcauses : (s.vehicle v).causes.none = true) (hwaits : s.waitsFor? v = none) (hqueue : (s.vehicle v).queue = []) :
    s.vehicleReturns v = (s.setVehicle v (regained (s.vehicle v))).sendRelease v := by
  have hrelease := LinkOp.sendRelease v
  have hsets : (s.setVehicle v (regained (s.vehicle v))).leaveLostSets v = (s.setVehicle v (regained (s.vehicle v)), []) :=
    leaveLostSets_of_none hlost
  unfold vehicleReturns
  rw [regain_eq, hsets]
  simp only [List.filter_nil, resumeAll, List.foldl_nil, vehicle_setVehicle_self, List.contains_nil, Bool.not_false, Bool.and_true]
  rw [if_pos (by exact hcauses)]
  refine takeUp_of_nil ((mode_sendRelease v _).trans hmode) ((hrelease.waitsFor?_eq _ v).trans hwaits) ?_
  rw [hrelease.vehicle_eq, vehicle_setVehicle_self]
  exact hqueue

end State

/-- Settles O20: an intruder by the zone's policy, a LOST vehicle by where it is seen. -/
theorem vposOfIntruderAndOfLostVehicle : Obligations.VposOfIntruderAndOfLostVehicle := by
  refine ⟨fun v z dst src segment motion load s hheard => ?alone, fun v z dst src segment motion load s hheard => ?whole,
    fun v dst src segment motion load k keep s hheard hmode => ?returns, fun v z dst src segment motion load s hheard hmode => ?lost⟩
  case alone =>
    intro x c sent hconf hzone hpolicy hlost hworks hclaims haway seen halted u
    have hon : x.status ≠ .off ∧ x.status ≠ .lost := by rcases hworks with h | h <;> simp [h]
    have hz : s.zoneOf? c = some z := State.zoneOf?_eq_some.2 ⟨hconf, hzone⟩
    have hjoins : (u.setVehicle v seen).intruderJoins v z = u.setVehicle v seen :=
      if_pos ((congrArg Zone.haltOne ((LinkOp.raise .intrusion (num v)).zone_eq s z)).trans hpolicy)
    have hfound : s.vposTaken segment motion load 0 v = (((u.setVehicle v seen).holdIntruder v).updVehicle v fun y =>
        { y with currentSeg := c }) := by
      rw [vposTaken_of_intruder hon.1 hconf hclaims haway, State.vehicleIntrudes_of_found (s := s.setVehicle v _) hz
        (by rw [State.vehicle_setVehicle_self]; exact hon.2) hlost, State.raise_markIntrusion]
      exact congrArg (fun w : State => (w.holdIntruder v).updVehicle v fun y => { y with currentSeg := c }) hjoins
    refine ⟨fun h => ?_, fun h => ?_⟩
    · rw [exec_vpos segment motion load 0 hheard, hfound,
        State.holdIntruder_of_held (by rw [State.vehicle_setVehicle_self]; exact h), State.updVehicle_setVehicle]
      rfl
    · have hhold := (LinkOp.sendVehicle v clsHold [halted.causes.byte]).vehicle_eq (u.setVehicle v halted) v
      rw [exec_vpos segment motion load 0 hheard, hfound,
        State.holdIntruder_of_new (by rw [State.vehicle_setVehicle_self]; exact h), State.updVehicle_setVehicle,
        State.updVehicle, State.vehicle_sendHold, State.vehicle_setVehicle_self]
      rfl
  case whole =>
    intro x c hconf hzone hpolicy hlost hworks hintrusion hclaims haway sent inZone free seen joined
    have hon : x.status ≠ .off ∧ x.status ≠ .lost := by rcases hworks with h | h <;> simp [h]
    have hz : s.zoneOf? c = some z := State.zoneOf?_eq_some.2 ⟨hconf, hzone⟩
    have hraise := LinkOp.raise .intrusion (num v)
    let u := s.raise .intrusion (num v)
    let marked : Vehicle := { x with
      motion := motion, repLoad := load, lastReport := s.clock, supCount := 0
      intrusionZones := setWith x.intrusionZones z.val }
    let w := u.setVehicle v marked
    let join (a : Zone) : Zone := { a with intruders := setWith a.intruders v.val }
    have hw (y : ZoneIx) : w.zone y = s.zone y := hraise.zone_eq s y
    have hjoins : w.intruderJoins v z = w.changeZone z join := if_neg (by rw [hw, hpolicy]; decide)
    have hfound : s.vposTaken segment motion load 0 v = (((w.changeZone z join).holdIntruder v).updVehicle v fun y =>
        { y with currentSeg := c }) := by
      rw [vposTaken_of_intruder hon.1 hconf hclaims haway, State.vehicleIntrudes_of_found (s := s.setVehicle v _) hz
        (by rw [State.vehicle_setVehicle_self]; exact hon.2) hlost, State.raise_markIntrusion]
      exact congrArg (fun w : State => (w.holdIntruder v).updVehicle v fun y => { y with currentSeg := c }) hjoins
    have hin (y : VehicleIx) : w.holdsIn y z = true ↔ inZone y := by
      have hsame : w.holdsIn y z = s.holdsIn y z := State.holdsIn_congr
        (by rw [State.vehicle_setVehicle]
            split
            next hy => subst hy; rfl
            next => rw [hraise.vehicle_eq]) (by show u.tcu.segments = _; rw [hraise.tcu_eq]) z
      rw [hsame, State.holdsIn_iff]
    have hfree : w.zoneHalted z = false ↔ free := by
      rw [Bool.eq_false_iff, Ne, State.zoneHalted_iff, hw, not_or, not_not, not_not]
    have hnew : (join (w.zone z)).lost ≠ 0 ∨ (join (w.zone z)).intruders ≠ 0 := .inr (State.setWith_ne_zero _ v.isLt)
    have hzoned {y : VehicleIx} (h : free ∧ inZone y) : (w.changeZone z join).vehicle y = State.zoned (w.vehicle y) :=
      (State.vehicle_changeZone y hnew).trans (if_pos ⟨hfree.2 h.1, (hin y).2 h.2⟩)
    have hkept {y : VehicleIx} (h : ¬(free ∧ inZone y)) : (w.changeZone z join).vehicle y = w.vehicle y :=
      (State.vehicle_changeZone y hnew).trans (if_neg fun hc => h ⟨hfree.1 hc.1, (hin y).1 hc.2⟩)
    have hcauses : ((w.changeZone z join).vehicle v).causes.intrusion = false := by
      by_cases h : free ∧ inZone v
      · rw [hzoned h, State.vehicle_setVehicle_self]
        exact hintrusion
      · rw [hkept h, State.vehicle_setVehicle_self]
        exact hintrusion
    rw [State.holdIntruder_of_new hcauses] at hfound
    have hexec := exec_vpos segment motion load 0 hheard
    rw [hfound] at hexec
    let t := (((w.changeZone z join).updVehicle v fun y =>
      { y with causes := { y.causes with intrusion := true } }).sendHold v).updVehicle v fun y => { y with currentSeg := c }
    have htcu : t.tcu = (w.updZone z join).tcu := by
      rw [State.updVehicle_tcu, State.tcu_sendHold, State.updVehicle_tcu, State.tcu_changeZone]
    have hutcu : u.tcu = s.tcu := hraise.tcu_eq s
    have hmoves : Moves [.ltu, .flags, .vehicles, .tcu] s t :=
      (((((Moves.raise .intrusion (num v) s).mono.next (Moves.setVehicle v marked _)).next (Moves.changeZone z join _)).next
        (Moves.updVehicle v _ _)).next (Moves.sendHold v _)).next (Moves.updVehicle v _ _)
    refine ⟨⟨t, hexec, fun y => ?_, ?_, fun y hy => ?_, ?_⟩, fun hquiet => ?_⟩
    · rcases eq_or_ne v y with rfl | hne
      · simp only [t, State.vehicle_updVehicle, if_true, State.vehicle_sendHold, decide_true, Bool.or_true]
        by_cases h : free ∧ inZone v
        · rw [hzoned h, State.vehicle_setVehicle_self]
          exact ⟨rfl, fun _ _ => rfl, fun hnot => absurd h hnot⟩
        · rw [hkept h, State.vehicle_setVehicle_self]
          exact ⟨rfl, fun h1 h2 => absurd ⟨h1, h2⟩ h, fun _ => rfl⟩
      · have hwy : w.vehicle y = s.vehicle y := by
          rw [State.vehicle_setVehicle, if_neg hne, hraise.vehicle_eq]
        simp only [t, State.vehicle_updVehicle, if_neg hne, if_neg hne.symm, State.vehicle_sendHold, decide_eq_false hne.symm,
          Bool.or_false]
        by_cases h : free ∧ inZone y
        · rw [hzoned h, hwy]
          exact ⟨rfl, fun _ _ => rfl, fun hnot => absurd h hnot⟩
        · rw [hkept h, hwy]
          exact ⟨rfl, fun h1 h2 => absurd ⟨h1, h2⟩ h, fun _ => rfl⟩
    · rw [State.zone_congr htcu, State.zone_updZone, if_pos rfl, hw]
      rfl
    · rw [State.zone_congr htcu, State.zone_updZone, if_neg hy.symm, hw]
    · have hkeep : { s.tcu with zones := t.tcu.zones } = t.tcu := by
        rw [htcu, ← hutcu]
        rfl
      rw [hkeep]
      exact eq_of_moves_track hmoves
    · have hstill : w.changeZone z join = (u.updZone z fun _ => joined).setVehicle v marked := by
        have hjoined : u.updZone z join = u.updZone z fun _ => joined := State.updZone_congr (by rw [hraise.zone_eq]; rfl)
        rw [State.changeZone_of_quiet join (hquiet.imp (fun h y => Bool.eq_false_iff.2 (mt (hin y).1 (h y)))
          fun h => Bool.not_eq_false _ ▸ mt hfree.1 h), ← hjoined]
        rfl
      rw [hexec, hstill, State.updVehicle_setVehicle, State.updVehicle, State.vehicle_sendHold, State.vehicle_setVehicle_self]
      rfl
  case returns =>
    intro x c sent hconf hstatus hclaims hk hqueue hwaits hlost hcauses back
    let seen : Vehicle := { x.reported motion load s.clock with supCount := 0 }
    let w := s.setVehicle v { seen with pointer := max x.pointer (k.pos.getD 0) }
    have hcur : (s.setVehicle v seen).takeCurrent v c = (.held, w) := by
      rw [State.takeCurrent_of_head (s := s.setVehicle v seen) hconf (by rw [State.vehicle_setVehicle_self]; exact hclaims) hk hwaits,
        State.vehicle_setVehicle_self, State.setVehicle_setVehicle]
      rfl
    have hreturns : w.vehicleReturns v = (s.setVehicle v back).sendRelease v := by
      rw [State.vehicleReturns_of_found (s := w) hmode hlost
        (by rw [State.vehicle_setVehicle_self]; exact State.causes_none_iff.2 hcauses) hwaits
        (by rw [State.vehicle_setVehicle_self]; exact hqueue), State.vehicle_setVehicle_self, State.setVehicle_setVehicle]
      rfl
    have hheld : State.isIntrusion .held c x.currentSeg = false := rfl
    rw [exec_vpos segment motion load 0 hheard, State.vposTaken_of_finding (by rw [hstatus]; decide) hcur,
      if_neg (by decide), if_neg (by rw [hheld]; decide), if_pos hstatus, hreturns, State.asked_zero, State.updVehicle,
      (LinkOp.sendRelease v).vehicle_eq, State.vehicle_setVehicle_self]
    rfl
  case lost =>
    intro x c hconf hzone hstatus hintrusion hwaits hclaims haway hothers sent back found flagged
    have hraise := LinkOp.raise .intrusion (num v)
    have hz : s.zoneOf? c = some z := State.zoneOf?_eq_some.2 ⟨hconf, hzone⟩
    let seen : Vehicle := { x.reported motion load s.clock with supCount := 0 }
    let w := flagged.setVehicle v
      { State.regained seen with intrusionZones := setWith x.intrusionZones z.val }
    have hw (y : ZoneIx) : w.zone y = s.zone y := hraise.zone_eq s y
    have hmarked : (((s.setVehicle v seen).regain v).raise .intrusion (num v)).markIntrusion v z = w := by
      rw [State.regain_eq, State.vehicle_setVehicle_self, State.setVehicle_setVehicle, State.raise_markIntrusion]
      rfl
    have hseen : ((s.setVehicle v seen).vehicle v).status = .lost := by rw [State.vehicle_setVehicle_self]; exact hstatus
    have hanswer {u : State} (hjoin : w.zoneIntruded v z = (u.setVehicle v (w.vehicle v), []))
        (htcu : u.waitsFor? v = none) (hnormal : u.sfu.mode = .normal) :
        exec (.vpos dst src segment motion load 0) s = .next ((found u).placeUpper sent) := by
      have hnew : ((u.setVehicle v (w.vehicle v)).vehicle v).causes.intrusion = false := by
        rw [State.vehicle_setVehicle_self, State.vehicle_setVehicle_self]
        exact hintrusion
      have hheld : (u.setVehicle v (w.vehicle v)).holdIntruder v = (u.setVehicle v back).sendHold v := by
        rw [State.holdIntruder_of_new hnew, State.updVehicle_setVehicle, State.vehicle_setVehicle_self]
        rfl
      have hcauses : (((u.setVehicle v back).sendHold v).vehicle v).causes.none = false := by
        rw [State.vehicle_sendHold, State.vehicle_setVehicle_self]
        simp [back, Causes.none]
      have hintrudes : (s.setVehicle v seen).vehicleIntrudes v c = (u.setVehicle v back).sendHold v := by
        rw [State.vehicleIntrudes_of_zone (s := s.setVehicle v seen) hz (by rw [if_pos hseen, hmarked]; exact hjoin),
          if_pos hseen, hheld]
        refine State.takeUp_of_halted ?_ ((LinkOp.sendVehicle v clsHold _).waitsFor?_eq _ v |>.trans htcu) hcauses
        exact ((Moves.sendHold v _).same .mode (by decide)).trans hnormal
      rw [exec_vpos segment motion load 0 hheard, vposTaken_of_intruder (by rw [hstatus]; decide) hconf hclaims haway,
        hintrudes, State.updVehicle, State.vehicle_sendHold, State.vehicle_setVehicle_self]
      rfl
    have hmode' : flagged.sfu.mode = .normal := ((Moves.raise .intrusion (num v) s).same .mode (by decide)).trans hmode
    have hwaits' : flagged.waitsFor? v = none := (hraise.waitsFor?_eq s v).trans hwaits
    refine ⟨fun hpolicy hin => ?_, fun hpolicy hin => ?_⟩
    · refine hanswer ?_ ?_ hmode'
      · rw [State.zoneIntruded_of_lost (by rw [hw]; exact hpolicy) (by rw [hw]; exact hin) fun y hy => by rw [hw]; exact hothers y hy,
          State.vehicle_setVehicle_self]
        rfl
      · exact hwaits'
    · refine hanswer (u := flagged) ?_ hwaits' hmode'
      have hnone (y : ZoneIx) : (w.zone y).lost.getLsbD v.val = false := by
        rw [hw]
        rcases eq_or_ne y z with rfl | hy
        · exact hin
        · exact hothers y hy
      rw [State.zoneIntruded_of_found hnone, State.intruderJoins, if_pos (by rw [hw]; exact hpolicy),
        State.vehicle_setVehicle_self]

end Sys2Proof.Machine
end

section
/-! PROOFS. Supervision, the halt of a zone by a LOST vehicle, and how that halt is lifted (R68, R69, R86, R87, R95). -/

namespace Sys2Proof.Machine

namespace State

variable {v : VehicleIx} {z : ZoneIx} {s : State}

theorem sendVehicle_of_entry {e : NodeEntry} (cls : Byte) (body : List Byte) (h : s.vehicleEntry? v = some e) :
    s.sendVehicle v cls body = s.placeUrgent ⟨e.addr, s.ownAddr, cls, body⟩ := by
  simp only [sendVehicle, h]

/-! ### Due events -/

/-- The state with a due event taken off the list (log 7). -/
def takenDue (d : Due) (s : State) : State := { s with due := s.due.filter (· ≠ d) }

theorem onDue_of_absent {d : Due} (holds : State → Bool) (act : State → State) (h : d ∉ s.due) : s.onDue d holds act = s :=
  if_neg (mt List.contains_iff_mem.1 h)

theorem onDue_of_due {d : Due} (holds : State → Bool) (act : State → State) (h : d ∈ s.due) :
    s.onDue d holds act = if holds (s.takenDue d) then act (s.takenDue d) else s.takenDue d :=
  if_pos (List.contains_iff_mem.2 h)

/-! ### The loss of a vehicle (R86, R87) -/

theorem supervisionOver_of_entry {e : NodeEntry} (hrun : s.running = true) (he : s.vehicleEntry? v = some e) :
    s.supervisionOver v = true ↔
      ((s.vehicle v).status = .idle ∨ (s.vehicle v).status = .busy) ∧ e.period ≤ (s.vehicle v).supCount := by
  simp [supervisionOver_iff, hrun, he]

theorem retryOver_of_running (hrun : s.running = true) :
    s.retryOver v = true ↔ (s.vehicle v).status = .lost ∧ (s.vehicle v).retryLimit ≤ (s.vehicle v).retryCount := by
  simp [retryOver_iff, hrun]

/-- A vehicle's record when it becomes LOST (R87). -/
def lostRecord (interval : Nat) (x : Vehicle) : Vehicle :=
  { x with beforeLoss := if x.status = .busy then .busy else .idle, status := .lost, retryCount := 0, retryLimit := interval }

theorem loseVehicle_eq {e : NodeEntry} (he : s.vehicleEntry? v = some e) :
    s.loseVehicle v =
      (((s.setVehicle v (lostRecord s.vou.retryInterval (s.vehicle v))).raise .vehicleLost (num v)).placeUrgent
        ⟨e.addr, s.ownAddr, clsHold, [holdLost ||| (s.vehicle v).causes.byte]⟩).zoneLost v := by
  have hraise := LinkOp.raise .vehicleLost (num v)
  let lost := s.setVehicle v (lostRecord s.vou.retryInterval (s.vehicle v))
  have hcauses : ((lost.raise .vehicleLost (num v)).vehicle v).causes = (s.vehicle v).causes := by
    rw [hraise.vehicle_eq, vehicle_setVehicle_self]
    rfl
  have hown : (lost.raise .vehicleLost (num v)).ownAddr = s.ownAddr := by
    have hstraps := (Moves.raise .vehicleLost (num v) lost).same .straps (by decide)
    rw [ownAddr, (Prod.mk.inj hstraps).1]
    rfl
  show ((lost.raise .vehicleLost (num v)).sendHoldLost v).zoneLost v = _
  rw [sendHoldLost_of_causes hcauses, sendVehicle_of_entry (s := lost.raise _ _) _ _ ((hraise.entry_eq _ v).trans he), hown]

theorem zoneLost_of_alone (h : ∀ z : ZoneIx, (s.seg (s.vehicle v).currentSeg).zone = num z → (s.zone z).haltOne = true) :
    s.zoneLost v = s := by
  unfold zoneLost
  split
  next z hz => exact if_pos (h z (zoneOf?_eq_some.1 hz).2)
  next => rfl

theorem zoneLost_of_whole (hz : s.zoneOf? (s.vehicle v).currentSeg = some z) (h : (s.zone z).haltOne = false) :
    s.zoneLost v = s.changeZone z fun x => { x with lost := setWith x.lost v.val } := by
  simp only [zoneLost, hz, h, Bool.false_eq_true, if_false]

end State

/-- Settles O22: a due event by its presence and by its condition. -/
theorem lostVehicleIsHeld : Obligations.LostVehicleIsHeld := by
  intro v e s hhigh hrun he x taken
  have hlose {t : State} (h : s.onDue (.vehicleLost v) (State.supervisionOver v) (State.loseVehicle v) = t) :
      exec (.vehicleLost v) s = .next t := (awake_of_rstHigh _ hhigh).trans (congrArg _ h)
  have hretry {t : State} (h : s.onDue (.lostRetry v) (State.retryOver v) (State.retryHold v) = t) :
      exec (.lostRetryHold v) s = .next t := (awake_of_rstHigh _ hhigh).trans (congrArg _ h)
  have hover := State.supervisionOver_of_entry (v := v) (s := s.takenDue (.vehicleLost v)) hrun he
  have hagain := State.retryOver_of_running (v := v) (s := s.takenDue (.lostRetry v)) hrun
  refine ⟨fun hdue hworks hperiod hpolicy => ?lost, fun hdue hwhy => hlose ?_, fun hdue hstatus hcount => ⟨_, hretry rfl, ?retry⟩,
    fun hdue hstatus => hretry ?_, fun hdue => hlose (State.onDue_of_absent _ _ hdue), fun hdue => hretry (State.onDue_of_absent _ _ hdue)⟩
  case lost =>
    intro lost
    let w := ((taken (.vehicleLost v)).setVehicle v lost).raise .vehicleLost (num v)
    have hop : LinkOp fun u => (u.raise .vehicleLost (num v)).placeUrgent ⟨e.addr, s.ownAddr, clsHold, [holdLost ||| x.causes.byte]⟩ :=
      (LinkOp.raise ..).comp (LinkOp.placeUrgent _)
    refine hlose ?_
    rw [State.onDue_of_due _ _ hdue, if_pos (hover.2 ⟨hworks, hperiod⟩), State.loseVehicle_eq (s := s.takenDue _) he,
      State.zoneLost_of_alone]
    · rfl
    · intro z hz
      have hv := hop.vehicle_eq ((taken (.vehicleLost v)).setVehicle v lost) v
      have hseg := hop.seg_eq ((taken (.vehicleLost v)).setVehicle v lost) x.currentSeg
      rw [State.vehicle_setVehicle_self] at hv
      exact (congrArg Zone.haltOne (hop.zone_eq _ z)).trans (hpolicy z ((congrArg Segment.zone hseg).symm.trans
        ((congrArg (fun y : Vehicle => (State.seg _ y.currentSeg).zone) hv).symm.trans hz)))
  · rw [State.onDue_of_due _ _ hdue, if_neg]
    · rfl
    · intro hc
      obtain ⟨hworks, hperiod⟩ := hover.1 hc
      rcases hwhy with h | h | h
      · rcases hworks with hw | hw <;> exact absurd (h.symm.trans hw) (by decide)
      · rcases hworks with hw | hw <;> exact absurd (h.symm.trans hw) (by decide)
      · exact absurd hperiod h.not_ge
  case retry =>
    have hhold : (s.takenDue (.lostRetry v)).sendHoldLost v =
        (s.takenDue (.lostRetry v)).placeUrgent ⟨e.addr, s.ownAddr, clsHold, [holdLost ||| x.causes.byte]⟩ :=
      State.sendVehicle_of_entry (s := s.takenDue (.lostRetry v)) _ _ he
    rw [State.onDue_of_due _ _ hdue, if_pos (hagain.2 ⟨hstatus, hcount⟩), State.retryHold, State.updVehicle,
      State.vehicle_sendHoldLost, hhold]
    rfl
  · rw [State.onDue_of_due _ _ hdue, if_neg fun hc => hstatus (hagain.1 hc).1]
    rfl

end Sys2Proof.Machine
end

section
/-! PROOFS. A zone halted by a LOST vehicle, and its halt lifted (R68, R69, R89, R95). -/

namespace Sys2Proof.Machine

theorem Table.mem_of_find {α : Type} {k : Nat} {a : α} : ∀ {l : List (Nat × α)}, Table.find? k l = some a → (k, a) ∈ l
  | (j, b) :: r, h => by
    unfold Table.find? at h
    split at h
    case isTrue hj =>
      subst hj
      cases h
      exact List.mem_cons_self
    case isFalse => exact List.mem_cons_of_mem _ (Table.mem_of_find h)

theorem filter_eq_singleton {α : Type} {p : α → Bool} {a : α} {l : List α} (ha : a ∈ l) (hl : l.Nodup)
    (h : ∀ x, p x = true ↔ x = a) : l.filter p = [a] := by
  obtain ⟨l1, l2, rfl⟩ := List.append_of_mem ha
  have hnot : a ∉ l1 ++ l2 := (List.nodup_middle.1 hl).notMem
  rw [List.mem_append, not_or] at hnot
  have hnone {m : List α} (hm : a ∉ m) : m.filter p = [] :=
    List.filter_eq_nil_iff.2 fun x hx hp => hm ((h x).1 hp ▸ hx)
  rw [List.filter_append, List.filter_cons_of_pos ((h a).2 rfl), hnone hnot.1, hnone hnot.2, List.nil_append]

namespace State

variable {v : VehicleIx} {z : ZoneIx} {s : State}

/-! ### Nobody waits -/

/-- Nobody waits for a segment. -/
def nobodyWaits (s : State) : Prop := ∀ e ∈ s.tcu.segments, e.2.waiters = []

theorem waiters_of_nobodyWaits (h : s.nobodyWaits) (n : Nat) : (s.seg n).waiters = [] := by
  unfold seg Table.get
  cases hn : Table.find? n s.tcu.segments with
  | none => rfl
  | some x => exact h (n, x) (Table.mem_of_find hn)

theorem serve_of_nobodyWaits (h : s.nobodyWaits) (n : Nat) : s.serve n = s := serve_of_nil (waiters_of_nobodyWaits h n)

theorem waitsFor?_of_nobodyWaits (h : s.nobodyWaits) (v : VehicleIx) : s.waitsFor? v = none := by
  have hfind : (s.tcu.segments.find? fun e => e.2.waiters.contains v) = none :=
    List.find?_eq_none.2 fun e he => by rw [h e he, List.contains_nil]; decide
  rw [waitsFor?, hfind, Option.map_none]

/-! ### The lift (R69) -/

/-- A vehicle's record without halt causes. -/
def uncaused (x : Vehicle) : Vehicle := { x with causes := ⟨false, false, false, false⟩ }

/-- A lift that frees one vehicle of its only cause, with nobody to be served. -/
theorem liftZone_of_lone (hwaits : s.nobodyWaits) (hothers : ∀ y, y ≠ z → s.zoneHalted y = false)
    (hzone : ∀ w, w ≠ v → (s.vehicle w).causes.zone = false) (hcauses : (s.vehicle v).causes = ⟨true, false, false, false⟩)
    (hrun : s.running = true) (hoff : (s.vehicle v).status ≠ .off) (hlost : (s.vehicle v).status ≠ .lost) :
    s.liftZone z = ((s.setVehicle v (uncaused (s.vehicle v))).sendRelease v, [v]) := by
  obtain ⟨hmem, hnodup⟩ := mem_finRange_nodup v
  have hkept (w : VehicleIx) : ((List.finRange 8).any fun y => decide (y ≠ z) && s.zoneHalted y && s.holdsIn w y) = false := by
    refine List.any_eq_false.2 fun y _ => ?_
    by_cases hy : y = z
    · simp [hy]
    · simp [hothers y hy]
  have hfreed : ((List.finRange 16).filter fun w => (s.vehicle w).causes.zone &&
      !((List.finRange 8).any fun y => decide (y ≠ z) && s.zoneHalted y && s.holdsIn w y)) = [v] := by
    refine filter_eq_singleton hmem hnodup fun w => ?_
    rw [hkept, Bool.not_false, Bool.and_true]
    rcases eq_or_ne w v with rfl | hw
    · simp [hcauses]
    · simp [hzone w hw, hw]
  have hfree : s.updVehicle v (fun x => { x with causes := { x.causes with zone := false } }) =
      s.setVehicle v (uncaused (s.vehicle v)) := by rw [updVehicle, hcauses, uncaused]
  have hemptied : ([v].filter fun w => ((s.setVehicle v (uncaused (s.vehicle v))).vehicle w).causes.none) = [v] := by
    rw [List.filter_cons_of_pos (by rw [vehicle_setVehicle_self]; rfl), List.filter_nil]
  have hserved : nobodyWaits ((s.setVehicle v (uncaused (s.vehicle v))).sendRelease v) := by
    rw [nobodyWaits, (LinkOp.sendRelease v).tcu_eq]
    exact hwaits
  unfold liftZone
  simp only [hfreed, List.foldl_cons, List.foldl_nil, hfree, hemptied, vehicle_setVehicle_self]
  rw [if_pos ⟨hrun, hoff, hlost⟩, foldl_eq_self fun n _ => serve_of_nobodyWaits hserved n]

/-- A vehicle in the lost set of one zone alone, which its leaving lifts. -/
theorem leaveLostSets_of_lone {u : State} {l : List VehicleIx} (hin : (s.zone z).lost.getLsbD v.val = true)
    (hothers : ∀ y, y ≠ z → (s.zone y).lost.getLsbD v.val = false)
    (hlift : (s.updZone z fun a => { a with lost := setWithout a.lost v.val }).liftIfClear z true = (u, l))
    (hzones : ∀ y, y ≠ z → u.zone y = s.zone y) : s.leaveLostSets v = (u, l) := by
  obtain ⟨hmem, hnodup⟩ := mem_finRange_nodup z
  have hstep : (if setHas (s.zone z).lost v.val then
      (((s.updZone z fun a => { a with lost := setWithout a.lost v.val }).liftIfClear z true).1,
        [] ++ ((s.updZone z fun a => { a with lost := setWithout a.lost v.val }).liftIfClear z true).2)
      else (s, ([] : List VehicleIx))) = (u, l) := by
    refine (if_pos hin).trans ?_
    rw [hlift]
    rfl
  unfold leaveLostSets
  refine (foldl_of_single hmem hnodup (fun y _ hy => if_neg ?_) fun y _ hy => ?_).trans hstep
  · rw [setHas, hothers y hy]
    decide
  · rw [hstep]
    refine if_neg ?_
    rw [setHas, hzones y hy, hothers y hy]
    decide

theorem liftIfClear_of_halted {was : Bool} (h : s.zoneHalted z = true) : s.liftIfClear z was = (s, []) :=
  if_neg (by rw [h, Bool.not_true, Bool.and_false]; decide)

theorem liftIfClear_of_clear (h : s.zoneHalted z = false) : s.liftIfClear z true = s.liftZone z :=
  if_pos (by rw [h]; rfl)

theorem setWithout_twoPow {w i : Nat} : setWithout (BitVec.twoPow w i) i = 0 := by
  rw [setWithout, BitVec.and_not_self]

/-! ### CLEAR-ZONE of a zone without a vehicle inside (R95) -/

theorem clearZone_of_outside (hintruders : (s.zone z).intruders ≠ 0)
    (houtside : ∀ y, (s.vehicle y).intrusionZones.getLsbD z.val = false) {u : State} {l : List VehicleIx}
    (hlift : (s.updZone z fun a => { a with intruders := 0 }).liftIfClear z true = (u, l)) :
    s.clearZone z = u.resumeAll l := by
  have hinside : ((List.finRange 16).filter fun w => setHas (s.vehicle w).intrusionZones z.val) = [] :=
    List.filter_eq_nil_iff.2 fun w _ => by rw [setHas, houtside w]; decide
  have hwas : s.zoneHalted z = true := zoneHalted_iff.2 (.inr hintruders)
  unfold clearZone
  simp only [hinside, List.foldl_nil, List.filter_nil, hwas, hlift,
    List.append_nil, and_true, if_neg hintruders]

theorem resumeVehicle_of_works (hrun : s.running = true) (hoff : (s.vehicle v).status ≠ .off)
    (hlost : (s.vehicle v).status ≠ .lost) : s.resumeVehicle v = s.takeUp v := if_pos ⟨hrun, hoff, hlost⟩

theorem resumeAll_nil (s : State) : s.resumeAll [] = s := rfl

theorem holdsIn_updZone (w : VehicleIx) (y : ZoneIx) (f : Zone → Zone) (s : State) :
    (s.updZone y f).holdsIn w z = s.holdsIn w z := holdsIn_congr rfl rfl z

/-- A LOST vehicle's return that lifts a halt of which it was the only victim. -/
theorem vehicleReturns_of_lifted {u : State}
    (hsets : (s.setVehicle v (regained (s.vehicle v))).leaveLostSets v = (u, [v])) (hmode : u.sfu.mode = .normal)
    (hwaits : u.waitsFor? v = none) (hqueue : (u.vehicle v).queue = []) : s.vehicleReturns v = u := by
  unfold vehicleReturns
  rw [regain_eq, hsets]
  have hself : [v].filter (fun w => decide (w ≠ v)) = [] := by simp
  have hin : [v].contains v = true := by simp
  simp only [hself, hin, resumeAll, List.foldl_nil, Bool.not_true, Bool.and_false, Bool.false_eq_true, if_false]
  exact takeUp_of_nil hmode hwaits hqueue

end State

/-- Settles O23: a LOST vehicle halts its zone, and its return or a CLEAR-ZONE lifts the halt. -/
theorem zonesHaltAndAreLifted : Obligations.ZonesHaltAndAreLifted := by
  refine ⟨fun v e z s hhigh hrun he hdue => ?halts, fun z v s => ?lifted⟩
  case halts =>
    intro x hworks hperiod hconf hzone hpolicy hlost hintruders inZone lost
    let told : State := (((s.takenDue (.vehicleLost v)).setVehicle v lost).raise .vehicleLost (num v)).placeUrgent
      ⟨e.addr, s.ownAddr, clsHold, [holdLost ||| x.causes.byte]⟩
    have hop : LinkOp fun u : State => (u.raise .vehicleLost (num v)).placeUrgent
        ⟨e.addr, s.ownAddr, clsHold, [holdLost ||| x.causes.byte]⟩ := (LinkOp.raise ..).comp (LinkOp.placeUrgent _)
    let join (a : Zone) : Zone := { a with lost := setWith a.lost v.val }
    have hx (y : VehicleIx) : told.vehicle y = if v = y then lost else s.vehicle y :=
      (hop.vehicle_eq _ y).trans (State.vehicle_setVehicle ..)
    have htcu : told.tcu = s.tcu := hop.tcu_eq _
    have hjoined : join (s.zone z) = { s.zone z with lost := BitVec.twoPow 16 v.val } := by
      have hset : setWith (s.zone z).lost v.val = BitVec.twoPow 16 v.val := by
        rw [hlost]
        exact BitVec.zero_or
      simp only [join, hset]
    have hexec : exec (.vehicleLost v) s = .next (told.changeZone z join) := by
      have hover := (State.supervisionOver_of_entry (v := v) (s := s.takenDue (.vehicleLost v)) hrun he).2 ⟨hworks, hperiod⟩
      have hz : told.zoneOf? (told.vehicle v).currentSeg = some z := by
        rw [hx, if_pos rfl]
        refine State.zoneOf?_eq_some.2 ?_
        rw [State.seg, htcu]
        exact ⟨hconf, hzone⟩
      refine (awake_of_rstHigh _ hhigh).trans (congrArg _ ?_)
      rw [State.onDue_of_due _ _ hdue, if_pos hover, State.loseVehicle_eq (s := s.takenDue _) he]
      exact State.zoneLost_of_whole (s := told) hz ((congrArg Zone.haltOne (State.zone_congr htcu z)).trans hpolicy)
    have hin (y : VehicleIx) : told.holdsIn y z = true ↔ inZone y := by
      have hsame : told.holdsIn y z = s.holdsIn y z := State.holdsIn_congr (by
        rw [hx]
        split
        next hy => subst hy; rfl
        next => rfl) (by rw [htcu]) z
      rw [hsame, State.holdsIn_iff]
    have hfree : told.zoneHalted z = false := by
      rw [Bool.eq_false_iff, Ne, State.zoneHalted_iff, State.zone_congr htcu, hlost, hintruders]
      decide
    have hnew : (join (told.zone z)).lost ≠ 0 ∨ (join (told.zone z)).intruders ≠ 0 := .inl (State.setWith_ne_zero _ v.isLt)
    have hzoned {y : VehicleIx} (h : inZone y) : (told.changeZone z join).vehicle y = State.zoned (told.vehicle y) :=
      (State.vehicle_changeZone y hnew).trans (if_pos ⟨hfree, (hin y).2 h⟩)
    have hkept {y : VehicleIx} (h : ¬inZone y) : (told.changeZone z join).vehicle y = told.vehicle y :=
      (State.vehicle_changeZone y hnew).trans (if_neg fun hc => h ((hin y).1 hc.2))
    refine ⟨⟨_, hexec, fun y => ?_, ?_, fun y hy => ?_, ?_⟩, fun y hne honly hzoneless hfound => ?_⟩
    · rcases eq_or_ne v y with rfl | hne
      · rw [if_pos rfl]
        have hv : told.vehicle v = lost := (hx v).trans (if_pos rfl)
        by_cases h : inZone v
        · rw [hzoned h, hv]
          exact ⟨fun _ => rfl, rfl, fun hnot => absurd h hnot⟩
        · rw [hkept h, hv]
          exact ⟨fun hc => absurd hc h, rfl, fun _ => rfl⟩
      · rw [if_neg hne.symm]
        have hy : told.vehicle y = s.vehicle y := (hx y).trans (if_neg hne)
        by_cases h : inZone y
        · rw [hzoned h, hy]
          exact ⟨fun _ => rfl, rfl, fun hnot => absurd h hnot⟩
        · rw [hkept h, hy]
          exact ⟨fun hc => absurd hc h, rfl, fun _ => rfl⟩
    · rw [State.zone_congr (State.tcu_changeZone ..), State.zone_updZone, if_pos rfl, State.zone_congr htcu, hjoined]
    · rw [State.zone_congr (State.tcu_changeZone ..), State.zone_updZone, if_neg hy.symm, State.zone_congr htcu]
    · have hmoves : Moves [.ltu, .flags, .vehicles, .tcu] (s.takenDue (.vehicleLost v)) (told.changeZone z join) :=
        (((Moves.setVehicle v lost _).mono.next (Moves.raise .vehicleLost (num v) _)).next (Moves.placeUrgent _ _)).next
          (Moves.changeZone z join told)
      have hkeep : { s.tcu with zones := (told.changeZone z join).tcu.zones } = (told.changeZone z join).tcu := by
        rw [State.tcu_changeZone, ← htcu]
        rfl
      have hdue' : (told.changeZone z join).due = (s.takenDue (.vehicleLost v)).due := hmoves.same .due (by decide)
      rw [hkeep, hdue']
      exact eq_of_moves_track hmoves
    · have hy : told.vehicle y = s.vehicle y := (hx y).trans (if_neg hne.symm)
      have houtside (w : VehicleIx) (hw : w ≠ y) : (told.updZone z join).holdsIn w z = false := by
        rw [State.holdsIn_updZone, Bool.eq_false_iff, Ne, hin, honly]
        exact hw
      have hinside : (told.updZone z join).holdsIn y z = true := by
        rw [State.holdsIn_updZone, hin, honly]
      have hzone' : told.updZone z join = told.updZone z fun a => { a with lost := BitVec.twoPow 16 v.val } :=
        State.updZone_congr (by rw [State.zone_congr htcu, hjoined])
      rw [hexec, State.changeZone_of_free hfree hnew, State.haltZone_of_single houtside,
        State.haltStep_of_new hinside (by exact (congrArg (fun x : Vehicle => x.causes.zone) hy).trans hzoneless)
          (by exact fun hc => hfound ((congrArg Vehicle.status hy).symm.trans hc)), hzone', State.updVehicle]
      have hrec : (told.updZone z fun a => { a with lost := BitVec.twoPow 16 v.val }).vehicle y = s.vehicle y := hy
      rw [hrec]
      rfl
  case lifted =>
    intro x hmode hothers hwaits hzoneless hcauses hqueue zones
    have hrun := running_of_normal hmode
    have hnone (y : ZoneIx) (hy : y ≠ z) : s.zoneHalted y = false := by
      rw [Bool.eq_false_iff, Ne, State.zoneHalted_iff, (hothers y hy).1, (hothers y hy).2]
      decide
    have hlift {u : State} (hmode : u.sfu.mode = .normal) (hsegs : u.tcu.segments = s.tcu.segments)
        (hzones : ∀ y, y ≠ z → u.zone y = s.zone y) (hother : ∀ w, w ≠ v → u.vehicle w = s.vehicle w)
        (hown : (u.vehicle v).causes = x.causes) (hworks : (u.vehicle v).status = .idle ∨ (u.vehicle v).status = .busy) :
        u.liftZone z = ((u.setVehicle v (State.uncaused (u.vehicle v))).sendRelease v, [v]) := by
      refine State.liftZone_of_lone (by rw [State.nobodyWaits, hsegs]; exact hwaits) (fun y hy => ?_)
        (fun w hw => by rw [hother w hw]; exact hzoneless w hw) (hown.trans hcauses) (running_of_normal hmode)
        (by rcases hworks with h | h <;> simp [h]) (by rcases hworks with h | h <;> simp [h])
      have hsame := hnone y hy
      rw [State.zoneHalted] at hsame ⊢
      rw [hzones y hy]
      exact hsame
    refine ⟨fun dst src segment motion load k keep hheard hlost hintruders => ?returns, fun t rest hready hzone hintruders houtside => ?cleared⟩
    case returns =>
      intro c hconf hstatus hclaims hk back
      have hnobody := State.waitsFor?_of_nobodyWaits hwaits v
      let seen : Vehicle := { x.reported motion load s.clock with supCount := 0 }
      let w := s.setVehicle v { seen with pointer := max x.pointer (k.pos.getD 0) }
      let r : Vehicle := State.regained { seen with pointer := max x.pointer (k.pos.getD 0) }
      let lifted := (s.setVehicle v r).updZone z fun a => { a with lost := setWithout a.lost v.val }
      let u := (lifted.setVehicle v (State.uncaused r)).sendRelease v
      have hrelease := LinkOp.sendRelease v
      have hr : lifted.vehicle v = r := State.vehicle_setVehicle_self ..
      have hclear : lifted.zoneHalted z = false := by
        rw [Bool.eq_false_iff, Ne, State.zoneHalted_updZone, not_or, not_not, not_not]
        exact ⟨(congrArg (fun m => setWithout m v.val) hlost).trans State.setWithout_twoPow, hintruders⟩
      have hstatus' : r.status = .idle ∨ r.status = .busy := by
        simp only [r, State.regained]
        split <;> simp
      have hfree : lifted.liftIfClear z true = (u, [v]) := by
        rw [State.liftIfClear_of_clear hclear, hlift (u := lifted) hmode rfl
          (fun y hy => by rw [State.zone_updZone, if_neg hy.symm]; rfl)
          (fun y hy => by
            show (s.setVehicle v r).vehicle y = _
            rw [State.vehicle_setVehicle, if_neg hy.symm]) (by rw [hr]; rfl) (by rw [hr]; exact hstatus'), hr]
      have hsets : (s.setVehicle v r).leaveLostSets v = (u, [v]) := by
        refine State.leaveLostSets_of_lone (z := z) ?_ (fun y hy => ?_) hfree fun y hy => ?_
        · show (s.zone z).lost.getLsbD v.val = true
          rw [hlost]
          simp
        · show (s.zone y).lost.getLsbD v.val = false
          rw [(hothers y hy).1]
          simp
        · rw [hrelease.zone_eq]
          show lifted.zone y = _
          rw [State.zone_updZone, if_neg hy.symm]
      have hreturns : w.vehicleReturns v = u := by
        refine State.vehicleReturns_of_lifted ?_ ((State.mode_sendRelease v _).trans hmode)
          ((hrelease.waitsFor?_eq _ v).trans hnobody) ?_
        · rw [State.vehicle_setVehicle_self, State.setVehicle_setVehicle]
          exact hsets
        · rw [hrelease.vehicle_eq, State.vehicle_setVehicle_self]
          exact hqueue
      have hcur : (s.setVehicle v seen).takeCurrent v c = (.held, w) := by
        rw [State.takeCurrent_of_head (s := s.setVehicle v seen) hconf (by rw [State.vehicle_setVehicle_self]; exact hclaims) hk
          hnobody, State.vehicle_setVehicle_self, State.setVehicle_setVehicle]
        rfl
      have hheld : State.isIntrusion .held c x.currentSeg = false := rfl
      have hzones : lifted.setVehicle v (State.uncaused r) = (zones { s.zone z with lost := 0 } s).setVehicle v back := by
        have hzone : lifted = (s.updZone z fun _ => { s.zone z with lost := 0 }).setVehicle v r := by
          have hsame : s.updZone z (fun a => { a with lost := setWithout a.lost v.val }) =
              s.updZone z fun _ => { s.zone z with lost := 0 } :=
            State.updZone_congr (by rw [hlost, State.setWithout_twoPow])
          rw [← hsame]
          rfl
        rw [hzone, State.setVehicle_setVehicle]
        rfl
      rw [exec_vpos segment motion load 0 hheard, State.vposTaken_of_finding (by rw [hstatus]; decide) hcur,
        if_neg (by decide), if_neg (by rw [hheld]; decide), if_pos hstatus, hreturns, State.asked_zero, State.updVehicle,
        hrelease.vehicle_eq, State.vehicle_setVehicle_self]
      show Host.Outcome.next (State.placeUpper _ (State.setVehicle v _ (State.sendRelease v (lifted.setVehicle v _)))) = _
      rw [hzones]
      rfl
    case cleared =>
      intro answer
      let u := (s.popped rest).updZone z fun a => { a with intruders := 0 }
      have hu : zones { s.zone z with intruders := 0 } (s.popped rest) = u := rfl
      rw [hu]
      have answers {y : State} {l : List VehicleIx} (h : u.liftIfClear z true = (y, l)) : answer (y.resumeAll l) := by
        refine served hready ?_
        have hclear := State.clearZone_of_outside (s := s.popped rest) hintruders houtside h
        simp only [toIx_of_eq_num hzone, hclear]
        rfl
      refine ⟨fun hlost => ?_, fun hlost hworks => ?_⟩
      · have hanswer := answers (State.liftIfClear_of_halted (State.zoneHalted_updZone.2 (.inl hlost)))
        rw [State.resumeAll_nil] at hanswer
        exact hanswer
      · have hclear : u.zoneHalted z = false := by
          rw [Bool.eq_false_iff, Ne, State.zoneHalted_updZone, not_or, not_not, not_not]
          exact ⟨hlost, rfl⟩
        have hfree := (State.liftIfClear_of_clear hclear).trans (hlift (u := u) hmode rfl
          (fun y hy => by rw [State.zone_updZone, if_neg hy.symm]; rfl) (fun _ _ => rfl) rfl hworks)
        have hrelease := LinkOp.sendRelease v
        let y := (u.setVehicle v (State.uncaused x)).sendRelease v
        have hy : y.vehicle v = State.uncaused x := (hrelease.vehicle_eq _ v).trans (State.vehicle_setVehicle_self ..)
        have hnormal : y.sfu.mode = .normal := (State.mode_sendRelease v _).trans hmode
        have hresumed : y.resumeAll [v] = y := by
          show y.resumeVehicle v = y
          rw [State.resumeVehicle_of_works (running_of_normal hnormal) (by rw [hy]; rcases hworks with h | h <;> simp [State.uncaused, h])
            (by rw [hy]; rcases hworks with h | h <;> simp [State.uncaused, h])]
          exact State.takeUp_of_nil hnormal ((hrelease.waitsFor?_eq _ v).trans (State.waitsFor?_of_nobodyWaits hwaits v))
            (by rw [hy]; exact hqueue)
        have hanswer : answer (y.resumeAll [v]) := answers hfree
        rw [hresumed] at hanswer
        exact hanswer

end Sys2Proof.Machine
end

section
/-! PROOFS. The end of an order by a VDONE (R59, R83, R84). -/

namespace Sys2Proof.Machine

namespace State

variable {v : VehicleIx} {s : State}

/-! ### Service leaves a vehicle that waits nowhere -/

/-- The vehicle is in no waiting list. -/
def waitsNowhere (s : State) (v : VehicleIx) : Prop := ∀ e ∈ s.tcu.segments, v ∉ e.2.waiters

theorem waitsFor?_eq_none : s.waitsFor? v = none ↔ s.waitsNowhere v := by
  rw [waitsFor?, Option.map_eq_none_iff, List.find?_eq_none]
  simp only [List.contains_iff_mem]
  rfl

theorem notMem_waiters (h : s.waitsNowhere v) (n : Nat) : v ∉ (s.seg n).waiters := by
  unfold seg Table.get
  cases hn : Table.find? n s.tcu.segments with
  | none => exact List.not_mem_nil
  | some x => exact h (n, x) (Table.mem_of_find hn)

theorem waitsNowhere_setSeg {x : Segment} (n : Nat) (h : s.waitsNowhere v) (hx : v ∉ x.waiters) :
    (s.setSeg n x).waitsNowhere v := by
  intro e he
  simp only [setSeg, Table.put] at he
  split at he
  · exact h e (Table.mem_erase he)
  · rcases Table.mem_insert he with rfl | he
    · exact hx
    · exact h e he

theorem waitsNowhere_of_tcu {a b : State} (htcu : b.tcu = a.tcu) (h : a.waitsNowhere v) : b.waitsNowhere v := by
  rw [waitsNowhere, htcu]
  exact h

/-- What service keeps for a vehicle: its record, and that it waits nowhere. -/
structure Untouched (v : VehicleIx) (a b : State) : Prop where
  record : b.vehicle v = a.vehicle v
  waits  : a.waitsNowhere v → b.waitsNowhere v

theorem Untouched.refl (a : State) : Untouched v a a := ⟨rfl, id⟩

theorem Untouched.trans {a b c : State} (h : Untouched v a b) (k : Untouched v b c) : Untouched v a c :=
  ⟨k.record.trans h.record, fun x => k.waits (h.waits x)⟩

theorem Untouched.grantClaim {w : VehicleIx} (n : Nat) (hne : w ≠ v) : Untouched v s (s.grantClaim w n) := by
  have hgrant := LinkOp.sendGrant w n .granted
  constructor
  · rw [grantClaim_of_firstAt rfl, hgrant.vehicle_eq, vehicle_setVehicle, if_neg hne]
    rfl
  · intro h
    rw [grantClaim_of_firstAt rfl]
    refine waitsNowhere_of_tcu (hgrant.tcu_eq _) (waitsNowhere_setSeg n h fun hv => ?_)
    exact notMem_waiters h n (List.mem_filter.1 hv).1

theorem Untouched.serve (n : Nat) (h : s.waitsNowhere v) : Untouched v s (s.serve n) := by
  unfold State.serve
  split
  next => exact .refl s
  next hopen =>
    have hnot := notMem_waiters h n
    generalize (s.seg n).waiters = l at hnot
    clear h hopen
    induction l generalizing s with
    | nil => exact .refl s
    | cons w l ih =>
      obtain ⟨hw, hl⟩ := not_or.1 (mt List.mem_cons.2 hnot)
      refine Untouched.trans ?_ (ih hl)
      dsimp only
      split
      · exact .grantClaim n fun heq => hw heq.symm
      · exact .refl s

theorem Untouched.foldl_serve (gone : List TrackClaim) : ∀ {s : State}, s.waitsNowhere v →
    Untouched v s (gone.foldl (fun s c => s.serve c.seg) s) := by
  induction gone with
  | nil => exact fun _ => .refl _
  | cons c gone ih => exact fun h => (Untouched.serve c.seg h).trans (ih ((Untouched.serve c.seg h).waits h))

theorem Untouched.foldl_release (w : VehicleIx) (gone : List TrackClaim) : ∀ {s : State},
    Untouched v s (gone.foldl (fun s c => s.updSeg c.seg fun x => { x with holders := x.holders.filter (· ≠ w) }) s) := by
  induction gone with
  | nil => exact .refl _
  | cons c gone ih =>
    intro s
    have hstep : Untouched v s (s.updSeg c.seg fun x => { x with holders := x.holders.filter (· ≠ w) }) :=
      ⟨rfl, fun h => waitsNowhere_setSeg (x := { s.seg c.seg with holders := _ }) c.seg h (notMem_waiters h c.seg)⟩
    exact hstep.trans ih

/-- A vehicle that waits nowhere is left with the claims it keeps. -/
theorem releaseClaims_keeps (gone keep : List TrackClaim) (h : s.waitsNowhere v) :
    Untouched v (s.setVehicle v { s.vehicle v with claims := keep }) (s.releaseClaims v gone keep) := by
  have hdrop : Untouched v (s.setVehicle v { s.vehicle v with claims := keep }) (s.dropClaims v gone keep) := by
    have hrelease : Untouched v (s.setVehicle v { s.vehicle v with claims := keep }) _ := Untouched.foldl_release v gone
    exact hrelease.trans (.foldl_serve gone (hrelease.waits h))
  unfold releaseClaims
  split
  · exact hdrop
  · rw [serveWaiting_of_none (waitsFor?_eq_none.2 (hdrop.waits h))]
    exact hdrop

theorem vehicle_releaseClaims (gone keep : List TrackClaim) (h : s.waitsFor? v = none) :
    (s.releaseClaims v gone keep).vehicle v = { s.vehicle v with claims := keep } :=
  (releaseClaims_keeps gone keep (waitsFor?_eq_none.1 h)).record.trans (vehicle_setVehicle_self ..)

theorem waitsFor?_releaseClaims (gone keep : List TrackClaim) (h : s.waitsFor? v = none) :
    (s.releaseClaims v gone keep).waitsFor? v = none :=
  waitsFor?_eq_none.2 ((releaseClaims_keeps gone keep (waitsFor?_eq_none.1 h)).waits (waitsFor?_eq_none.1 h))

/-! ### What the end of an order leaves (R83) -/

/-- Where a vehicle whose newest order has ended comes to stand: the order's drop when it was done. -/
def stopLoc (e : OrderEnd) (x : Vehicle) : Loc := if e = .failed ∨ e = .cancelled then restLoc x else x.endLoc

/-- The drop claim of an ended order released, when it was held. -/
def releaseHold (v : VehicleIx) (o : Order) (s : State) : State :=
  if o.claim = .held then s.releaseDropClaim o.drop ⟨v, o.tag⟩ else s

/-- An outstanding order without a call leaves the list, the path, its drop and the end location. -/
theorem endOutstanding_of_unlinked {o : Order} (e : OrderEnd) (hlink : o.link = none) :
    s.endOutstanding v o e =
      (let t := releaseHold v o (State.leavePath v o.tag
        (s.setVehicle v { s.vehicle v with outstanding := (s.vehicle v).outstanding.filter fun y => y.tag ≠ o.tag }))
      if (((s.vehicle v).outstanding.dropWhile fun x => x.tag ≠ o.tag).drop 1).isEmpty && decide (e = .failed ∨ e = .cancelled) then
        t.updVehicle v fun x => { x with endLoc := restLoc x }
      else t) :=
  revertCall_of_unlinked hlink

theorem leavePath_of_last {tag : Byte} (h : (s.vehicle v).outstanding = []) (hwaits : s.waitsFor? v = none) :
    s.leavePath v tag =
      (s.setVehicle v { s.vehicle v with path := [], pointer := 0 }).releaseClaims v (s.vehicle v).claims [] := by
  rw [leavePath, if_pos (by rw [h]; rfl), emptyPath, leaveWaiting_of_none hwaits, updVehicle]
  simp only [vehicle_setVehicle_self]

/-! ### A vehicle that becomes IDLE (R83 step 5) -/

section Last

variable {o : Order} {e : OrderEnd} {w : State} (hend : s.endOutstanding v o e = w) (hlink : o.link = none)
  (hmode : w.sfu.mode = .normal) (hwaits : w.waitsFor? v = none) (hnone : (w.vehicle v).outstanding = [])
  (hbusy : (w.vehicle v).status = .busy) (hqueue : (w.vehicle v).queue = [])

include hend hlink

theorem endOrder_of_unlinked : s.endOrder v o e = (w.settleAndTell v).forwardAndTell v := by
  rw [endOrder, hend, linkSelected_of_unlinked hlink]
  rfl

include hmode hwaits hnone hbusy hqueue

/-- The vehicle's last order ended: it is IDLE and loses DEADLOCK, with a RELEASE when no other cause halts it. -/
theorem endOrder_of_last : s.endOrder v o e =
    (let idle := w.setVehicle v { w.vehicle v with status := .idle, causes := { (w.vehicle v).causes with deadlock := false } }
    if (w.vehicle v).causes = ⟨false, true, false, false⟩ then idle.sendRelease v else idle) := by
  let x : Vehicle := { w.vehicle v with status := .idle, causes := { (w.vehicle v).causes with deadlock := false } }
  have hfalls : w.fallsIdle v = true := by simp [fallsIdle, hnone, hbusy]
  have hx : (w.setVehicle v x).vehicle v = x := vehicle_setVehicle_self ..
  have hstatus : x.status = .idle := rfl
  have hrelease := LinkOp.sendRelease v
  have hemptied : (w.setVehicle v x).causesEmptied v = (w.setVehicle v x).sendRelease v := by
    rw [causesEmptied_of_works (s := w.setVehicle v x) (running_of_normal hmode) (by rw [hx, hstatus]; decide)
      (by rw [hx, hstatus]; decide)]
    refine takeUp_of_nil ((mode_sendRelease v _).trans hmode) ((hrelease.waitsFor?_eq _ v).trans hwaits) ?_
    rw [hrelease.vehicle_eq, hx]
    exact hqueue
  have hsettled : w.settleAndTell v =
      if (w.vehicle v).causes.deadlock && x.causes.none then (w.setVehicle v x).sendRelease v else w.setVehicle v x := by
    have hidle : (w.settle v).updVehicle v (fun x => { x with causes := { x.causes with deadlock := false } }) = w.setVehicle v x := by
      rw [settle_of_busy hnone hbusy, updVehicle_setVehicle]
    have hcauses : ((w.settle v).vehicle v).causes = (w.vehicle v).causes := by
      rw [settle_of_busy hnone hbusy, vehicle_setVehicle_self]
    unfold settleAndTell
    rw [if_pos hfalls, hidle, hcauses]
    show tryCalls (if ((w.vehicle v).causes.deadlock && ((w.setVehicle v x).vehicle v).causes.none) = true then
      (w.setVehicle v x).causesEmptied v else w.setVehicle v x) = _
    rw [hx, hemptied]
    refine tryCalls_of_normal ?_
    split
    · exact (mode_sendRelease v _).trans hmode
    · exact hmode
  have hlast : ((w.vehicle v).causes.deadlock && x.causes.none) = true ↔ (w.vehicle v).causes = ⟨false, true, false, false⟩ := by
    simp only [x]
    generalize (w.vehicle v).causes = c
    obtain ⟨z, d, m, i⟩ := c
    revert z d m i
    decide
  rw [endOrder_of_unlinked hend hlink, hsettled]
  by_cases h : (w.vehicle v).causes = ⟨false, true, false, false⟩
  · simp only [if_pos (hlast.2 h), if_pos h]
    refine forwardAndTell_of_nil ?_
    rw [hrelease.vehicle_eq, hx]
    exact hqueue
  · simp only [if_neg (mt hlast.1 h), if_neg h]
    exact forwardAndTell_of_nil (by rw [hx]; exact hqueue)

end Last

/-- With further orders outstanding the vehicle stays as it is. -/
theorem endOrder_of_more {o : Order} {e : OrderEnd} {w : State} (hend : s.endOutstanding v o e = w) (hlink : o.link = none)
    (hmore : (w.vehicle v).outstanding ≠ []) (hqueue : (w.vehicle v).queue = []) : s.endOrder v o e = w := by
  have hmore' : (w.vehicle v).outstanding.isEmpty = false := by simpa using hmore
  have hsettled : w.settleAndTell v = w := by
    simp [settleAndTell, settle, fallsIdle, hmore']
  rw [endOrder_of_unlinked hend hlink, hsettled, forwardAndTell_of_nil hqueue]

/-! ### VDONE (R84) -/

theorem orderEnd?_eq_none {outcome : Byte} (h : ¬(1 ≤ outcome.toNat ∧ outcome.toNat ≤ 4)) : orderEnd? outcome = none := by
  unfold orderEnd?
  split <;> first | omega | rfl

theorem orderEnd?_listed {outcome : Byte} (h1 : 1 ≤ outcome.toNat) (h4 : outcome.toNat ≤ 4) :
    ∃ e, orderEnd? outcome = some e ∧ ((e = .failed ∨ e = .cancelled) ↔ outcome ≠ 1) := by
  revert outcome
  decide

theorem vdoneTaken_of_stray {tag outcome : Byte} (h : ¬(1 ≤ outcome.toNat ∧ outcome.toNat ≤ 4) ∨
    ∀ o ∈ (s.vehicle v).outstanding, o.tag ≠ tag) : s.vdoneTaken tag outcome v = s.raise .strayReport (num v) := by
  unfold vdoneTaken
  rcases h with h | h
  · rw [orderEnd?_eq_none h]
    cases (s.vehicle v).outstanding.find? fun o => decide (o.tag = tag) <;> rfl
  · have hnone : ((s.vehicle v).outstanding.find? fun o => decide (o.tag = tag)) = none :=
      List.find?_eq_none.2 fun o ho => by simpa using h o ho
    rw [hnone]

theorem vdoneTaken_of_listed {tag outcome : Byte} {o : Order} {e : OrderEnd} {before after : List Order}
    (hout : (s.vehicle v).outstanding = before ++ o :: after) (htag : o.tag = tag) (hbefore : ∀ q ∈ before, q.tag ≠ tag)
    (he : orderEnd? outcome = some e) : s.vdoneTaken tag outcome v = s.endOrder v o e := by
  have hfind : ((s.vehicle v).outstanding.find? fun o => decide (o.tag = tag)) = some o := by
    rw [hout, List.find?_append, List.find?_eq_none.2 fun q hq => by simpa using hbefore q hq]
    simp [htag]
  simp only [vdoneTaken, hfind, he]

end State

/-- The VDONE telegram as its command receives it. -/
theorem exec_vdone {v : VehicleIx} {dst src : Byte} {s : State} (tag outcome : Byte) (h : Heard .vehicle (num v) dst src s) :
    exec (.vdone dst src tag outcome) s =
      .next ((s.vdoneTaken tag outcome v).placeUpper ⟨dst, src, clsVdone, [tag, outcome]⟩) :=
  heard_vehicle (t := ⟨dst, src, clsVdone, [tag, outcome]⟩) rfl (by simp [Config.maxBody]) _ h rfl

end Sys2Proof.Machine
end

section
/-! PROOFS. VDONE by the vehicle's orders and claims (R59, R83, R84). -/

namespace Sys2Proof.Machine

namespace State

variable {v : VehicleIx} {s : State}

/-! ### The drop claim of an ended order -/

theorem releaseDropClaim_place {p : Nat} (r : OrderRef) (h : s.noParity) :
    s.releaseDropClaim ⟨.place, p⟩ r =
      if (s.place p).claim = some r then s.setPlace p { s.place p with claim := none } else s := by
  unfold releaseDropClaim
  simp only [readLoc_of_noParity h, setDropClaim_place none (l := ⟨.place, p⟩) rfl h]
  rfl

theorem releaseHold_of_free {o : Order} (h : o.claim ≠ .held) (s : State) : releaseHold v o s = s := if_neg h

theorem moves_releaseHold (v : VehicleIx) (o : Order) (s : State) : Moves [.places, .ltu, .flags, .stands] s (releaseHold v o s) := by
  unfold releaseHold
  split
  · exact Moves.releaseDropClaim ..
  · exact .refl s

theorem vehicle_releaseHold (w : VehicleIx) (o : Order) (s : State) : (releaseHold v o s).vehicle w = s.vehicle w := by
  rw [vehicle, (moves_releaseHold v o s).same .vehicles (by decide)]
  rfl

/-! ### The only order -/

/-- The vehicle without orders and claims, what its release brought included. -/
def withoutOrders (v : VehicleIx) (s : State) : State :=
  (s.setVehicle v { s.vehicle v with outstanding := [], path := [], pointer := 0 }).releaseClaims v (s.vehicle v).claims []

/-- A vehicle's record after its only order. -/
def ordersEnded (e : OrderEnd) (x : Vehicle) : Vehicle :=
  { x with outstanding := [], path := [], pointer := 0, claims := [], endLoc := stopLoc e x }

/-- The same for a vehicle that becomes IDLE by it, which takes its DEADLOCK from it. -/
def idled (e : OrderEnd) (x : Vehicle) : Vehicle :=
  { ordersEnded e x with status := .idle, causes := { x.causes with deadlock := false } }

section Last

variable {o : Order} {e : OrderEnd} (ho : (s.vehicle v).outstanding = [o]) (hlink : o.link = none)
  (hwaits : s.waitsFor? v = none)

include hwaits in
theorem vehicle_withoutOrders : (s.withoutOrders v).vehicle v =
    { s.vehicle v with outstanding := [], path := [], pointer := 0, claims := [] } := by
  rw [withoutOrders, vehicle_releaseClaims _ _ (by exact hwaits), vehicle_setVehicle_self]

include ho hlink hwaits

theorem endOutstanding_of_last : s.endOutstanding v o e =
    (releaseHold v o (s.withoutOrders v)).setVehicle v (ordersEnded e (s.vehicle v)) := by
  have hnewest : (((s.vehicle v).outstanding.dropWhile fun x => x.tag ≠ o.tag).drop 1).isEmpty = true := by simp [ho]
  have hleft : (s.vehicle v).outstanding.filter (fun y => y.tag ≠ o.tag) = [] := by simp [ho]
  have hpath : (s.setVehicle v { s.vehicle v with outstanding := [] }).leavePath v o.tag = s.withoutOrders v := by
    rw [leavePath_of_last (by rw [vehicle_setVehicle_self]) (by exact hwaits), vehicle_setVehicle_self, setVehicle_setVehicle]
    rfl
  have hx : (releaseHold v o (s.withoutOrders v)).vehicle v =
      { s.vehicle v with outstanding := [], path := [], pointer := 0, claims := [] } :=
    (vehicle_releaseHold v o _).trans (vehicle_withoutOrders hwaits)
  rw [endOutstanding_of_unlinked e hlink, hleft, hpath, hnewest, Bool.true_and]
  by_cases he : e = .failed ∨ e = .cancelled
  · simp only [decide_eq_true he, if_true]
    rw [updVehicle, hx, ordersEnded, stopLoc, if_pos he]
    rfl
  · have hself : ordersEnded e (s.vehicle v) = (releaseHold v o (s.withoutOrders v)).vehicle v := by
      rw [hx, ordersEnded, stopLoc, if_neg he]
    simp only [decide_eq_false he, Bool.false_eq_true, if_false]
    rw [hself, setVehicle_self]

/-- The end of a BUSY vehicle's only order in NORMAL, with an empty queue. -/
theorem endOrder_of_lone (hmode : s.sfu.mode = .normal) (hbusy : (s.vehicle v).status = .busy) (hqueue : (s.vehicle v).queue = []) :
    s.endOrder v o e =
      if (s.vehicle v).causes = ⟨false, true, false, false⟩ then
        ((releaseHold v o (s.withoutOrders v)).setVehicle v (idled e (s.vehicle v))).sendRelease v
      else (releaseHold v o (s.withoutOrders v)).setVehicle v (idled e (s.vehicle v)) := by
  have hmoves : Moves [.vehicles, .tcu, .places, .ltu, .flags, .stands] s
      ((releaseHold v o (s.withoutOrders v)).setVehicle v (ordersEnded e (s.vehicle v))) :=
    (((Moves.setVehicle v _ s).mono.next (Moves.releaseClaims ..)).next (moves_releaseHold ..)).next (Moves.setVehicle ..)
  have hwaits' : (releaseHold v o (s.withoutOrders v)).waitsFor? v = none := by
    rw [waitsFor?_congr ((moves_releaseHold v o _).same .tcu (by decide))]
    exact waitsFor?_releaseClaims _ _ (by exact hwaits)
  rw [endOrder_of_last (endOutstanding_of_last ho hlink hwaits) hlink ((hmoves.same .mode (by decide)).trans hmode) hwaits'
    (by rw [vehicle_setVehicle_self]; rfl) (by rw [vehicle_setVehicle_self]; exact hbusy)
    (by rw [vehicle_setVehicle_self]; exact hqueue), vehicle_setVehicle_self, setVehicle_setVehicle]
  rfl

end Last

/-! ### One order of several (R59) -/

/-- The position of a claim after the entries of an order have left the path. -/
def entriesLeft (x : Vehicle) (tag : Byte) (i : Nat) : Nat := ((x.path.take i).filter fun e => e.tag ≠ tag).length

/-- The position of the occupied claim after the entries of an order have left the path. -/
def headPos (x : Vehicle) (tag : Byte) (c : TrackClaim) : Option Nat :=
  if c.pos.isSome && claimKept x.path tag c then c.pos.map (entriesLeft x tag)
  else if ((x.path.filter fun e => e.tag ≠ tag)[entriesLeft x tag x.pointer]?).any fun e => e.seg = c.seg then
    some (entriesLeft x tag x.pointer)
  else none

theorem claimKept_iff {path : List PathEntry} {tag : Byte} {c : TrackClaim} : claimKept path tag c = true ↔
    c.pos = none ∨ ∃ i e, c.pos = some i ∧ path[i]? = some e ∧ e.tag ≠ tag := by
  unfold claimKept
  split
  next i hi => simp [hi, Option.any_eq_true]
  next hi => simp [hi]

theorem takeWhile_append_of_stop {α : Type} {p : α → Bool} {l m : List α} (hl : ∀ x ∈ l, p x = true)
    (hm : ∀ x r, m = x :: r → p x = false) : (l ++ m).takeWhile p = l := by
  rw [List.takeWhile_append_of_pos hl]
  cases m with
  | nil => simp
  | cons x r => rw [List.takeWhile_cons_of_neg (by rw [hm x r rfl]; decide), List.append_nil]

theorem cutPath_of_claims {tag : Byte} {first : TrackClaim} {kept gone : List TrackClaim}
    (hclaims : (s.vehicle v).claims = first :: (kept ++ gone)) (hkept : ∀ k ∈ kept, claimKept (s.vehicle v).path tag k = true)
    (hgone : ∀ g r, gone = g :: r → claimKept (s.vehicle v).path tag g = false) (hwaits : s.waitsFor? v = none) :
    s.cutPath v tag =
      (s.setVehicle v { s.vehicle v with
        path := (s.vehicle v).path.filter fun e => e.tag ≠ tag
        pointer := entriesLeft (s.vehicle v) tag (s.vehicle v).pointer }).releaseClaims v gone
        ({ first with pos := headPos (s.vehicle v) tag first } ::
          kept.map fun k => { k with pos := k.pos.map (entriesLeft (s.vehicle v) tag) }) := by
  have htake : ((s.vehicle v).claims.drop 1).takeWhile (claimKept (s.vehicle v).path tag) = kept := by
    rw [hclaims]
    exact takeWhile_append_of_stop hkept hgone
  have hdrop : (s.vehicle v).claims.drop (1 + kept.length) = gone := by
    rw [hclaims, Nat.add_comm, List.drop_succ_cons, List.drop_left]
  have hhead : (s.vehicle v).claims.take 1 = [first] := by rw [hclaims]; rfl
  unfold cutPath
  simp only [htake, hdrop, hhead, List.countP_eq_length_filter]
  rw [leavePassed_of_none (by exact hwaits)]
  rfl

theorem endOutstanding_of_more {o : Order} {e : OrderEnd} {before after : List Order} {first : TrackClaim}
    {kept gone : List TrackClaim} (hout : (s.vehicle v).outstanding = before ++ o :: after)
    (hothers : ∀ q ∈ before ++ after, q.tag ≠ o.tag) (hlink : o.link = none) (hclaim : o.claim ≠ .held)
    (hwaits : s.waitsFor? v = none) (hmore : before ++ after ≠ []) (hclaims : (s.vehicle v).claims = first :: (kept ++ gone))
    (hkept : ∀ k ∈ kept, claimKept (s.vehicle v).path o.tag k = true)
    (hgone : ∀ g r, gone = g :: r → claimKept (s.vehicle v).path o.tag g = false) :
    s.endOutstanding v o e =
      (let x := s.vehicle v
      let ended : Vehicle := { x with
        outstanding := before ++ after
        path := x.path.filter fun e => e.tag ≠ o.tag
        pointer := entriesLeft x o.tag x.pointer }
      let claims := { first with pos := headPos x o.tag first } :: kept.map fun k => { k with pos := k.pos.map (entriesLeft x o.tag) }
      ((s.setVehicle v ended).releaseClaims v gone claims).setVehicle v { ended with
        claims := claims, endLoc := if after = [] ∧ (e = .failed ∨ e = .cancelled) then restLoc x else x.endLoc }) := by
  have hleft : (s.vehicle v).outstanding.filter (fun y => y.tag ≠ o.tag) = before ++ after := by
    have hall := List.filter_eq_self.2 fun q hq => decide_eq_true (hothers q hq)
    rw [hout, List.filter_append, List.filter_cons_of_neg (by simp), ← List.filter_append]
    exact hall
  have hafter : ((s.vehicle v).outstanding.dropWhile fun x => x.tag ≠ o.tag).drop 1 = after := by
    rw [hout, List.dropWhile_append_of_pos fun q hq => decide_eq_true (hothers q (List.mem_append_left _ hq)),
      List.dropWhile_cons_of_neg (by simp)]
    rfl
  let u := s.setVehicle v { s.vehicle v with outstanding := before ++ after }
  have hx : u.vehicle v = { s.vehicle v with outstanding := before ++ after } := vehicle_setVehicle_self ..
  have hpath : u.leavePath v o.tag = u.cutPath v o.tag := if_neg (by rw [hx]; simpa using hmore)
  have hcut := cutPath_of_claims (s := u) (v := v) (tag := o.tag) (by rw [hx]; exact hclaims) (by rw [hx]; exact hkept)
    (by rw [hx]; exact hgone) hwaits
  rw [hx, setVehicle_setVehicle] at hcut
  rw [endOutstanding_of_unlinked e hlink, hleft, hpath, hafter, releaseHold_of_free hclaim]
  rw [hcut]
  have hended := vehicle_releaseClaims (v := v) gone ({ first with pos := headPos (s.vehicle v) o.tag first } ::
    kept.map fun k => { k with pos := k.pos.map (entriesLeft (s.vehicle v) o.tag) })
    (s := s.setVehicle v { s.vehicle v with
      outstanding := before ++ after
      path := (s.vehicle v).path.filter fun e => e.tag ≠ o.tag
      pointer := entriesLeft (s.vehicle v) o.tag (s.vehicle v).pointer }) hwaits
  rw [vehicle_setVehicle_self] at hended
  by_cases h : after = [] ∧ (e = .failed ∨ e = .cancelled)
  · have hcond : (after.isEmpty && decide (e = .failed ∨ e = .cancelled)) = true := by simp [h.1, h.2]
    simp only [if_pos hcond, if_pos h]
    rw [updVehicle]
    exact congrArg (fun y => setVehicle v { y with endLoc := restLoc y } _) hended
  · have hcond : ¬(after.isEmpty && decide (e = .failed ∨ e = .cancelled)) = true := by simpa using h
    simp only [if_neg hcond, if_neg h]
    exact (setVehicle_self v _).symm.trans (congrArg (fun y => setVehicle v y _) hended)

end State

/-- Settles O21: a stray VDONE, the end of the only order, and the end of one of several. -/
theorem vdoneEndsOrder : Obligations.VdoneEndsOrder := by
  refine ⟨fun v dst src tag outcome s hheard => ?one, fun v dst src tag outcome o before after s hheard hmode => ?several⟩
  case one =>
    intro x sent listed
    refine ⟨fun h => ?stray, fun hlisted hpar hmode hbusy hdeadlock hclaims hqueue hwaits o ho htag hlink => ?ends⟩
    case stray =>
      rw [exec_vdone tag outcome hheard, State.vdoneTaken_of_stray h]
      rfl
    case ends =>
      intro ended u
      obtain ⟨e, he, hfailed⟩ := State.orderEnd?_listed hlisted.1 hlisted.2
      have hcauses : { x.causes with deadlock := false } = x.causes := by rw [← hdeadlock]
      have hnot : x.causes ≠ ⟨false, true, false, false⟩ := fun h => by rw [h] at hdeadlock; cases hdeadlock
      have hstop : State.stopLoc e x = ended.endLoc := by
        by_cases h : outcome = 1
        · rw [State.stopLoc, if_neg (by rw [hfailed]; exact not_not_intro h)]
          exact (if_pos h).symm
        · rw [State.stopLoc, if_pos (hfailed.2 h)]
          exact (if_neg h).symm
      have hended : State.idled e x = ended := by
        rw [State.idled, hcauses, State.ordersEnded, hstop, ← hclaims]
      have hrest : s.withoutOrders v = s.setVehicle v { x with outstanding := [], path := [], pointer := 0, claims := [] } := by
        rw [State.withoutOrders, show (s.vehicle v).claims = [] from hclaims, State.releaseClaims_nil, State.updVehicle_setVehicle]
      have hexec : exec (.vdone dst src tag outcome) s = .next (((State.releaseHold v o (s.withoutOrders v)).setVehicle v
          ended).placeUpper sent) := by
        rw [exec_vdone tag outcome hheard, State.vdoneTaken_of_listed (before := []) (after := []) ho htag
          (fun q hq => absurd hq List.not_mem_nil) he, State.endOrder_of_lone ho hlink hwaits hmode hbusy hqueue, if_neg hnot]
        rw [hended]
        rfl
      refine ⟨fun hclaim => ?_, fun hclaim p hp => ?_⟩
      · rw [hexec, State.releaseHold_of_free hclaim, hrest, State.setVehicle_setVehicle]
      · have hrelease := State.releaseDropClaim_place (p := p) ⟨v, o.tag⟩ (s := s.withoutOrders v)
          (by rw [hrest]; exact hpar)
        have hhold : State.releaseHold v o (s.withoutOrders v) =
            if (s.place p).claim = some ⟨v, tag⟩ then (s.withoutOrders v).setPlace p { s.place p with claim := none }
            else s.withoutOrders v := by
          rw [State.releaseHold, if_pos hclaim, hp, hrelease, htag, hrest]
          rfl
        refine ⟨fun h => ?_, fun h => ?_⟩
        · rw [hexec, hhold, if_pos h, hrest]
          show Host.Outcome.next (State.placeUpper sent (State.setPlace p _ ((s.setVehicle v _).setVehicle v ended))) = _
          rw [State.setVehicle_setVehicle]
        · rw [hexec, hhold, if_neg h, hrest, State.setVehicle_setVehicle]
  case several =>
    intro x h1 h4 hbusy hqueue hwaits hout htag hothers hlink hclaim answer stop
    obtain ⟨e, he, hfailed⟩ := State.orderEnd?_listed h1 h4
    have answers {t : State} (h : s.endOrder v o e = t) : answer t := by
      show exec _ _ = _
      rw [exec_vdone tag outcome hheard, State.vdoneTaken_of_listed hout htag
        (fun q hq => hothers q (List.mem_append_left _ hq)) he, h]
      rfl
    refine ⟨fun hlone => ?lone, fun hmore first kept gone hclaims => ?more⟩
    case lone =>
      intro u idle
      obtain ⟨rfl, rfl⟩ := List.append_eq_nil_iff.1 hlone
      have hstop : State.stopLoc e x = if outcome = 1 then x.endLoc else stop := by
        by_cases h : outcome = 1
        · rw [State.stopLoc, if_neg (by rw [hfailed]; exact not_not_intro h), if_pos h]
        · rw [State.stopLoc, if_pos (hfailed.2 h), if_neg h]
          rfl
      have hidle : (s.withoutOrders v).setVehicle v (State.idled e x) = idle { x.causes with deadlock := false } := by
        rw [State.idled, State.ordersEnded, hstop]
        rfl
      have hlast := State.endOrder_of_lone (e := e) hout hlink hwaits hmode hbusy hqueue
      rw [State.releaseHold_of_free hclaim, hidle] at hlast
      refine ⟨fun h => ?_, fun h => ?_, fun h hne => ?_⟩
      · have hcauses : { x.causes with deadlock := false } = x.causes := by rw [← h]
        rw [hcauses, if_neg fun hc => by rw [show x.causes = _ from hc] at h; cases h] at hlast
        exact answers hlast
      · rw [if_pos h, h] at hlast
        exact answers hlast
      · rw [if_neg hne] at hlast
        exact answers hlast
    case more =>
      subst htag
      intro stays left path hkept hgone ended
      have hstays (k : TrackClaim) : State.claimKept x.path o.tag k = true ↔ stays k := by
        rw [State.claimKept_iff]
      have hend := State.endOutstanding_of_more (e := e) hout hothers hlink hclaim hwaits hmore hclaims
        (fun k hk => (hstays k).2 (hkept k hk)) fun g r hg => Bool.eq_false_iff.2 (mt (hstays g).1 (hgone g r hg))
      have hanswer {pos : Option Nat} (hpos : State.headPos x o.tag first = pos) : ended pos := by
        show answer _
        refine answers ?_
        rw [State.endOrder_of_more hend hlink (by rw [State.vehicle_setVehicle_self]; exact hmore)
          (by rw [State.vehicle_setVehicle_self]; exact hqueue)]
        simp only [hfailed]
        subst hpos
        rfl
      refine ⟨fun i hi hstay => hanswer ?_, fun hfree => ⟨fun e he hseg => hanswer ?_, fun haway => hanswer ?_⟩⟩
      · have hkeep := (hstays first).2 hstay
        rw [State.headPos, if_pos (by rw [hi, show State.claimKept _ _ _ = true from hkeep]; rfl), hi]
        rfl
      all_goals
        have hlost : ¬(first.pos.isSome && State.claimKept x.path o.tag first) = true := by
          rw [Bool.and_eq_true, hstays]
          rintro ⟨hsome, hstay⟩
          rcases hfree with h | h
          · rw [h] at hsome
            cases hsome
          · exact h hstay
        rw [State.headPos, if_neg hlost]
      · exact if_pos ((Option.any_eq_true ..).2 ⟨e, he, decide_eq_true hseg⟩)
      · refine if_neg fun hc => ?_
        obtain ⟨e, he, hseg⟩ := (Option.any_eq_true ..).1 hc
        exact haway e he (of_decide_eq_true hseg)

end Sys2Proof.Machine
end

section
/-! PROOFS. The roll records and the arms as picks and drops use them (R15 to R22, R104 to R106). -/

namespace Sys2Proof.Machine

/-! ### A roll's slot written -/

/-- The first entry of an id stays the first when its slot is written with a record of the same id. -/
theorem find?_insert_of_found {id : RollId} {k : Nat} {r r' : Roll} (hid : r'.id = id) : ∀ {l : List (Nat × Roll)},
    (l.find? fun e => e.2.id = id) = some (k, r) → ((Table.insert k r' l).find? fun e => e.2.id = id) = some (k, r')
  | (j, b) :: l, h => by
    unfold Table.insert
    split
    case isTrue => exact List.find?_cons_of_pos (decide_eq_true hid)
    case isFalse =>
      split
      case isTrue => exact List.find?_cons_of_pos (decide_eq_true hid)
      case isFalse hne =>
        by_cases hb : b.id = id
        · rw [List.find?_cons_of_pos (by exact decide_eq_true hb)] at h
          exact absurd (Prod.mk.inj (Option.some.inj h)).1.symm hne
        · rw [List.find?_cons_of_neg (by simpa using hb)] at h ⊢
          exact find?_insert_of_found hid h

namespace State

variable {v : VehicleIx} {s : State}

theorem id_of_findRoll {id : RollId} {k : Nat} {r : Roll} (h : s.findRoll id = some (k, r)) : r.id = id :=
  of_decide_eq_true (List.find?_some (p := fun e : Nat × Roll => decide (e.2.id = id)) h)

theorem roll?_of_findRoll {id : RollId} {k : Nat} {r : Roll} (h : s.findRoll id = some (k, r)) : s.roll? id = some r := by
  rw [roll?, h, Option.map_some]

theorem findRoll_setSlot {id : RollId} {k : Nat} {r r' : Roll} (h : s.findRoll id = some (k, r)) (hid : r'.id = r.id) :
    (s.setSlot k r').findRoll id = some (k, r') :=
  find?_insert_of_found (hid.trans (id_of_findRoll h)) h

theorem noParity_setSlot (k : Nat) (r : Roll) (h : s.noParity) : (s.setSlot k r).noParity := by
  obtain ⟨hrolls, hplaces, hroutes⟩ := h
  exact ⟨by simp [setSlot, hrolls], hplaces, hroutes⟩

/-! ### Calls that name no roll, vehicles without load -/

theorem callPicked_of_unnamed {id : RollId} (v : VehicleIx) (h : s.callNaming? id = none) : s.callPicked id v = s := by
  simp only [callPicked, h]

theorem callDropped_of_unnamed {id : RollId} (h : s.callNaming? id = none) : s.callDropped id = s := by
  simp only [callDropped, h]

theorem callRollRemoved_of_unnamed {id : RollId} (h : s.callNaming? id = none) : s.callRollRemoved id = s := by
  simp only [callRollRemoved, h]

theorem callNaming?_of_nil (h : s.fdu.calls = []) (id : RollId) : s.callNaming? id = none := by
  rw [callNaming?, h]
  rfl

theorem shedLoad_of_free (kept : Option RollId) (h : (s.vehicle v).load = .empty ∨ (s.vehicle v).load = .unknown) :
    s.shedLoad v kept = s := by
  rcases h with h | h <;> simp only [shedLoad, h]

/-- A roll that no call names is carried on a vehicle that carried none. -/
theorem carryOn_of_unnamed {id : RollId} {k : Nat} {r : Roll} (told : Bool) (hpar : s.noParity) (hr : s.findRoll id = some (k, r))
    (hcall : s.callNaming? id = none) (hload : (s.vehicle v).load = .empty ∨ (s.vehicle v).load = .unknown) :
    s.carryOn v id told = (s.setSlot k { r with status := .carried (some v) }).setVehicle v
      { s.vehicle v with load := .roll id } := by
  let u := s.setSlot k { r with status := .carried (some v) }
  have hpicked : u.callPicked id v = u := callPicked_of_unnamed v hcall
  have hshed : u.shedLoad v (some id) = u := shedLoad_of_free _ hload
  show ((if told = true then (s.updRoll id fun r => { r with status := .carried (some v) }).callPicked id v
    else s.updRoll id fun r => { r with status := .carried (some v) }).shedLoad v (some id)).setLoad v (.roll id) = _
  rw [updRoll_of_noParity hpar hr, hpicked, ite_self, hshed]
  rfl

/-! ### Orders on their way to a pickup (R81) -/

/-- No outstanding order of the vehicle is on its way to pick up there. -/
def noPickup (v : VehicleIx) (l : Loc) (s : State) : Prop :=
  ∀ o ∈ (s.vehicle v).outstanding, ¬(o.progress = .toPickup ∧ o.pickup = l)

theorem progressPick_of_none {l : Loc} (h : s.noPickup v l) : s.progressPick v l = s := by
  have hfind : ((s.vehicle v).outstanding.find? fun o => decide (o.progress = .toPickup ∧ o.pickup = l)) = none :=
    List.find?_eq_none.2 fun o ho => by simpa using h o ho
  simp only [progressPick, hfind]

theorem noPickup_of_vehicles {a b : State} {l : Loc} (h : (b.vehicle v).outstanding = (a.vehicle v).outstanding)
    (ha : a.noPickup v l) : b.noPickup v l := by
  rw [noPickup, h]
  exact ha

/-! ### Arms that become empty (R104, R106) -/

theorem mem_orders {w : VehicleIx} {o : Order} : (w, o) ∈ s.orders ↔ o ∈ (s.vehicle w).outstanding ++ (s.vehicle w).queue := by
  simp only [orders, List.mem_flatMap, List.mem_map, Prod.mk.injEq]
  constructor
  · rintro ⟨_, _, _, h, rfl, rfl⟩
    exact h
  · exact fun h => ⟨w, List.mem_finRange w, o, h, rfl, rfl⟩

/-- Order o of vehicle w waits for the arm of the stand (R81). -/
def asksArm (s : State) (st : StandIx) (w : VehicleIx) (o : Order) : Prop :=
  o ∈ (s.vehicle w).outstanding ++ (s.vehicle w).queue ∧ o.claim = .pending ∧ o.drop = standLoc st

theorem armEmptied_of_none {st : StandIx} (h : ∀ w o, ¬s.asksArm st w o) : s.armEmptied st = s := by
  have hfind : (s.orders.find? fun e => decide (e.2.claim = .pending ∧ e.2.drop = standLoc st)) = none :=
    List.find?_eq_none.2 fun e he hp => h e.1 e.2 ⟨mem_orders.1 he, of_decide_eq_true hp⟩
  simp only [armEmptied, hfind]

theorem armEmptied_of_asked {st : StandIx} {w : VehicleIx} {o : Order} (h : s.asksArm st w o)
    (honly : ∀ w' o', s.asksArm st w' o' → w' = w ∧ o' = o) :
    s.armEmptied st = (s.setStand st { s.stand st with claim := some ⟨w, o.tag⟩ }).updOrder ⟨w, o.tag⟩
      fun q => { q with claim := .held } := by
  have hfind : (s.orders.find? fun e => decide (e.2.claim = .pending ∧ e.2.drop = standLoc st)) = some (w, o) := by
    refine find?_of_unique (mem_orders.2 h.1) (decide_eq_true h.2) fun e he hp => ?_
    obtain ⟨h1, h2⟩ := honly e.1 e.2 ⟨mem_orders.1 he, of_decide_eq_true hp⟩
    exact Prod.ext h1 h2
  simp only [armEmptied, hfind]
  rfl

/-- An arm that becomes empty changes the claims of orders alone. -/
theorem noPickup_armEmptied {l : Loc} (st : StandIx) (h : s.noPickup v l) : (s.armEmptied st).noPickup v l := by
  unfold armEmptied
  split
  next w o _ =>
    intro q hq
    rw [updOrder, vehicle_updVehicle] at hq
    split at hq
    next hw =>
      subst hw
      obtain ⟨q', hq', rfl⟩ := List.mem_map.1 hq
      have hno := h q' hq'
      split <;> exact hno
    next => exact h q hq
  next => exact h

/-! ### A pick (R16 to R18) -/

theorem pickTaken_of_unkept {kind : Byte} {number : Half} (id : RollId) (h : s.keptLoc? kind number = none) :
    s.pickTaken kind number id v = s.raise .placeConflict (num v) := by
  simp only [pickTaken, h]

theorem pickTaken_of_unknown {kind : Byte} {number : Half} {id : RollId} {l : Loc} (hpar : s.noParity)
    (hl : s.keptLoc? kind number = some l) (hr : s.findRoll id = none) :
    s.pickTaken kind number id v = (s.pickUnknown v).progressPick v l := by
  simp only [pickTaken, hl, readRoll_of_noParity hpar, roll?, hr, Option.map_none]

theorem pickTaken_of_known {kind : Byte} {number : Half} {id : RollId} {l : Loc} {k : Nat} {r : Roll} (hpar : s.noParity)
    (hl : s.keptLoc? kind number = some l) (hr : s.findRoll id = some (k, r)) :
    s.pickTaken kind number id v =
      if r.status = .carried (some v) then s else (s.pickKnown v l id r.status).progressPick v l := by
  simp only [pickTaken, hl, readRoll_of_noParity hpar, roll?, hr, Option.map_some]

/-- ROLL-MISPLACED for a pick that was not expected where it was made. -/
def flagMisplaced (l : Loc) (id : RollId) (status : RollStatus) (s : State) : State :=
  if expectedAt l status then s else s.raiseField .rollMisplaced id id

theorem pickKnown_eq (v : VehicleIx) (l : Loc) (id : RollId) (status : RollStatus) (s : State) :
    s.pickKnown v l id status = (((s.clearLocation status).carryOn v id true).flagMisplaced l id status).tellArm status := rfl

/-- A known roll that no call names, lifted onto a vehicle that carried none and that has no order to pick up there: its
location is cleared, it is carried, and the arm that it left is told. -/
theorem pickTaken_of_lifted {kind : Byte} {number : Half} {id : RollId} {l : Loc} {k : Nat} {r : Roll} {u t : State}
    (hpar : s.noParity) (hl : s.keptLoc? kind number = some l) (hr : s.findRoll id = some (k, r))
    (hother : r.status ≠ .carried (some v)) (hcall : s.callNaming? id = none)
    (hload : (s.vehicle v).load = .empty ∨ (s.vehicle v).load = .unknown) (hclear : s.clearLocation r.status = u)
    (hgood : u.noParity) (hrolls : u.tmc.rolls = s.tmc.rolls) (hcalls : u.fdu.calls = s.fdu.calls)
    (hx : u.vehicle v = s.vehicle v)
    (htold : (((u.setSlot k { r with status := .carried (some v) }).setVehicle v
      { s.vehicle v with load := .roll id }).flagMisplaced l id r.status).tellArm r.status = t)
    (hpickup : t.noPickup v l) : s.pickTaken kind number id v = t := by
  have hr' : u.findRoll id = some (k, r) := by rw [findRoll, hrolls]; exact hr
  have hcall' : u.callNaming? id = none := by rw [callNaming?, hcalls]; exact hcall
  have hcarried := carryOn_of_unnamed true hgood hr' hcall' (by rw [hx]; exact hload)
  rw [hx] at hcarried
  rw [pickTaken_of_known hpar hl hr, if_neg hother, pickKnown_eq, hclear, hcarried, htold, progressPick_of_none hpickup]

theorem flagMisplaced_of_expected {l : Loc} {id : RollId} {x : RollStatus} (h : expectedAt l x = true) :
    s.flagMisplaced l id x = s := if_pos h

theorem flagMisplaced_of_other {l : Loc} {id : RollId} {x : RollStatus} (h : expectedAt l x = false) :
    s.flagMisplaced l id x = s.raiseField .rollMisplaced id id := if_neg (by rw [h]; decide)

theorem vehicle_flagMisplaced (l : Loc) (id : RollId) (x : RollStatus) (w : VehicleIx) (s : State) :
    (s.flagMisplaced l id x).vehicle w = s.vehicle w := by
  unfold flagMisplaced
  split
  · rfl
  · exact (LinkOp.raiseField ..).vehicle_eq s w

end State

/-- The VLOAD telegrams as their commands receive them. -/
def loadTelegram (dst src action kind : Byte) (number : Half) (id : Word) : Telegram :=
  ⟨dst, src, clsVload, vloadBody action kind number id⟩

section Vload

variable {v : VehicleIx} {dst src : Byte} {s : State} (kind : Byte) (number : Half) (id : Word)
  (h : Heard .vehicle (num v) dst src s)

theorem length_vloadBody (action : Byte) : (vloadBody action kind number id).length = 8 := by
  simp [vloadBody, beWord, be32, be16]

include h

theorem exec_vloadPick : exec (.vloadPick dst src kind number id) s =
    .next ((s.pickTaken kind number id v).placeUpper (loadTelegram dst src 1 kind number id)) :=
  have hlen := length_vloadBody kind number id 1
  heard_vehicle (t := loadTelegram dst src 1 kind number id) (by simp only [loadTelegram, hlen]; rfl)
    (by simp only [loadTelegram, hlen]; decide) _ h rfl

theorem exec_vloadDrop : exec (.vloadDrop dst src kind number id) s =
    .next ((s.dropTaken kind number id v).placeUpper (loadTelegram dst src 2 kind number id)) :=
  have hlen := length_vloadBody kind number id 2
  heard_vehicle (t := loadTelegram dst src 2 kind number id) (by simp only [loadTelegram, hlen]; rfl)
    (by simp only [loadTelegram, hlen]; decide) _ h rfl

end Vload

end Sys2Proof.Machine
end

section
/-! PROOFS. Picks (R16 to R18, R81, R104, R106). -/

namespace Sys2Proof.Machine

namespace State

variable {v : VehicleIx} {s : State}

/-! ### What telling an arm moves, over records with good parity -/

theorem moves_callTest_of_noParity (st : StandIx) (h : s.noParity) : Moves [.calls] s (s.callTest st) := by
  rw [callTest_of_noParity h]
  exact Moves.callTestRead ..

theorem moves_stateChanged_of_noParity (st : StandIx) (h : s.noParity) : Moves [.stands, .calls] s (s.stateChanged st) := by
  have hcleared := (Moves.updStand st (fun x => { x with ts := Config.unbounded }) s).mono (m := [.stands, .calls])
  have htested {u : State} (hu : Moves [.stands, .calls] s u) : Moves [.stands, .calls] s (u.callTest st) :=
    hu.next (moves_callTest_of_noParity st (noParity_of_moves hu (by decide) h))
  have hearly := htested (hcleared.next (Moves.makeEarly st _))
  unfold stateChanged
  split
  case h_1 => exact .ite hearly hcleared
  case h_2 => exact .ite hearly hcleared
  case h_3 => exact hcleared
  case h_4 => exact .ite (htested (.refl s)) (.refl s)
  case h_5 => exact .ite (htested (.refl s)) (.refl s)

theorem moves_starveTest_of_noParity (st : StandIx) (h : s.noParity) :
    Moves [.stands, .calls, .ltu, .flags, .fdu] s (s.starveTest st) := by
  unfold starveTest
  split
  · have hstarved := ((Moves.updStand st (fun x => { x with state := .starved }) s).mono.next (Moves.raise .standStarved (num st) _)).next
      (Moves.recordStarved st _) (m := [.stands, .calls, .ltu, .flags, .fdu])
    exact hstarved.next (moves_stateChanged_of_noParity st (State.noParity_of_moves hstarved (by decide) h))
  · exact .refl s

theorem outstanding_of_moves {m : List Part} {a b : State} (h : Moves m a b) (hm : .vehicles ∉ m) (v : VehicleIx) :
    (b.vehicle v).outstanding = (a.vehicle v).outstanding := by
  rw [vehicle, h.same .vehicles hm]
  rfl

/-! ### What a pick clears (R16, R17) -/

section Clear

theorem clearLocation_place {x : RollStatus} {p : Nat} (hx : x = .stored p ∨ ∃ o, x = .reserved p o) (h : s.noParity) :
    s.clearLocation x = s.setPlace p { s.place p with occupant := none } := by
  rcases hx with rfl | ⟨o, rfl⟩ <;> exact updPlace_of_noParity h p (fun x => { x with occupant := none })

theorem emptyOther_of_unarmed {st : StandIx} (h : (s.stand st).state ≠ .armed) :
    s.emptyOther st = s.setStand st { s.stand st with other := .none } := by
  rw [emptyOther, updStand, if_neg h]

end Clear

/-! ### Slots read after they are written -/

theorem slot?_setSlot (k j : Nat) (r : Roll) (s : State) : (s.setSlot k r).slot? j = if j = k then some r else s.slot? j :=
  Table.find_insert_of_any k j r _

/-- The record of one id written leaves where the others are found. -/
theorem findRoll_setSlot_of_ne {id z : RollId} {k : Nat} {r r' : Roll} (hwf : Table.rising s.tmc.rolls = true)
    (hr : s.findRoll id = some (k, r)) (hid : r'.id = r.id) (hz : z ≠ id) : (s.setSlot k r').findRoll z = s.findRoll z := by
  have hmem : (k, r) ∈ s.tmc.rolls := List.mem_of_find?_eq_some hr
  have hne : r.id ≠ z := fun h => hz (h.symm.trans (id_of_findRoll hr))
  unfold findRoll setSlot
  dsimp only
  clear hr
  generalize s.tmc.rolls = l at hwf hmem
  induction l with
  | nil => cases hmem
  | cons e l ih =>
    obtain ⟨j, b⟩ := e
    obtain ⟨hlow, hrest⟩ := Table.rising_cons.1 hwf
    unfold Table.insert
    rcases List.mem_cons.1 hmem with h | h
    · obtain ⟨rfl, rfl⟩ := Prod.mk.inj h
      rw [if_neg (Nat.lt_irrefl _), if_pos rfl, List.find?_cons_of_neg (by simpa [hid] using hne),
        List.find?_cons_of_neg (by simpa using hne)]
    · have hjk : j < k := hlow _ h
      rw [if_neg hjk.not_gt, if_neg hjk.ne', List.find?_cons, List.find?_cons, ih hrest h]

theorem slot?_of_findRoll {id : RollId} {k : Nat} {r : Roll} (hwf : Table.rising s.tmc.rolls = true)
    (hr : s.findRoll id = some (k, r)) : s.slot? k = some r := by
  have hmem : (k, r) ∈ s.tmc.rolls := List.mem_of_find?_eq_some hr
  unfold slot?
  clear hr
  generalize s.tmc.rolls = l at hwf hmem
  induction l with
  | nil => cases hmem
  | cons e l ih =>
    obtain ⟨j, b⟩ := e
    obtain ⟨hlow, hrest⟩ := Table.rising_cons.1 hwf
    unfold Table.find?
    rcases List.mem_cons.1 hmem with h | h
    · obtain ⟨rfl, rfl⟩ := Prod.mk.inj h
      exact if_pos rfl
    · have hjk : j < k := hlow _ h
      rw [if_neg hjk.ne, ih hrest h]

/-! ### A vehicle's load replaced (R16) -/

/-- A roll's record once its carrier is lost. -/
def adrift (q : Roll) : Roll := { q with status := .carried none, holds := { q.holds with lostTrack := true } }

/-- A hold of a carried roll leaves the calls when there are none. -/
theorem addHoldRead_of_carried {id : RollId} {k : Nat} {r : Roll} {c : Option VehicleIx} (hold : HoldKind)
    (hr : s.findRoll id = some (k, r)) (hstatus : r.status = .carried c) (hcalls : s.fdu.calls = []) :
    s.addHoldRead id hold = if r.holds.has hold then s else s.setSlot k { r with holds := r.holds.add hold } := by
  have hnaming (t : Roll) : (s.setSlot k t).callNaming? id = none := callNaming?_of_nil hcalls id
  unfold addHoldRead
  simp only [hr, hstatus, hnaming, ite_self]

theorem loseCarrier_of_found {z : RollId} {m : Nat} {q : Roll} (hpar : s.noParity) (hr : s.findRoll z = some (m, q))
    (hcalls : s.fdu.calls = []) :
    s.loseCarrier z = if q.holds.lostTrack then s.setSlot m { q with status := .carried none }
      else (s.setSlot m { q with status := .carried none }).setSlot m (adrift q) := by
  rw [loseCarrier, updRoll_of_noParity hpar hr, addHold_of_noParity (noParity_setSlot _ _ hpar),
    addHoldRead_of_carried _ (findRoll_setSlot (r' := { q with status := .carried none }) hr rfl) rfl hcalls]
  rfl

theorem loseCarrier_slots {z : RollId} {m : Nat} {q : Roll} (hpar : s.noParity) (hr : s.findRoll z = some (m, q))
    (hcalls : s.fdu.calls = []) :
    (∀ j, (s.loseCarrier z).slot? j = if j = m then some (adrift q) else s.slot? j) ∧
      ∀ w, (s.loseCarrier z).vehicle w = s.vehicle w := by
  have hheld : q.holds.lostTrack = true → adrift q = { q with status := .carried none } := by
    intro h
    have hholds : { q.holds with lostTrack := true } = q.holds := by rw [← h]
    rw [adrift, hholds]
  rw [loseCarrier_of_found hpar hr hcalls]
  split
  next h => exact ⟨fun j => by rw [slot?_setSlot, ← hheld h], fun _ => rfl⟩
  next h =>
    refine ⟨fun j => ?_, fun _ => rfl⟩
    rw [slot?_setSlot, slot?_setSlot]
    split <;> rfl

theorem loseCarrier_of_absent {z : RollId} (hpar : s.noParity) (hr : s.findRoll z = none) : s.loseCarrier z = s := by
  have hkept : (s.updRoll z fun r => { r with status := .carried none }) = s := by
    simp only [updRoll, readRoll_of_noParity hpar, hr]
  rw [loseCarrier, hkept, addHold_of_noParity hpar]
  simp only [addHoldRead, hr]

/-- With no call open a known roll is carried, and the roll that it replaces loses its carrier. -/
theorem slot?_carryOn {id : RollId} {k : Nat} {r : Roll} (hpar : s.noParity) (hwf : Table.rising s.tmc.rolls = true)
    (hcalls : s.fdu.calls = []) (hr : s.findRoll id = some (k, r)) :
    (s.carryOn v id true).slot? k = some { r with status := .carried (some v) } ∧
      (s.carryOn v id true).vehicle v = { s.vehicle v with load := .roll id } ∧
      ∀ z m q, (s.vehicle v).load = .roll z → z ≠ id → s.findRoll z = some (m, q) →
        (s.carryOn v id true).slot? m = some (adrift q) := by
  let u := s.setSlot k { r with status := .carried (some v) }
  have hpicked : u.callPicked id v = u := callPicked_of_unnamed v (callNaming?_of_nil hcalls id)
  have hcarry : s.carryOn v id true = (u.shedLoad v (some id)).setLoad v (.roll id) := by
    show ((if true = true then (s.updRoll id fun r => { r with status := .carried (some v) }).callPicked id v
      else s.updRoll id fun r => { r with status := .carried (some v) }).shedLoad v (some id)).setLoad v (.roll id) = _
    rw [updRoll_of_noParity hpar hr, hpicked, ite_self]
  have hslot (j : Nat) : (s.carryOn v id true).slot? j = (u.shedLoad v (some id)).slot? j := by rw [hcarry]; rfl
  have hvehicle : (s.carryOn v id true).vehicle v = { (u.shedLoad v (some id)).vehicle v with load := .roll id } := by
    rw [hcarry, setLoad, vehicle_updVehicle, if_pos rfl]
  have hself : u.slot? k = some { r with status := .carried (some v) } := by rw [slot?_setSlot, if_pos rfl]
  rw [hslot, hvehicle]
  by_cases hkept : ∃ z m q, (s.vehicle v).load = .roll z ∧ z ≠ id ∧ s.findRoll z = some (m, q)
  case pos =>
    obtain ⟨z, m, q, hload, hz, hq⟩ := hkept
    have hq' : u.findRoll z = some (m, q) :=
      (findRoll_setSlot_of_ne (r' := { r with status := .carried (some v) }) hwf hr rfl hz).trans hq
    have hshed : u.shedLoad v (some id) = u.loseCarrier z := by
      simp only [shedLoad, show (u.vehicle v).load = .roll z from hload, Option.some.injEq, hz.symm, if_false]
    obtain ⟨hslots, hvehicles⟩ := loseCarrier_slots (noParity_setSlot _ _ hpar) hq' hcalls
    have hkm : k ≠ m := by
      rintro rfl
      have h := (slot?_of_findRoll hwf hr).symm.trans (slot?_of_findRoll hwf hq)
      exact hz ((id_of_findRoll hq).symm.trans ((congrArg Roll.id (Option.some.inj h)).symm.trans (id_of_findRoll hr)))
    rw [hshed, hvehicles, hslots, if_neg hkm]
    refine ⟨hself, rfl, fun z' m' q' hload' _ hq'' => ?_⟩
    obtain rfl := Load.roll.inj (hload.symm.trans hload')
    obtain ⟨rfl, rfl⟩ := Prod.mk.inj (Option.some.inj (hq.symm.trans hq''))
    rw [hslot, hshed, hslots, if_pos rfl]
  case neg =>
    have hshed : u.shedLoad v (some id) = u := by
      unfold shedLoad
      split
      case h_2 => rfl
      case h_1 z hload =>
        split
        · rfl
        next hz =>
          refine loseCarrier_of_absent (noParity_setSlot _ _ hpar) ?_
          have hz' : z ≠ id := fun h => hz (congrArg some h.symm)
          refine (findRoll_setSlot_of_ne (r' := { r with status := .carried (some v) }) hwf hr rfl hz').trans ?_
          exact Option.eq_none_iff_forall_not_mem.2 fun e he => hkept ⟨z, e.1, e.2, hload, hz', he⟩
    rw [hshed]
    exact ⟨hself, rfl, fun z m q hload hz hq => absurd ⟨z, m, q, hload, hz, hq⟩ hkept⟩

theorem slot?_progressPick (l : Loc) (j : Nat) : (s.progressPick v l).slot? j = s.slot? j := by
  unfold progressPick
  split <;> rfl

theorem load_progressPick (l : Loc) : ((s.progressPick v l).vehicle v).load = (s.vehicle v).load := by
  unfold progressPick
  split
  · rw [updOrder, vehicle_updVehicle, if_pos rfl]
  · rfl

theorem outstanding_progressPick_of_one {l : Loc} {o : Order} (h : (s.vehicle v).outstanding = [o])
    (hprogress : o.progress = .toPickup) (hpickup : o.pickup = l) :
    ((s.progressPick v l).vehicle v).outstanding = [{ o with progress := .toDrop }] := by
  have hfind : ((s.vehicle v).outstanding.find? fun o => decide (o.progress = .toPickup ∧ o.pickup = l)) = some o := by
    rw [h]
    exact List.find?_cons_of_pos (decide_eq_true ⟨hprogress, hpickup⟩)
  have hstep : s.progressPick v l = s.updOrder ⟨v, o.tag⟩ fun o => { o with progress := .toDrop } := by
    simp only [progressPick, hfind]
  rw [hstep, updOrder, vehicle_updVehicle, if_pos rfl]
  simp only [h, List.map_cons, List.map_nil, if_true]

/-! ### Rolls without a record, locations not kept -/

theorem dropTaken_of_unkept {kind : Byte} {number : Half} (id : RollId) (h : s.keptLoc? kind number = none) :
    s.dropTaken kind number id v = ((s.shedLoad v none).setLoad v .empty).raise .placeConflict (num v) := by
  simp only [dropTaken, h]

theorem dropTaken_of_unknown {kind : Byte} {number : Half} {id : RollId} {l : Loc} (hpar : s.noParity)
    (hl : s.keptLoc? kind number = some l) (hr : s.findRoll id = none)
    (hload : (s.vehicle v).load = .empty ∨ (s.vehicle v).load = .unknown) :
    s.dropTaken kind number id v =
      if (id = 0 ∨ id = 0xFFFFFFFF#32) ∧ (s.vehicle v).load = .unknown then s.setLoad v .empty
      else (s.setLoad v .empty).raise .unknownRoll (num v) := by
  unfold dropTaken
  simp only [hl, readRoll_of_noParity hpar, readLoc_of_noParity hpar, roll?, hr, Option.map_none, dropUnknown,
    shedLoad_of_free none hload, decide_eq_true_eq]
  rfl

/-- A lifted roll's vehicle keeps its orders. -/
theorem noPickup_lifted {u : State} {l : Loc} (k : Nat) (r : Roll) (x : RollStatus) (id : RollId) (h : s.noPickup v l) :
    (((u.setSlot k r).setVehicle v { s.vehicle v with load := .roll id }).flagMisplaced l id x).noPickup v l := by
  refine noPickup_of_vehicles ?_ h
  rw [vehicle_flagMisplaced, vehicle_setVehicle_self]

end State

/-- Settles O24: a pick by where the roll stood, by its orders, and without a record. -/
theorem pickMovesRollAndOrder : Obligations.PickMovesRollAndOrder := by
  refine ⟨fun v dst src kind number id l k r s hheard hpar hl hr => ?lifted,
    fun v dst src kind number id d k r s hheard hpar hl hr hstatus hcalls hwf => ?progress,
    ⟨fun v st dst src kind number id l k r s hheard hpar hl hr => ?arms, fun st s => ?asked⟩,
    fun v dst src kind number id s hheard hpar => ?unknown⟩
  case lifted =>
    intro x sent answer
    have answers {t : State} (h : s.pickTaken kind number id v = t) : answer t := by
      show exec _ _ = _
      rw [exec_vloadPick kind number id hheard, h]
      rfl
    refine ⟨fun h => answers (by rw [State.pickTaken_of_known hpar hl hr, if_pos h]), fun hload hcall hpickup => ?_⟩
    intro lifted
    have lift {u : State} (hother : r.status ≠ .carried (some v)) (hclear : s.clearLocation r.status = u) (hgood : u.noParity)
        (hrolls : u.tmc.rolls = s.tmc.rolls) (hcalls : u.fdu.calls = s.fdu.calls) (hx : u.vehicle v = x)
        (htell : ∀ t : State, t.tellArm r.status = t) : answer ((lifted u).flagMisplaced l id r.status) :=
      answers (State.pickTaken_of_lifted hpar hl hr hother hcall hload hclear hgood hrolls hcalls hx (htell _)
        (State.noPickup_lifted k _ _ id hpickup))
    have atHome {u : State} (h : answer ((lifted u).flagMisplaced l id r.status)) (hat : expectedAt l r.status = true) :
        answer (lifted u) := by
      rw [State.flagMisplaced_of_expected hat] at h
      exact h
    have away {u : State} (h : answer ((lifted u).flagMisplaced l id r.status)) (hat : expectedAt l r.status = false) :
        answer ((lifted u).raiseField .rollMisplaced id id) := by
      rw [State.flagMisplaced_of_other hat] at h
      exact h
    refine ⟨fun d hd => ?announced, fun p hp => ?placed, fun hc => ?lost, fun w hw hc => ?other, fun st hst hat hunarmed => ?butt⟩
    case announced =>
      have h := lift (u := s) (by rw [hd]; exact fun h => nomatch h) (by rw [hd]; rfl) hpar rfl rfl rfl (by rw [hd]; exact fun _ => rfl)
      exact ⟨fun hat => atHome h (by rw [hd]; exact decide_eq_true hat), fun hat => away h (by rw [hd]; exact decide_eq_false hat)⟩
    case placed =>
      intro left
      have h := lift (u := left) (by rcases hp with hp | ⟨o, hp⟩ <;> rw [hp] <;> exact fun h => nomatch h)
        (State.clearLocation_place hp hpar) (State.noParity_setPlace _ _ hpar) rfl rfl rfl
        (by rcases hp with hp | ⟨o, hp⟩ <;> rw [hp] <;> exact fun _ => rfl)
      have hexpected : expectedAt l r.status = decide (l = ⟨.place, p⟩) := by rcases hp with hp | ⟨o, hp⟩ <;> rw [hp] <;> rfl
      exact ⟨fun hat => atHome h (by rw [hexpected]; exact decide_eq_true hat),
        fun hat => away h (by rw [hexpected]; exact decide_eq_false hat)⟩
    case lost =>
      exact away (lift (u := s) (by rw [hc]; exact fun h => nomatch h) (by rw [hc]; rfl) hpar rfl rfl rfl
        (by rw [hc]; exact fun _ => rfl)) (by rw [hc]; rfl)
    case other =>
      exact away (lift (u := s.setVehicle w { s.vehicle w with load := .empty })
        (by rw [hc]; exact fun h => hw (Option.some.inj (RollStatus.carried.inj h))) (by rw [hc]; rfl) hpar rfl rfl
        (by rw [State.vehicle_setVehicle, if_neg hw]) (by rw [hc]; exact fun _ => rfl)) (by rw [hc]; rfl)
    case butt =>
      have hexpected : expectedAt l r.status = true := by rw [hst, hat]; exact decide_eq_true rfl
      refine answers (State.pickTaken_of_lifted (u := s.setStand st { s.stand st with other := .none }) hpar hl hr
        (by rw [hst]; exact fun h => nomatch h) hcall hload (by rw [hst]; exact State.emptyOther_of_unarmed hunarmed) hpar rfl rfl rfl
        (by rw [State.flagMisplaced_of_expected hexpected, hst]; rfl) ?_)
      refine State.noPickup_armEmptied st (State.noPickup_of_vehicles ?_ hpickup)
      rw [State.vehicle_setVehicle_self]
  case progress =>
    intro x
    have hrising : Table.rising s.tmc.rolls = true := by
      simp only [State.tablesWf, Bool.and_eq_true] at hwf
      tauto
    obtain ⟨hmoved, hvehicle, hshed⟩ := State.slot?_carryOn (v := v) hpar hrising hcalls hr
    have hknown : s.pickKnown v ⟨.dock, d⟩ id r.status = s.carryOn v id true := by
      rw [State.pickKnown_eq, hstatus, State.flagMisplaced_of_expected (show expectedAt ⟨.dock, d⟩ (.announced d) = true from decide_eq_true rfl)]
      rfl
    refine ⟨(s.carryOn v id true).progressPick v ⟨.dock, d⟩, ?_, (State.slot?_progressPick ..).trans hmoved,
      (State.load_progressPick _).trans (by rw [hvehicle]), fun o ho hprogress hpickup => ?_, fun z m q hload hz hq => ?_⟩
    · rw [exec_vloadPick kind number id hheard, State.pickTaken_of_known hpar hl hr,
        if_neg (by rw [hstatus]; exact fun h => nomatch h), hknown]
      rfl
    · exact State.outstanding_progressPick_of_one (by rw [hvehicle]; exact ho) hprogress hpickup
    · exact (State.slot?_progressPick ..).trans (hshed z m q hload hz hq)
  case arms =>
    intro x y hload hcall hpickup answer lifted
    have answers {t : State} (h : s.pickTaken kind number id v = t) : answer t := by
      show exec _ _ = _
      rw [exec_vloadPick kind number id hheard, h]
      rfl
    have hfirst (x : RollStatus) (u : State) (hx : expectedAt l x = false) :
        ((u.setSlot k { r with status := .carried (some v) }).setVehicle v { s.vehicle v with load := .roll id }).flagMisplaced l id x =
          lifted u := State.flagMisplaced_of_other hx
    have hmode {u : State} (h : u.sfu.mode = s.sfu.mode) : u.running = true := (State.running_eq_of_mode h).trans hheard.2.1
    refine ⟨fun hst => answers ?standby, fun hst => answers ?running⟩
    case standby =>
      let u := s.setStand st { y with other := .none, state := if y.state = .armed then .feeding else y.state }
      let w := (lifted u).armEmptied st
      have hlifted : Moves [.rolls, .vehicles, .ltu, .flags] u (lifted u) :=
        ((Moves.setSlot k _ u).mono.next (Moves.setVehicle v _ _)).next (Moves.raiseField ..)
      have hgood : w.noParity := by
        refine State.noParity_of_moves (Moves.armEmptied st _) (by decide) ?_
        exact (LinkOp.raiseField ..).noParity_eq _ (State.noParity_setSlot _ _ hpar)
      have hstarve := State.moves_starveTest_of_noParity st hgood
      have htest := State.moves_callTest_of_noParity st (State.noParity_of_moves hstarve (by decide) hgood)
      have hrun : (w.starveTest st).running = true := hmode ((hstarve.same .mode (by decide)).trans
        (((Moves.armEmptied st _).same .mode (by decide)).trans (hlifted.same .mode (by decide))))
      refine State.pickTaken_of_lifted (u := u) hpar hl hr (by rw [hst]; exact fun h => nomatch h) hcall hload (by rw [hst]; rfl) hpar
        rfl rfl rfl ?_ ?_
      · rw [hfirst _ _ (by rw [hst]; rfl), hst]
        exact if_pos hrun
      · refine State.noPickup_of_vehicles ?_ (State.noPickup_armEmptied st (s := lifted u) (State.noPickup_of_vehicles ?_ hpickup))
        · exact (State.outstanding_of_moves htest (by decide) v).trans (State.outstanding_of_moves hstarve (by decide) v)
        · rw [(LinkOp.raiseField ..).vehicle_eq, State.vehicle_setVehicle_self]
    case running =>
      let u := s.setStand st { y with
        active := none, lr := 0, carry := 0, lres := 0, implausible := 0, deadReckon := false, late := false, ts := 65535
        state := if y.state = .out then .out else .idle }
      have hgood : (lifted u).noParity := (LinkOp.raiseField ..).noParity_eq _ (State.noParity_setSlot _ _ hpar)
      refine State.pickTaken_of_lifted (u := u) hpar hl hr (by rw [hst]; exact fun h => nomatch h) hcall hload (by rw [hst]; rfl) hpar
        rfl rfl rfl ?_ ?_
      · rw [hfirst _ _ (by rw [hst]; rfl), hst]
        rfl
      · refine State.noPickup_of_vehicles ?_ hpickup
        rw [State.outstanding_of_moves (State.moves_stateChanged_of_noParity st hgood) (by decide) v,
          (LinkOp.raiseField ..).vehicle_eq, State.vehicle_setVehicle_self]
  case asked =>
    intro asks
    exact ⟨State.armEmptied_of_none, fun w o h honly => State.armEmptied_of_asked h honly⟩
  case unknown =>
    intro x pick drop loaded
    have picks {t : State} (h : s.pickTaken kind number id v = t) : pick t := by
      show exec _ _ = _
      rw [exec_vloadPick kind number id hheard, h]
      rfl
    have drops {t : State} (h : s.dropTaken kind number id v = t) : drop t := by
      show exec _ _ = _
      rw [exec_vloadDrop kind number id hheard, h]
      rfl
    refine ⟨fun hl => ⟨picks (State.pickTaken_of_unkept id hl), fun hload => drops ?_⟩, fun l hl hr hload => ⟨fun hpickup => picks ?_,
      fun hunknown hid => drops ?_, fun hwhy => drops ?_⟩⟩
    · rw [State.dropTaken_of_unkept id hl, State.shedLoad_of_free none hload]
      rfl
    · rw [State.pickTaken_of_unknown hpar hl hr, State.pickUnknown, State.shedLoad_of_free none hload]
      refine State.progressPick_of_none (State.noPickup_of_vehicles ?_ hpickup)
      rw [(LinkOp.raise ..).vehicle_eq, State.setLoad, State.vehicle_updVehicle, if_pos rfl]
    · rw [State.dropTaken_of_unknown hpar hl hr hload, if_pos ⟨hid, hunknown⟩]
      rfl
    · rw [State.dropTaken_of_unknown hpar hl hr hload, if_neg]
      · rfl
      · rintro ⟨hid, hunknown⟩
        rcases hwhy with h | h
        · exact absurd (h.symm.trans hunknown) (fun h => nomatch h)
        · exact hid.elim h.1 h.2

end Sys2Proof.Machine
end

section
/-! PROOFS. Drops at places, on stands, at docks and at waste bays (R9, R19 to R22, R105, R160). -/

namespace Sys2Proof.Machine

/-! ### Slots and places written twice -/

theorem Table.insert_insert {α : Type} (k : Nat) (a b : α) : ∀ l : List (Nat × α),
    Table.insert k b (Table.insert k a l) = Table.insert k b l
  | [] => by simp [Table.insert]
  | (i, c) :: l => by
    have ih := Table.insert_insert k a b l
    rcases Nat.lt_trichotomy k i with h | rfl | h
    · simp [Table.insert, h]
    · simp [Table.insert]
    · simp [Table.insert, h.not_gt, h.ne', ih]

namespace State

variable {v : VehicleIx} {s : State}

theorem setSlot_setSlot (k : Nat) (r t : Roll) (s : State) : (s.setSlot k r).setSlot k t = s.setSlot k t := by
  simp only [setSlot, Table.insert_insert, List.filter_filter, Bool.and_self]

/-- An occupied place is listed, whatever else is written to it. -/
theorem setPlace_setPlace_of_occupied {x y : Place} (hx : x.occupant ≠ none) (hy : y.occupant ≠ none) (p : Nat) (s : State) :
    (s.setPlace p x).setPlace p y = s.setPlace p y := by
  have hlisted {z : Place} (h : z.occupant ≠ none) : z ≠ {} := fun hz => h (congrArg Place.occupant hz)
  simp only [setPlace, Table.put, if_neg (hlisted hx), if_neg (hlisted hy), Table.insert_insert, List.filter_filter, Bool.and_self]

/-! ### The calls when none is open and no search runs -/

/-- No call is open and no search is in flight. -/
def callsIdle (s : State) : Prop := s.fdu.calls = [] ∧ s.fdu.search = none

theorem callsIdle_of_moves {m : List Part} {a b : State} (h : Moves m a b) (hm : .calls ∉ m) (ha : a.callsIdle) : b.callsIdle := by
  obtain ⟨hcalls, hsearch⟩ := Prod.mk.inj (h.same .calls hm)
  exact ⟨hcalls.trans ha.1, hsearch.trans ha.2⟩

theorem call?_of_idle (h : s.callsIdle) (st : StandIx) : s.call? st = none := by
  rw [call?, h.1]
  rfl

theorem startSearch_of_nil (h : s.fdu.calls = []) : s.startSearch = s := by
  unfold startSearch
  rw [h]
  exact ite_self s

theorem removeCall_of_none {st : StandIx} (h : s.call? st = none) : s.removeCall st = s := by
  simp only [removeCall, h]

theorem availability_of_idle (h : s.callsIdle) : s.availability = s := by
  obtain ⟨hcalls, hsearch⟩ := h
  have hmarks : s.clearNoRoll = s := by
    rw [clearNoRoll, hcalls, List.map_nil, setCalls, ← hcalls]
  have hnoted : s.setSearch none = s := by rw [setSearch, ← hsearch]
  rw [availability, hmarks, hsearch, Option.map_none, hnoted, startSearch_of_nil hcalls]

theorem announceAvailable_of_idle (id : RollId) (hpar : s.noParity) (h : s.callsIdle) : s.announceAvailable id = s := by
  unfold announceAvailable
  split
  · simp only [readStored_of_noParity hpar, availability_of_idle h, ite_self]
  · rfl

theorem callDropped_of_idle (id : RollId) (h : s.callsIdle) : s.callDropped id = s :=
  callDropped_of_unnamed (callNaming?_of_nil h.1 id)

/-! ### Locations of drops -/

theorem keptLoc?_of_kept {kind : Byte} {number : Half} {k : LocKind} (hk : LocKind.ofByte kind = some k)
    (hkept : k = .place ∨ k = .stand ∨ k = .dock ∨ k = .waste) (hlow : 1 ≤ number.toNat) (hhigh : number.toNat ≤ kindMax s k) :
    s.keptLoc? kind number = some ⟨k, number.toNat⟩ := by
  unfold keptLoc?
  rw [hk]
  exact if_pos ⟨hkept, decide_eq_true ⟨hlow, hhigh⟩⟩

/-! ### A known roll set down -/

section Known

variable {kind : Byte} {number : Half} {id : RollId} {k : Nat} {r : Roll}

theorem dropTaken_of_carried {l : Loc} (hpar : s.noParity) (hl : s.keptLoc? kind number = some l)
    (hr : s.findRoll id = some (k, r)) (hstatus : r.status = .carried (some v)) :
    s.dropTaken kind number id v = s.dropCarried v l id := by
  unfold dropTaken
  simp only [hl, readRoll_of_noParity hpar, readLoc_of_noParity hpar, roll?_of_findRoll hr, hstatus, if_true]

/-- A roll without a carrier is first put on the vehicle, which carried none (R22). -/
theorem dropTaken_of_lost {l : Loc} (hpar : s.noParity) (hl : s.keptLoc? kind number = some l)
    (hr : s.findRoll id = some (k, r)) (hstatus : r.status = .carried none) (hcall : s.callNaming? id = none)
    (hload : (s.vehicle v).load = .empty ∨ (s.vehicle v).load = .unknown) :
    s.dropTaken kind number id v =
      (((s.raiseField .rollMisplaced id id).setSlot k { r with status := .carried (some v) }).setVehicle v
        { s.vehicle v with load := .roll id }).dropCarried v l id := by
  have hother : RollStatus.carried none ≠ .carried (some v) := fun h => nomatch h
  have hcorrected : s.correctForDrop v id (.carried none) = (s.carryOn v id false).raiseField .rollMisplaced id id := rfl
  unfold dropTaken
  simp only [hl, readRoll_of_noParity hpar, readLoc_of_noParity hpar, roll?_of_findRoll hr, hstatus, if_neg hother, hcorrected]
  rw [carryOn_of_unnamed false hpar hr hcall hload, (LinkOp.raiseField ..).setVehicle, (LinkOp.raiseField ..).setSlot]

theorem setDown_of_found (hpar : s.noParity) (hr : s.findRoll id = some (k, r)) (x : RollStatus) :
    s.setDown v id x = (s.setSlot k { r with status := x }).setVehicle v { s.vehicle v with load := .empty } := by
  rw [setDown, updRoll_of_noParity hpar hr]
  rfl

/-! ### Drops at a place (R19, R9) -/

/-- The roll on its place, before the claim there ends. -/
def placed (v : VehicleIx) (p : Nat) (id : RollId) (k : Nat) (r : Roll) (s : State) : State :=
  ((s.setSlot k { r with status := .stored p }).setVehicle v { s.vehicle v with load := .empty }).setPlace p
    { s.place p with occupant := some id }

theorem noParity_placed {p : Nat} (h : s.noParity) : (s.placed v p id k r).noParity :=
  noParity_setPlace _ _ (noParity_setSlot _ _ h)

theorem place_placed (p : Nat) : (s.placed v p id k r).place p = { s.place p with occupant := some id } :=
  (place_setPlace_of_listed (x := { s.place p with occupant := some id })
    (fun h => Option.some_ne_none id (congrArg Place.occupant h)) p p _).trans (if_pos rfl)

theorem setPlace_placed {x : Place} (p : Nat) (hx : x.occupant ≠ none) :
    (s.placed v p id k r).setPlace p x =
      ((s.setSlot k { r with status := .stored p }).setVehicle v { s.vehicle v with load := .empty }).setPlace p x :=
  setPlace_setPlace_of_occupied (Option.some_ne_none id) hx p _

theorem dropAtPlace_of_occupied {p : Nat} (id : RollId) (h : (s.place p).occupant ≠ none ∨ (s.place p).blocked = true) :
    s.dropAtPlace v p id = s.raise .placeConflict (num v) := by
  refine if_pos ?_
  rw [Bool.or_eq_true]
  exact h.imp_left Option.isSome_iff_ne_none.2

theorem dropAtPlace_of_free {p : Nat} (hpar : s.noParity) (hidle : s.callsIdle) (hr : s.findRoll id = some (k, r))
    (hoccupant : (s.place p).occupant = none) (hblocked : (s.place p).blocked = false)
    (hgood : ((s.placed v p id k r).endDropClaim v ⟨.place, p⟩).noParity) :
    s.dropAtPlace v p id = (s.placed v p id k r).endDropClaim v ⟨.place, p⟩ := by
  have hput : (s.setDown v id (.stored p)).updPlace p (fun x => { x with occupant := some id }) = s.placed v p id k r := by
    rw [setDown_of_found hpar hr, updPlace_of_noParity (by exact noParity_setSlot _ _ hpar)]
    rfl
  have hended : ((s.placed v p id k r).endDropClaim v ⟨.place, p⟩).callsIdle :=
    callsIdle_of_moves (Moves.endDropClaim ..) (by decide) hidle
  unfold dropAtPlace
  rw [if_neg (by rw [hoccupant, hblocked]; decide), hput]
  exact (congrArg (announceAvailable id) (callDropped_of_idle id hended)).trans (announceAvailable_of_idle id hgood hended)

/-- The claim on the place of a roll just put there. -/
theorem endDropClaim_placed {p : Nat} (hpar : s.noParity) :
    let put : State := ((s.setSlot k { r with status := .stored p }).setVehicle v { s.vehicle v with load := .empty }).setPlace p
      { s.place p with occupant := some id, claim := none }
    ((s.place p).claim = none → (s.placed v p id k r).endDropClaim v ⟨.place, p⟩ = put) ∧
      (∀ tag, (s.place p).claim = some ⟨v, tag⟩ →
        (s.placed v p id k r).endDropClaim v ⟨.place, p⟩ = put.updOrder ⟨v, tag⟩ fun o => { o with claim := .consumed }) ∧
      ∀ w tag, w ≠ v → (s.place p).claim = some ⟨w, tag⟩ →
        (s.placed v p id k r).endDropClaim v ⟨.place, p⟩ =
          (put.updOrder ⟨w, tag⟩ fun o => { o with claim := .none }).raise .placeConflict (num w) := by
  intro put
  have hclaim : (s.placed v p id k r).dropClaim? ⟨.place, p⟩ = (s.place p).claim :=
    (congrArg Place.claim (place_placed p) :)
  have hfree : (s.placed v p id k r).setDropClaim ⟨.place, p⟩ none = put := by
    rw [setDropClaim_place none rfl (noParity_placed hpar), place_placed]
    exact setPlace_placed p (Option.some_ne_none id)
  refine ⟨fun h => ?_, fun tag h => ?_, fun w tag hw h => ?_⟩
  · simp only [endDropClaim, hclaim, h]
    have hkept : { s.place p with occupant := some id } = { s.place p with occupant := some id, claim := none } := by rw [← h]
    rw [placed, hkept]
  · simp only [endDropClaim, hclaim, h, hfree, if_true]
  · simp only [endDropClaim, hclaim, h, hfree, if_neg hw]

end Known

end State

/-- Settles O25: a drop at a place by what stands and waits there, then a roll that no vehicle carried. -/
theorem dropAtPlaceIsRecorded : Obligations.DropAtPlaceIsRecorded := by
  refine ⟨fun v p dst src number id k r s hheard hpar hnumber hlow hhigh hr hstatus hcalls hsearch => ?carried,
    fun v p dst src number id k r s hheard hpar hnumber hlow hhigh hr hstatus hcalls hsearch hoccupant hclaim hblocked hload => ?lost⟩
  case carried =>
    subst hnumber
    intro sent answer
    have hl : s.keptLoc? 1 number = some ⟨.place, number.toNat⟩ := State.keptLoc?_of_kept rfl (.inl rfl) hlow hhigh
    have answers {t : State} (h : s.dropAtPlace v number.toNat id = t) : answer t := by
      show exec _ _ = _
      rw [exec_vloadDrop 1 number id hheard, State.dropTaken_of_carried hpar hl hr hstatus]
      exact congrArg (fun t : State => Host.Outcome.next (t.placeUpper sent)) h
    refine ⟨fun h => answers (State.dropAtPlace_of_occupied id h), fun hoccupant hblocked => ?_⟩
    intro put
    obtain ⟨hnone, hown, hother⟩ := State.endDropClaim_placed (v := v) (id := id) (k := k) (r := r) (p := number.toNat) hpar
    have hput : put.noParity := State.noParity_setPlace _ _ (State.noParity_setSlot _ _ hpar)
    have ends {t : State} (h : (s.placed v number.toNat id k r).endDropClaim v ⟨.place, number.toNat⟩ = t) (ht : t.noParity) :
        answer t :=
      answers ((State.dropAtPlace_of_free hpar ⟨hcalls, hsearch⟩ hr hoccupant hblocked (by rw [h]; exact ht)).trans h)
    exact ⟨fun h => ends (hnone h) hput, fun tag h => ends (hown tag h) hput,
      fun w tag hw h => ends (hother w tag hw h) ((LinkOp.raise ..).noParity_eq _ hput)⟩
  case lost =>
    subst hnumber
    have hl : s.keptLoc? 1 number = some ⟨.place, number.toNat⟩ := State.keptLoc?_of_kept rfl (.inl rfl) hlow hhigh
    let u := s.raiseField .rollMisplaced id id
    let c := (u.setSlot k { r with status := .carried (some v) }).setVehicle v { s.vehicle v with load := .roll id }
    have hupar : u.noParity := (LinkOp.raiseField ..).noParity_eq _ hpar
    have hur : u.findRoll id = some (k, r) := by rw [State.findRoll, (LinkOp.raiseField ..).tmc_eq]; exact hr
    have hcpar : c.noParity := State.noParity_setSlot _ _ hupar
    have hcr : c.findRoll id = some (k, { r with status := .carried (some v) }) := State.findRoll_setSlot hur rfl
    have hplace : c.place number.toNat = s.place number.toNat := (LinkOp.raiseField ..).place_eq ..
    have hidle : c.callsIdle := State.callsIdle_of_moves (((Moves.raiseField ..).mono (m := [.ltu, .flags, .rolls, .vehicles]).next
      (Moves.setSlot ..)).next (Moves.setVehicle ..)) (by decide) ⟨hcalls, hsearch⟩
    obtain ⟨hnone, -, -⟩ := State.endDropClaim_placed (v := v) (id := id) (k := k) (r := { r with status := .carried (some v) })
      (p := number.toNat) hcpar
    have hended := hnone (by rw [hplace]; exact hclaim)
    have hdropped := State.dropAtPlace_of_free hcpar hidle hcr (by rw [hplace]; exact hoccupant) (by rw [hplace]; exact hblocked)
      (by rw [hended]; exact State.noParity_setPlace _ _ (State.noParity_setSlot _ _ hcpar))
    have hsame : { s.place number.toNat with occupant := some id, claim := none } =
        { s.place number.toNat with occupant := some id } := by rw [← hclaim]
    rw [exec_vloadDrop 1 number id hheard, State.dropTaken_of_lost hpar hl hr hstatus (State.callNaming?_of_nil hcalls id) hload]
    refine congrArg (fun t : State => Host.Outcome.next (t.placeUpper _)) ((hdropped.trans hended).trans ?_)
    have hslot (x : Roll) : c.setSlot k x = (u.setSlot k x).setVehicle v { s.vehicle v with load := .roll id } :=
      congrArg (State.setVehicle v { s.vehicle v with load := .roll id }) (State.setSlot_setSlot ..)
    have hvehicle : c.vehicle v = { s.vehicle v with load := .roll id } := State.vehicle_setVehicle_self ..
    rw [hplace, hsame, hslot, hvehicle, State.setVehicle_setVehicle]

end Sys2Proof.Machine
end

section
/-! PROOFS. Drops on a stand's other arm, at docks and at waste bays (R20, R21, R105, R160). -/

namespace Sys2Proof.Machine

/-- The stand with a standby roll on its arm and the claim there ended. -/
def Stand.withStandby (x : Stand) (id : RollId) : Stand :=
  { x with
    other := .standby id
    claim := none
    state := if x.state = .feeding ∨ x.state = .starved then .armed else x.state }

namespace State

variable {v : VehicleIx} {s : State} {id : RollId} {k : Nat} {r : Roll}

theorem inLead_of_stand {a b : State} {st : StandIx} (hpress : (b.stand st).press = (a.stand st).press) (hpls : b.pls = a.pls) :
    b.inLead st = a.inLead st := by
  simp only [inLead, hpress, inUse, activePress, activeStand, hpls]

/-! ### Drops on a stand (R20, R105) -/

/-- The roll on the arm, and the claim there ended. -/
def onArm (v : VehicleIx) (st : StandIx) (id : RollId) (k : Nat) (r : Roll) (s : State) : State :=
  ((s.setSlot k { r with status := .standby st }).setVehicle v { s.vehicle v with load := .empty }).setStand st
    ((s.stand st).withStandby id)

theorem endDropClaim_armStandby (st : StandIx) (hr : s.findRoll id = some (k, r)) (hpar : s.noParity) :
    let arm : State := ((s.setDown v id (.standby st)).armStandby st id).endDropClaim v (standLoc st)
    ((s.stand st).claim = none → arm = s.onArm v st id k r) ∧
      (∀ tag, (s.stand st).claim = some ⟨v, tag⟩ →
        arm = (s.onArm v st id k r).updOrder ⟨v, tag⟩ fun o => { o with claim := .consumed }) ∧
      ∀ w tag, w ≠ v → (s.stand st).claim = some ⟨w, tag⟩ →
        arm = ((s.onArm v st id k r).updOrder ⟨w, tag⟩ fun o => { o with claim := .none }).raise .placeConflict (num w) := by
  intro arm
  let x : Stand := { (s.stand st).withStandby id with claim := (s.stand st).claim }
  let u := (s.setSlot k { r with status := .standby st }).setVehicle v { s.vehicle v with load := .empty }
  have harmed : (s.setDown v id (.standby st)).armStandby st id = u.setStand st x := by
    rw [setDown_of_found hpar hr]
    rfl
  have hclaim : (u.setStand st x).dropClaim? (standLoc st) = (s.stand st).claim := by
    have hkind : (standLoc st).kind = .stand := rfl
    simp only [dropClaim?, hkind, stand?_standLoc, stand_setStand_self]
    rfl
  have hfree : (u.setStand st x).setDropClaim (standLoc st) none = s.onArm v st id k r := by
    rw [setDropClaim_standLoc, setStand_setStand, stand_setStand_self]
    rfl
  have harm : arm = (u.setStand st x).endDropClaim v (standLoc st) := congrArg (endDropClaim v (standLoc st)) harmed
  refine ⟨fun h => ?_, fun tag h => ?_, fun w tag hw h => ?_⟩
  · have hx : x = (s.stand st).withStandby id := by
      simp only [x, h]
      rfl
    rw [harm]
    simp only [endDropClaim, hclaim, h]
    rw [hx]
    rfl
  · rw [harm]
    simp only [endDropClaim, hclaim, h, hfree, if_true]
  · rw [harm]
    simp only [endDropClaim, hclaim, h, hfree, if_neg hw]

theorem dropAtStand_of_free {st : StandIx} {u : State} (hother : (s.stand st).other = .none)
    (hu : ((s.setDown v id (.standby st)).armStandby st id).endDropClaim v (standLoc st) = u) (hquiet : u.callsIdle) :
    s.dropAtStand v st id = u.standbyPlanCheck st id := by
  have hchecked : (u.standbyPlanCheck st id).callsIdle := callsIdle_of_moves (Moves.standbyPlanCheck st id u) (by decide) hquiet
  unfold dropAtStand
  rw [if_neg (not_not.2 hother)]
  simp only [hu, removeCall_of_none (call?_of_idle hchecked st), callDropped_of_idle id hchecked]

theorem standbyPlanCheck_of_known {st : StandIx} (hr : s.roll? id = some r) :
    s.standbyPlanCheck st id =
      if s.inLead st = true ∧ (r.grade ≠ (s.activeStand st).grade ∨ r.width ≠ (s.activeStand st).width) then
        s.raise .planMismatch (num st)
      else s := by
  simp only [standbyPlanCheck, hr, Roll.differs, Bool.and_eq_true, decide_eq_true_eq]

/-! ### Drops at a waste bay (R21, R160) -/

theorem dropAtWaste_of_found (hr : s.findRoll id = some (k, r)) {t : State} (ht : s.countWriteOff r = t) (hcalls : t.fdu.calls = []) :
    s.dropAtWaste v id = (t.freeSlot k).setLoad v .empty := by
  simp only [dropAtWaste, hr, ht]
  exact callRollRemoved_of_unnamed (callNaming?_of_nil hcalls id)

theorem countWriteOff_of_new (h : r.hasRun = false) : s.countWriteOff r = s.addScrapped r.lr := by
  simp only [countWriteOff, h, Bool.false_eq_true, if_false]

theorem countWriteOff_of_run {p : PressIx} {u : Run} (h : r.hasRun = true) (hpress : r.lastPress = some p) (hu : s.run? p = some u) :
    s.countWriteOff r = s.setRun p (some { u with butt := add32 u.butt r.lr }) := by
  simp only [countWriteOff, h, if_true, hpress, hu, updRun, Option.map_some]

theorem countWriteOff_of_noRun {p : PressIx} (h : r.hasRun = true) (hpress : r.lastPress = some p) (hu : s.run? p = none) :
    s.countWriteOff r = s.updPress p fun x => { x with unassigned := add32 x.unassigned r.lr } := by
  simp only [countWriteOff, h, if_true, hpress, hu]

end State

/-- Settles O26: on a stand by the claim on its arm and its plan, at a dock, and at a waste bay by what the roll has run. -/
theorem dropAtStandDockOrWaste : Obligations.DropAtStandDockOrWaste := by
  intro v dst src number id k r s hheard hpar hr hid hstatus hcalls hsearch answer emptied
  have hidle : s.callsIdle := ⟨hcalls, hsearch⟩
  have answers {kind : Byte} {l : Loc} {t : State} (hl : s.keptLoc? kind number = some l) (h : s.dropCarried v l id = t) :
      answer kind t := by
    show exec _ _ = _
    rw [exec_vloadDrop kind number id hheard, State.dropTaken_of_carried hpar hl hr hstatus, h]
    rfl
  refine ⟨fun st hst => ?stand, fun hlow hhigh => ?dock, fun hlow hhigh => ?waste⟩
  case stand =>
    have hl : s.keptLoc? 2 number = some (standLoc st) := by
      have h := State.keptLoc?_of_kept (s := s) (kind := 2) (number := number) (k := .stand) rfl (.inr (.inl rfl))
        (by rw [hst]; exact Nat.succ_pos _) (by rw [hst]; exact st.isLt)
      rwa [hst] at h
    have hdrop : s.dropCarried v (standLoc st) id = s.dropAtStand v st id := by
      have hkind : (standLoc st).kind = .stand := rfl
      simp only [State.dropCarried, hkind, stand?_standLoc]
    refine ⟨fun h => answers hl (hdrop.trans (if_pos h)), fun hother => ?_⟩
    intro armed recorded
    have records {u : State} (hu : ((s.setDown v id (.standby st)).armStandby st id).endDropClaim v (standLoc st) = u)
        (htmc : u.tmc = armed.tmc) (hpls : u.pls = s.pls) (hfdu : u.fdu = armed.fdu) : recorded u := by
      have hroll : u.roll? id = some { r with status := .standby st } := by
        rw [State.roll?, State.findRoll, htmc]
        exact State.roll?_of_findRoll (s := armed) (State.findRoll_setSlot (s := s) (r' := { r with status := .standby st }) hr rfl)
      have hpress : (u.stand st).press = (s.stand st).press := by
        have hstand : armed.stand st = (s.stand st).withStandby id := State.stand_setStand_self ..
        have hsame : u.stand st = armed.stand st := by rw [State.stand, hfdu]; rfl
        rw [hsame, hstand]
        rfl
      have hlead : u.inLead st = s.inLead st := State.inLead_of_stand hpress hpls
      have hplan : u.activeStand st = s.activeStand st := by rw [State.activeStand, State.activeStand, hpls]
      have hdropped := State.dropAtStand_of_free hother hu (by rw [State.callsIdle, hfdu]; exact hidle)
      rw [State.standbyPlanCheck_of_known hroll, hlead, hplan] at hdropped
      refine ⟨fun hin hdiffers => answers hl (hdrop.trans (hdropped.trans (if_pos ⟨hin, hdiffers⟩))),
        fun h => answers hl (hdrop.trans (hdropped.trans (if_neg fun hboth => ?_)))⟩
      rcases h with h | ⟨hgrade, hwidth⟩
      · exact absurd (hboth.1.symm.trans h) (by decide)
      · exact hboth.2.elim (fun h => h hgrade) fun h => h hwidth
    obtain ⟨hnone, hown, hforeign⟩ := State.endDropClaim_armStandby (v := v) st hr hpar
    refine ⟨fun h => records (hnone h) rfl rfl rfl, fun tag h => records (hown tag h) rfl rfl rfl, fun w tag hw h => ?_⟩
    exact records (hforeign w tag hw h) ((LinkOp.raise ..).tmc_eq _) ((LinkOp.raise ..).pls_eq _) ((LinkOp.raise ..).fdu_eq _)
  case dock =>
    have hl : s.keptLoc? 3 number = some ⟨.dock, number.toNat⟩ :=
      State.keptLoc?_of_kept rfl (.inr (.inr (.inl rfl))) hlow hhigh
    refine answers hl ?_
    have hdown := State.setDown_of_found (v := v) hpar hr (.announced number.toNat)
    show (s.setDown v id (.announced number.toNat)).callDropped id = _
    rw [hdown]
    exact State.callDropped_of_idle id hidle
  case waste =>
    intro gone
    have hl : s.keptLoc? 4 number = some ⟨.waste, number.toNat⟩ :=
      State.keptLoc?_of_kept rfl (.inr (.inr (.inr rfl))) hlow hhigh
    have counts {t : State} (h : s.countWriteOff r = t) (ht : t.fdu.calls = []) : answer 4 ((t.freeSlot k).setLoad v .empty) :=
      answers hl (State.dropAtWaste_of_found hr h ht)
    exact ⟨fun h => counts (State.countWriteOff_of_new h) hcalls, fun p hrun hpress =>
      ⟨fun u hu => counts (State.countWriteOff_of_run hrun hpress hu) hcalls,
        fun hu => counts (State.countWriteOff_of_noRun hrun hpress hu) hcalls⟩⟩

end Sys2Proof.Machine
end

section
/-! PROOFS. STAND reports (R107 to R111). -/

namespace Sys2Proof.Machine

/-! ### Reported ids (R108) -/

theorem activeAgrees_some_iff (a id : RollId) : activeAgrees (some a) id = true ↔ id = a ∨ id = unknownRoll := decide_eq_true_iff

theorem activeAgrees_none_iff (id : RollId) : activeAgrees none id = true ↔ id = 0 := decide_eq_true_iff

theorem otherAgrees_none_iff (id : RollId) : otherAgrees .none id = true ↔ id = 0 := decide_eq_true_iff

theorem otherAgrees_standby_iff (a id : RollId) : otherAgrees (.standby a) id = true ↔ id = a ∨ id = unknownRoll := decide_eq_true_iff

theorem otherAgrees_butt_iff (a id : RollId) : otherAgrees (.butt a) id = true ↔ id = a ∨ id = unknownRoll := decide_eq_true_iff

namespace State

variable {s : State} {st : StandIx}

/-! ### Stands out of the lead -/

theorem tsValue_of_outOfLead (h : s.inLead st = false) : s.tsValue st = 65535 := by
  unfold tsValue
  exact if_neg fun hin => absurd (h.symm.trans hin.1) (by decide)

theorem callTest_of_outOfLead (h : s.inLead st = false) : s.callTest st = s := by
  simp only [callTest, asksHolds, callTestRead, h, Bool.and_false, Bool.false_and, Bool.false_eq_true, if_false]

theorem lateTest_of_outOfLead (h : s.inLead st = false) : s.lateTest st = s := by
  simp only [lateTest, h, Bool.and_false, Bool.false_and, Bool.false_eq_true, if_false]

theorem starveTest_of_unfed (h : (s.stand st).state ≠ .feeding) : s.starveTest st = s := if_neg fun hs => h hs.2.1

theorem inLead_setStand {x : Stand} (h : x.press = (s.stand st).press) : (s.setStand st x).inLead st = s.inLead st :=
  inLead_of_stand (by rw [stand_setStand_self, h]) rfl

/-- Outside the lead, with no call, Ts is unbounded and nothing follows. -/
theorem computeTs_of_outOfLead (h : s.inLead st = false) (hcall : s.call? st = none) :
    s.computeTs st = s.setStand st { s.stand st with ts := 65535 } := by
  let u := s.setStand st { s.stand st with ts := 65535 }
  have hts : (s.updStand st fun x => { x with ts := s.tsValue st }) = u := by
    rw [updStand, tsValue_of_outOfLead h]
  have hlead : u.inLead st = false := (inLead_setStand (x := { s.stand st with ts := 65535 }) rfl).trans h
  have hnone : u.call? st = none := hcall
  unfold computeTs
  rw [hts]
  simp only [hnone, callTest_of_outOfLead hlead, ite_self]
  rfl

/-! ### A judged diameter (R109, R110) -/

section Judged

variable {id : RollId} {k : Nat} {r : Roll}

theorem judgeDiameter_of_known (hpar : s.noParity) (hr : s.findRoll id = some (k, r)) (diameter : Nat) :
    s.judgeDiameter st id diameter =
      if r.dcur + s.fdu.tolerance < r.clampDiameter diameter then s.implausibleDiameter st id
      else s.acceptDiameter st id (r.clampDiameter diameter) (r.length (r.clampDiameter diameter)) := by
  simp only [judgeDiameter, readRoll_of_noParity hpar, roll?_of_findRoll hr]

theorem acceptDiameter_of_known (hpar : s.noParity) (hr : s.findRoll id = some (k, r)) (D lr : Nat) :
    s.acceptDiameter st id D lr =
      let u : State := (((s.setSlot k { r with dcur := D, lr := lr }).setStand st { s.stand st with
        lr := lr, implausible := 0
        state := if (s.stand st).state = .starved ∧ lr ≠ 0 then .feeding else (s.stand st).state }).computeTs st).starveTest st
      if lr = (s.stand st).lr then u else u.lateTest st := by
  unfold acceptDiameter
  rw [updRoll_of_noParity hpar hr]
  simp only [updStand, Nat.pos_iff_ne_zero]
  rfl

theorem implausibleDiameter_eq (st : StandIx) (id : RollId) (s : State) :
    s.implausibleDiameter st id =
      let n := min 15 ((s.stand st).implausible + 1)
      if s.fdu.implausibleLimit ≤ n then
        ((s.setStand st { s.stand st with implausible := n, deadReckon := true }).addHold id .diameter).raise .diameterImplausible
          (num st)
      else s.setStand st { s.stand st with implausible := n } := by
  unfold implausibleDiameter
  simp only [updStand, stand_setStand_self, setStand_setStand]
  rfl

end Judged

/-! ### STAND reports (R107, R108) -/

/-- The stand's report tick written. -/
def standSeen (st : StandIx) (s : State) : State := s.setStand st { s.stand st with lastTick := s.clock }

theorem judgeDiameter_standSeen {id : RollId} {k : Nat} {r : Roll} (hpar : s.noParity) (hr : s.findRoll id = some (k, r))
    (diameter : Nat) :
    (s.standSeen st).judgeDiameter st id diameter =
      if r.dcur + s.fdu.tolerance < r.clampDiameter diameter then (s.standSeen st).implausibleDiameter st id
      else (s.standSeen st).acceptDiameter st id (r.clampDiameter diameter) (r.length (r.clampDiameter diameter)) :=
  judgeDiameter_of_known (s := s.standSeen st) hpar hr diameter

theorem standTaken_of_pressless {diameter : Half} {active other : RollId} (h : (s.stand st).press = none) :
    s.standTaken diameter active other st = s.raise .armMismatch (num st) := by
  simp only [standTaken, actedOn, h]

theorem standTaken_of_press {p : PressIx} {diameter : Half} {active other : RollId} (h : (s.stand st).press = some p) :
    s.standTaken diameter active other st =
      if activeAgrees (s.stand st).active active = true ∧ otherAgrees (s.stand st).other other = true then
        match (s.stand st).active with
        | some id => if (s.stand st).deadReckon then s.standSeen st else (s.standSeen st).judgeDiameter st id diameter.toNat
        | none => s.standSeen st
      else (s.standSeen st).raise .armMismatch (num st) := by
  simp only [standTaken, actedOn, h, ← Bool.and_eq_true]
  have hseen : (s.updStand st fun x => { x with lastTick := s.clock }) = s.standSeen st := rfl
  have hstand : (s.standSeen st).stand st = { s.stand st with lastTick := s.clock } := stand_setStand_self ..
  simp only [hseen, hstand] <;> rfl

theorem standTaken_of_unthreaded {p : PressIx} {diameter : Half} {active other : RollId} (h : (s.stand st).press = some p)
    (hnone : (s.stand st).active = none) (hzero : active = 0) (hother : otherAgrees (s.stand st).other other = true) :
    s.standTaken diameter active other st = s.standSeen st := by
  rw [standTaken_of_press h, if_pos ⟨by rw [hnone]; exact (activeAgrees_none_iff _).2 hzero, hother⟩, hnone]

theorem setStand_standSeen (k : Nat) (r : Roll) (x : Stand) :
    ((s.standSeen st).setSlot k r).setStand st x = (s.setSlot k r).setStand st x :=
  setStand_setStand st { s.stand st with lastTick := s.clock } x (s.setSlot k r)

/-- A diameter accepted outside the lead on a stand without a call. -/
theorem acceptDiameter_of_out {id : RollId} {k : Nat} {r : Roll} (hpar : s.noParity) (hr : s.findRoll id = some (k, r))
    (hlead : s.inLead st = false) (hout : (s.stand st).state = .out) (hcall : s.call? st = none) (D lr : Nat) :
    (s.standSeen st).acceptDiameter st id D lr = (s.setSlot k { r with dcur := D, lr := lr }).setStand st
      { s.stand st with lastTick := s.clock, lr := lr, implausible := 0, ts := 65535 } := by
  let y : Stand := { s.stand st with lastTick := s.clock, lr := lr, implausible := 0 }
  let w := s.setSlot k { r with dcur := D, lr := lr }
  have hseen : (s.standSeen st).stand st = { s.stand st with lastTick := s.clock } := stand_setStand_self ..
  have hstate : (if (s.stand st).state = .starved ∧ lr ≠ 0 then .feeding else (s.stand st).state) = (s.stand st).state :=
    if_neg fun ⟨hstarved, _⟩ => absurd hstarved (by rw [hout]; decide)
  have hleads (x : Stand) (hx : x.press = (s.stand st).press) : (w.setStand st x).inLead st = false :=
    (inLead_setStand (s := w) hx).trans hlead
  have hts : (w.setStand st y).computeTs st = w.setStand st { y with ts := 65535 } := by
    rw [computeTs_of_outOfLead (hleads y rfl) hcall, stand_setStand_self, setStand_setStand]
  have hunfed : ((w.setStand st { y with ts := 65535 }).stand st).state ≠ .feeding := by
    rw [stand_setStand_self]
    show (s.stand st).state ≠ .feeding
    rw [hout]
    decide
  rw [acceptDiameter_of_known (s := s.standSeen st) hpar hr]
  simp only [hseen, hstate, setStand_standSeen]
  rw [hts, starveTest_of_unfed hunfed, lateTest_of_outOfLead (hleads { y with ts := 65535 } rfl), ite_self]

end State

/-- A STAND telegram as it is received. -/
theorem exec_standReport {st : StandIx} {dst src : Byte} {s : State} (diameter : Half) (active other : Word)
    (h : Heard .stand (num st) dst src s) :
    exec (.standReport dst src diameter active other) s = .next ((s.standTaken diameter active other st).placeUpper
      ⟨dst, src, clsStand, standBody diameter active other⟩) := by
  have hlen : (standBody diameter active other).length = 10 := by simp [standBody, beWord, be32, be16]
  exact heard_stand (t := ⟨dst, src, clsStand, standBody diameter active other⟩) (by simp only [hlen]; rfl)
    (by simp only [hlen]; decide) _ h rfl

section Splices

variable {st : StandIx} {dst src : Byte} {s : State} (old new : Word) (h : Heard .stand (num st) dst src s)

theorem length_spliceBody (outcome : Byte) : (spliceBody outcome old new).length = 9 := by simp [spliceBody, beWord, be32, be16]

include h

theorem exec_spliceMade : exec (.spliceMade dst src old new) s =
    .next ((s.spliceMadeTaken old new st).placeUpper ⟨dst, src, clsSplice, spliceBody 1 old new⟩) :=
  have hlen := length_spliceBody old new 1
  heard_stand (t := ⟨dst, src, clsSplice, spliceBody 1 old new⟩) (by simp only [hlen]; rfl) (by simp only [hlen]; decide) _ h rfl

theorem exec_spliceMissed : exec (.spliceMissed dst src old new) s =
    .next ((s.spliceMissedTaken old new st).placeUpper ⟨dst, src, clsSplice, spliceBody 2 old new⟩) :=
  have hlen := length_spliceBody old new 2
  heard_stand (t := ⟨dst, src, clsSplice, spliceBody 2 old new⟩) (by simp only [hlen]; rfl) (by simp only [hlen]; decide) _ h rfl

theorem exec_webBreak : exec (.webBreak dst src old) s =
    .next ((s.breakTaken old st).placeUpper ⟨dst, src, clsBreak, beWord old⟩) :=
  have hlen : (beWord old).length = 4 := by simp [beWord, be32, be16]
  heard_stand (t := ⟨dst, src, clsBreak, beWord old⟩) (by simp only [hlen]; rfl) (by simp only [hlen]; decide) _ h rfl

end Splices

namespace State

variable {s : State} {st : StandIx} {old new : RollId}

/-! ### SPLICE and BREAK reports that disagree with the record (R107, R112, R113) -/

theorem actedOn_of_refused {act : PressIx → State → State}
    (h : ∀ p, (s.stand st).press = some p → act p s = s.raise .armMismatch (num st)) :
    s.actedOn st act = s.raise .armMismatch (num st) := by
  unfold actedOn
  split
  next p hp => exact h p hp
  next => rfl

theorem actedOn_of_press {p : PressIx} {act : PressIx → State → State} (h : (s.stand st).press = some p) :
    s.actedOn st act = act p s := by
  simp only [actedOn, h]

theorem spliceAgrees_iff :
    s.spliceAgrees st old new = true ↔
      (s.stand st).other = .standby new ∧ ((s.stand st).active = some old ∨ ((s.stand st).active = none ∧ old = 0)) := by
  unfold spliceAgrees
  cases (s.stand st).active with
  | none => simp
  | some o => simp [eq_comm (a := old)]

theorem spliceMadeTaken_of_differing (h : (s.stand st).press = none ∨ s.spliceAgrees st old new = false) :
    s.spliceMadeTaken old new st = s.raise .armMismatch (num st) := by
  refine actedOn_of_refused fun p hp => if_neg fun hagrees => ?_
  rcases h with h | h
  · exact nomatch h.symm.trans hp
  · exact nomatch h.symm.trans hagrees

theorem spliceMissedTaken_of_differing
    (h : (s.stand st).press = none ∨ (s.stand st).other ≠ .standby new ∨ (s.stand st).active ≠ some old) :
    s.spliceMissedTaken old new st = s.raise .armMismatch (num st) := by
  refine actedOn_of_refused fun p hp => if_neg fun hagrees => ?_
  rcases h with h | h | h
  · exact nomatch h.symm.trans hp
  · exact h hagrees.2
  · exact h hagrees.1

theorem breakTaken_of_differing (h : (s.stand st).press = none ∨ (s.stand st).active ≠ some old) :
    s.breakTaken old st = s.raise .armMismatch (num st) := by
  refine actedOn_of_refused fun p hp => if_neg fun hagrees => ?_
  rcases h with h | h
  · exact nomatch h.symm.trans hp
  · exact h hagrees

end State

/-- Settles O27: diameters judged out of the lead and accepted anywhere, the ids that agree, and the reports refused. -/
theorem standReportsAreJudged : Obligations.StandReportsAreJudged := by
  refine ⟨fun st p dst src diameter other id k r s hheard hpar => ?outside,
    ⟨fun st p dst src diameter active other id k r s hheard hpar => ?accepted, ?active, ?other⟩,
    fun st dst src s hheard => ?refused⟩
  case outside =>
    intro x hpress hactive hr hid hagrees hlead hout sent answer D seen
    have answers {t : State} (h : (if x.deadReckon then s.standSeen st else (s.standSeen st).judgeDiameter st id diameter.toNat) = t) :
        answer t := by
      have hagree : activeAgrees x.active id = true := by
        rw [hactive]
        exact (activeAgrees_some_iff id id).2 (.inl rfl)
      show exec _ _ = _
      rw [exec_standReport diameter id other hheard, State.standTaken_of_press hpress, if_pos ⟨hagree, hagrees⟩, hactive]
      exact congrArg (fun t : State => Host.Outcome.next (t.placeUpper sent)) h
    refine ⟨fun h => answers (if_pos h), fun hreckon => ?_⟩
    have judges {t : State} (h : (s.standSeen st).judgeDiameter st id diameter.toNat = t) : answer t :=
      answers ((if_neg (by rw [hreckon]; decide)).trans h)
    have hseen : (s.standSeen st).stand st = seen := State.stand_setStand_self ..
    have hjudged : (s.standSeen st).judgeDiameter st id diameter.toNat =
      if r.dcur + s.fdu.tolerance < D then (s.standSeen st).implausibleDiameter st id
      else (s.standSeen st).acceptDiameter st id D (r.length D) := State.judgeDiameter_standSeen hpar hr _
    refine ⟨fun hplausible hcall => judges ?_, fun himplausible => ?_⟩
    · rw [hjudged, if_neg (Nat.not_lt.2 hplausible), State.acceptDiameter_of_out hpar hr hlead hout hcall]
      rfl
    · intro n
      have himplausible' := State.implausibleDiameter_eq st id (s.standSeen st)
      simp only [hseen] at himplausible'
      have hwritten (z : Stand) : (s.standSeen st).setStand st z = s.setStand st z := State.setStand_setStand ..
      rw [hwritten, hwritten] at himplausible'
      exact ⟨fun hn => judges (hjudged.trans ((if_pos himplausible).trans (himplausible'.trans (if_neg (Nat.not_le.2 hn))))),
        fun hn => judges (hjudged.trans ((if_pos himplausible).trans (himplausible'.trans (if_pos hn))))⟩
  case accepted =>
    intro x hpress hactive hr hagree hagrees hreckon D hplausible L u
    have hseen : (s.standSeen st).stand st = { x with lastTick := s.clock } := State.stand_setStand_self ..
    have hjudged : (s.standSeen st).judgeDiameter st id diameter.toNat =
      if r.dcur + s.fdu.tolerance < D then (s.standSeen st).implausibleDiameter st id
      else (s.standSeen st).acceptDiameter st id D (r.length D) := State.judgeDiameter_standSeen hpar hr _
    have haccepted := State.acceptDiameter_of_known (s := s.standSeen st) (st := st) (r := r) hpar hr D L
    simp only [hseen, State.setStand_standSeen] at haccepted
    rw [exec_standReport diameter active other hheard, State.standTaken_of_press hpress, if_pos ⟨hagree, hagrees⟩, hactive]
    refine congrArg (fun t : State => Host.Outcome.next (t.placeUpper _)) ?_
    exact (if_neg (by rw [hreckon]; decide)).trans (hjudged.trans ((if_neg (Nat.not_lt.2 hplausible)).trans haccepted))
  case active => exact fun a id => ⟨activeAgrees_some_iff a id, activeAgrees_none_iff id⟩
  case other => exact fun a id => ⟨otherAgrees_none_iff id, otherAgrees_standby_iff a id, otherAgrees_butt_iff a id⟩
  case refused =>
    intro x flagged
    have hseen : (s.standSeen st).raise .armMismatch (num st) = flagged.setStand st { x with lastTick := s.clock } :=
      (LinkOp.raise ..).setStand ..
    refine ⟨fun diameter active other => ?_, fun old new => ?_, fun roll h => ?_⟩
    · intro answer
      have answers {t : State} (h : s.standTaken diameter active other st = t) : answer t := by
        show exec _ _ = _
        rw [exec_standReport diameter active other hheard, h]
        rfl
      refine ⟨fun h => answers (State.standTaken_of_pressless h), fun p hp h => answers ?_,
        fun p hp hnone hzero hagrees => answers ?_⟩
      · rw [State.standTaken_of_press hp, if_neg, hseen]
        rintro ⟨h1, h2⟩
        exact h.elim (fun h => nomatch h.symm.trans h1) fun h => nomatch h.symm.trans h2
      · exact State.standTaken_of_unthreaded hp hnone hzero hagrees
    · intro made missed
      refine ⟨fun h => ?_, fun h => ?_⟩
      · show exec _ _ = _
        have hdiffers : x.press = none ∨ s.spliceAgrees st old new = false := by
          refine h.imp_right fun h => Bool.eq_false_iff.2 fun hagrees => ?_
          obtain ⟨hother, hactive⟩ := State.spliceAgrees_iff.1 hagrees
          rcases h with h | ⟨o, ho, hne⟩ | ⟨hnone, hne⟩
          · exact h hother
          · rcases hactive with hold | ⟨hnone, -⟩
            · exact hne (Option.some.inj (ho.symm.trans hold))
            · exact nomatch ho.symm.trans hnone
          · rcases hactive with hold | ⟨-, hzero⟩
            · exact nomatch hnone.symm.trans hold
            · exact hne hzero
        rw [exec_spliceMade old new hheard, State.spliceMadeTaken_of_differing hdiffers]
        rfl
      · show exec _ _ = _
        rw [exec_spliceMissed old new hheard, State.spliceMissedTaken_of_differing h]
        rfl
    · rw [exec_webBreak roll hheard, State.breakTaken_of_differing h]
      rfl

end Sys2Proof.Machine
end

section
/-! PROOFS. SPLICE and BREAK reports (R23, R112, R113, R156, R158, R159). -/

namespace Sys2Proof.Machine

/-- The first entry of an id stays the first when another entry is written with a record of another id. -/
theorem find?_insert_of_other {id : RollId} {j k : Nat} {r t : Roll} (hid : t.id ≠ id) (hjk : j ≠ k) : ∀ {l : List (Nat × Roll)},
    (l.find? fun e => e.2.id = id) = some (k, r) → ((Table.insert j t l).find? fun e => e.2.id = id) = some (k, r)
  | (i, b) :: l, h => by
    have hskip (l : List (Nat × Roll)) : (((j, t) :: l).find? fun e => e.2.id = id) = l.find? fun e => e.2.id = id :=
      List.find?_cons_of_neg (by simpa using hid)
    unfold Table.insert
    split
    case isTrue => rw [hskip, h]
    case isFalse =>
      by_cases hb : b.id = id
      · rw [List.find?_cons_of_pos (by exact decide_eq_true hb)] at h
        obtain ⟨rfl, -⟩ := Prod.mk.inj (Option.some.inj h)
        rw [if_neg hjk, List.find?_cons_of_pos (by exact decide_eq_true hb), h]
      · rw [List.find?_cons_of_neg (by simpa using hb)] at h
        split
        · rw [hskip, h]
        · rw [List.find?_cons_of_neg (by simpa using hb), find?_insert_of_other hid hjk h]

namespace State

variable {s : State} {st : StandIx}

theorem findRoll_setSlot_of_other {id : RollId} {j k : Nat} {r t : Roll} (hr : s.findRoll id = some (k, r)) (hid : t.id ≠ id)
    (hjk : j ≠ k) : (s.setSlot j t).findRoll id = some (k, r) := find?_insert_of_other hid hjk hr

/-! ### What Ts and the tests leave of the stand -/

theorem stand_of_moves {m : List Part} {a b : State} (h : Moves m a b) (hm : .stands ∉ m) (st : StandIx) : b.stand st = a.stand st := by
  rw [stand, h.same .stands hm]
  rfl

theorem stand_callTest (hpar : s.noParity) : (s.callTest st).stand st = s.stand st :=
  stand_of_moves (moves_callTest_of_noParity st hpar) (by decide) st

theorem moves_computeTs_of_noParity (st : StandIx) (h : s.noParity) :
    Moves [.calls] (s.setStand st { s.stand st with ts := s.tsValue st }) (s.computeTs st) := by
  let u := s.setStand st { s.stand st with ts := s.tsValue st }
  have htested {w : State} (hw : Moves [.calls] u w) : Moves [.calls] u (w.callTest st) :=
    hw.trans (moves_callTest_of_noParity st (noParity_of_moves hw (by decide) h))
  have hu : (s.updStand st fun x => { x with ts := s.tsValue st }) = u := rfl
  unfold computeTs
  rw [hu]
  dsimp only
  refine .ite (htested ?_) (.refl u)
  split
  · exact .ite (.refl u) (Moves.putCall ..)
  · exact .refl u

theorem stand_computeTs (h : s.noParity) : (s.computeTs st).stand st = { s.stand st with ts := s.tsValue st } :=
  (stand_of_moves (moves_computeTs_of_noParity st h) (by decide) st).trans (stand_setStand_self ..)

theorem noParity_computeTs (h : s.noParity) : (s.computeTs st).noParity :=
  noParity_of_moves (moves_computeTs_of_noParity st h) (by decide) h

theorem lres_updStand (f : Stand → Stand) (hf : ∀ x, (f x).lres = x.lres) : ((s.updStand st f).stand st).lres = (s.stand st).lres := by
  rw [updStand, stand_setStand_self, hf]

theorem lres_stateChanged (h : s.noParity) : ((s.stateChanged st).stand st).lres = (s.stand st).lres := by
  have hcleared := lres_updStand (s := s) (st := st) (fun x => { x with ts := Config.unbounded }) fun _ => rfl
  have hgood : (s.updStand st fun x => { x with ts := Config.unbounded }).noParity := h
  have hearly : (((s.updStand st fun x => { x with ts := Config.unbounded }).makeEarly st).callTest st).stand st =
      (s.updStand st fun x => { x with ts := Config.unbounded }).stand st :=
    (stand_callTest (noParity_of_moves (Moves.makeEarly st _) (by decide) hgood)).trans
      (stand_of_moves (Moves.makeEarly st _) (by decide) st)
  unfold stateChanged
  dsimp only
  split
  case h_1 => exact (apply_ite (fun t : State => (t.stand st).lres) ..).trans (by rw [hearly, hcleared, ite_self])
  case h_2 => exact (apply_ite (fun t : State => (t.stand st).lres) ..).trans (by rw [hearly, hcleared, ite_self])
  case h_3 => exact hcleared
  case h_4 => exact (apply_ite (fun t : State => (t.stand st).lres) ..).trans (by rw [stand_callTest h, ite_self])
  case h_5 => exact (apply_ite (fun t : State => (t.stand st).lres) ..).trans (by rw [stand_callTest h, ite_self])

theorem lres_starveTest (h : s.noParity) : ((s.starveTest st).stand st).lres = (s.stand st).lres := by
  let u := ((s.updStand st fun x => { x with state := .starved }).raise .standStarved (num st)).recordStarved st
  have hgood : u.noParity := (LinkOp.raise ..).noParity_eq _ h
  have hstand : u.stand st = (s.updStand st fun x => { x with state := .starved }).stand st := (LinkOp.raise ..).stand_eq ..
  unfold starveTest
  split
  · show ((u.stateChanged st).stand st).lres = _
    rw [lres_stateChanged hgood, hstand]
    exact lres_updStand _ fun _ => rfl
  · rfl

theorem lres_armEmptied : ((s.armEmptied st).stand st).lres = (s.stand st).lres := by
  unfold armEmptied
  split
  next v o _ => exact lres_updStand (fun x => { x with claim := some ⟨v, o.tag⟩ }) fun _ => rfl
  next => rfl

/-! ### SPLICE MADE (R112) -/

/-- The stand's record once the splice is made. -/
def splicedStand (s : State) (st : StandIx) (new : RollId) (other : Arm) (r : Roll) : Stand :=
  { s.stand st with
    active := some new
    other := other
    lr := r.lr
    carry := 0
    lres := if s.inLead st then r.length (s.activeStand st).splice else 0
    implausible := 0
    deadReckon := false
    late := false
    state := if (s.stand st).state = .out then .out else .feeding }

/-- A roll's record once it runs. -/
def runningOn (st : StandIx) (p : PressIx) (r : Roll) : Roll := { r with status := .running st, hasRun := true, lastPress := some p }

/-- The new roll runs, over a state in which the old one's record is written already. -/
theorem lresValue_of_active {id : RollId} {k : Nat} {r : Roll} (hactive : (s.stand st).active = some id)
    (hr : s.findRoll id = some (k, r)) :
    s.lresValue st = if s.inLead st then r.length (s.activeStand st).splice else 0 := by
  simp only [lresValue, hactive, roll?_of_findRoll hr]

/-- The arms turned by a splice, after the old roll's record (R112 steps 2 and 3). -/
def turnNew (p : PressIx) (st : StandIx) (new : RollId) (butt : Arm) (s : State) : State :=
  let s := s.updRoll new (runningOn st p)
  let lr := match s.roll? new with
    | some r => r.lr
    | none => 0
  let s := s.updStand st fun x =>
    { x with
      active := some new
      other := butt
      lr := lr
      carry := 0
      implausible := 0
      deadReckon := false
      late := false
      state := if x.state = .out then .out else .feeding }
  s.updStand st fun x => { x with lres := s.lresValue st }

theorem turnArms_of_active {p : PressIx} {new old : RollId} (h : (s.stand st).active = some old) :
    s.turnArms p st new = (s.updRoll old fun r => { r with status := .butt st }).turnNew p st new (.butt old) := by
  simp only [turnArms, h]
  rfl

theorem turnArms_of_unthreaded {p : PressIx} {new : RollId} (h : (s.stand st).active = none) :
    s.turnArms p st new = s.turnNew p st new .none := by
  simp only [turnArms, h]
  rfl

theorem turnNew_eq {p : PressIx} {new : RollId} {k : Nat} {r : Roll} (butt : Arm) (hpar : s.noParity)
    (hr : s.findRoll new = some (k, r)) :
    s.turnNew p st new butt = (s.setSlot k (runningOn st p r)).setStand st (s.splicedStand st new butt r) := by
  let w := s.setSlot k (runningOn st p r)
  let y : Stand := { s.splicedStand st new butt r with lres := (s.stand st).lres }
  have hw : w.findRoll new = some (k, runningOn st p r) := findRoll_setSlot hr rfl
  have hlead : (w.setStand st y).inLead st = s.inLead st := inLead_setStand (s := w) (x := y) rfl
  have hlres := lresValue_of_active (s := w.setStand st y) (st := st) (id := new) (k := k) (r := runningOn st p r)
    (by rw [stand_setStand_self]; rfl) hw
  rw [hlead] at hlres
  unfold turnNew
  rw [updRoll_of_noParity hpar hr]
  simp only [show (s.setSlot k (runningOn st p r)).roll? new = some (runningOn st p r) from roll?_of_findRoll hw]
  have hturned : (w.setStand st y).updStand st (fun x => { x with lres := (w.setStand st y).lresValue st }) =
      w.setStand st (s.splicedStand st new butt r) := by
    rw [hlres, updStand_setStand]
    rfl
  exact hturned

/-- The splice counted in the open run, and the splice window opened. -/
def spliceCounted (p : PressIx) (n : Nat) (st : StandIx) (new : RollId) (s : State) : State :=
  { s with scu := { s.scu with
    runs := s.scu.runs.set p ((s.run? p).map fun a => { a with made := min 65535 (a.made + 1) })
    presses := s.scu.presses.set p { s.press p with splice := { remaining := n, stand := some st, roll := some new } } } }

/-- The length of the splice window of a press. -/
def spliceWindow (s : State) (p : PressIx) : Nat := if s.inUse p then (s.activePress p).spliceLen else 0

theorem countSplice_eq (p : PressIx) (new : RollId) : s.countSplice p st new = s.spliceCounted p (s.spliceWindow p) st new := rfl

/-- What follows once the arms are turned, Ts is taken and the splice counted (R112, log 18). -/
def afterSplice (st : StandIx) (lres old : Nat) (s : State) : State :=
  let v := s.starveTest st
  let w := if lres = old then v else v.lateTest st
  if w.activeHeld st then w.heldRunning st else w

theorem spliceAccepted_eq {p : PressIx} {new : RollId} (hpar : s.noParity) {t : State} (ht : s.turnArms p st new = t)
    (htpar : t.noParity) (hpls : t.pls = s.pls) :
    s.spliceAccepted p st new =
      let u := (t.computeTs st).spliceCounted p (s.spliceWindow p) st new
      afterSplice st (t.stand st).lres (s.stand st).lres (if (t.stand st).other = .none then u.armEmptied st else u) := by
  let u := (t.computeTs st).spliceCounted p (s.spliceWindow p) st new
  have hpls' : (t.computeTs st).pls = s.pls := ((moves_computeTs_of_noParity st htpar).same .pls (by decide)).trans hpls
  have hcount : (t.computeTs st).countSplice p st new = u := by
    rw [countSplice_eq, spliceWindow, inUse, activePress, hpls']
    rfl
  have hother : (u.stand st).other = (t.stand st).other := by
    show ((t.computeTs st).stand st).other = _
    rw [stand_computeTs htpar]
  have hgood : u.noParity := noParity_computeTs htpar
  have hgood' : (if (t.stand st).other = .none then u.armEmptied st else u).noParity := by
    split
    · exact noParity_of_moves (Moves.armEmptied ..) (by decide) hgood
    · exact hgood
  have hkept : ((if (t.stand st).other = .none then u.armEmptied st else u).stand st).lres = (t.stand st).lres := by
    rw [apply_ite (fun w : State => (w.stand st).lres), lres_armEmptied, ite_self]
    show ((t.computeTs st).stand st).lres = _
    rw [stand_computeTs htpar]
  have hlres := (lres_starveTest (st := st) hgood').trans hkept
  unfold spliceAccepted
  simp only [readActive_of_noParity hpar, readRoll_of_noParity hpar, ht, hcount, hother, hlres]
  rfl

/-- The rolls and the arm turned, over a state in which the old roll's record is written. -/
def spliceTurned (st : StandIx) (p : PressIx) (new : RollId) (other : Arm) (k : Nat) (r : Roll) (u s : State) : State :=
  (u.setSlot k (runningOn st p r)).setStand st (s.splicedStand st new other r)

section Made

variable {p : PressIx} {old new : RollId} {k : Nat} {r : Roll} (hpar : s.noParity) (hpress : (s.stand st).press = some p)
  (hother : (s.stand st).other = .standby new) (hr : s.findRoll new = some (k, r))

include hpar hpress hother hr

theorem spliceMadeTaken_of_active {j : Nat} {q : Roll} (hactive : (s.stand st).active = some old) (hq : s.findRoll old = some (j, q))
    (hid : q.id ≠ new) (hjk : j ≠ k) :
    s.spliceMadeTaken old new st = afterSplice st (s.splicedStand st new (.butt old) r).lres (s.stand st).lres
      (((spliceTurned st p new (.butt old) k r (s.setSlot j { q with status := .butt st }) s).computeTs st).spliceCounted p
        (s.spliceWindow p) st new) := by
  let u := s.setSlot j { q with status := .butt st }
  let t := spliceTurned st p new (.butt old) k r u s
  have hupar : u.noParity := noParity_setSlot _ _ hpar
  have hupd : (s.updRoll old fun r => { r with status := .butt st }) = u := updRoll_of_noParity hpar hq _
  have hturn : s.turnArms p st new = t := by
    rw [turnArms_of_active hactive, hupd, turnNew_eq _ hupar (findRoll_setSlot_of_other hr hid hjk)]
    rfl
  have hstand : t.stand st = s.splicedStand st new (.butt old) r := stand_setStand_self ..
  have haccepted := spliceAccepted_eq (p := p) hpar hturn (noParity_setSlot _ _ hupar) rfl
  rw [hstand] at haccepted
  rw [spliceMadeTaken, actedOn_of_press hpress, if_pos (spliceAgrees_iff.2 ⟨hother, .inl hactive⟩), haccepted]
  exact congrArg (afterSplice st _ _) (if_neg fun h => nomatch h)

theorem spliceMadeTaken_of_unthreaded (hactive : (s.stand st).active = none) (hzero : old = 0) :
    s.spliceMadeTaken old new st = afterSplice st (s.splicedStand st new .none r).lres (s.stand st).lres
      ((((spliceTurned st p new .none k r s s).computeTs st).spliceCounted p (s.spliceWindow p) st new).armEmptied st) := by
  let t := spliceTurned st p new .none k r s s
  have hturn : s.turnArms p st new = t := by
    rw [turnArms_of_unthreaded hactive, turnNew_eq _ hpar hr]
    rfl
  have hstand : t.stand st = s.splicedStand st new .none r := stand_setStand_self ..
  have haccepted := spliceAccepted_eq (p := p) hpar hturn (noParity_setSlot _ _ hpar) rfl
  rw [hstand] at haccepted
  rw [spliceMadeTaken, actedOn_of_press hpress, if_pos (spliceAgrees_iff.2 ⟨hother, .inr ⟨hactive, hzero⟩⟩), haccepted]
  exact congrArg (afterSplice st _ _) (if_pos rfl)

end Made

/-- Outside the lead nothing follows a splice when the new roll has no hold. -/
theorem afterSplice_of_outOfLead (lres old : Nat) (hlead : s.inLead st = false) (hstate : (s.stand st).state ≠ .feeding)
    (hfree : s.activeHeld st = false) : afterSplice st lres old s = s := by
  unfold afterSplice
  simp only [starveTest_of_unfed hstate, lateTest_of_outOfLead hlead, ite_self, hfree, Bool.false_eq_true, if_false]

/-! ### Breaks (R113, R158, R159) -/

theorem updRun_updRun (p : PressIx) (f g : Run → Run) (s : State) : (s.updRun p f).updRun p g = s.updRun p fun u => g (f u) := by
  have hrun : (s.updRun p f).run? p = (s.run? p).map f := Vector.getElem_set_self ..
  rw [updRun, hrun, Option.map_map, updRun, updRun, setRun, setRun, setRun]
  simp only [Vector.set_set]
  rfl

theorem updRun_congr {p : PressIx} {f g : Run → Run} (h : ∀ u, s.run? p = some u → f u = g u) : s.updRun p f = s.updRun p g := by
  rw [updRun, updRun, Option.map_congr h]

/-- A run with a number of misses and one break more. -/
def runBroken (missed : Nat) (u : Run) : Run :=
  { u with missed := min 65535 (u.missed + missed), breaks := min 65535 (u.breaks + 1) }

theorem countBreak_eq {p : PressIx} (id : RollId) (h : ∀ u, s.run? p = some u → u.missed ≤ 65535) :
    s.countBreak p id = ((s.updRun p (runBroken 0)).countRollBreak p id).openBreak p id := by
  have hrun : (s.updRun p fun r => { r with breaks := add16 r.breaks 1 }) = s.updRun p (runBroken 0) :=
    updRun_congr fun u hu => by
      simp only [runBroken, Nat.add_zero, Nat.min_eq_right (h u hu)]
      rfl
  rw [countBreak, hrun]

theorem countMissed_eq (p : PressIx) (id : RollId) :
    s.countMissed p id = ((s.updRun p (runBroken 1)).countRollBreak p id).openBreak p id := by
  rw [countMissed, countBreak, updRun_updRun]
  rfl

/-- A break counted on a known roll. -/
theorem countRollBreak_of_known {p : PressIx} {id : RollId} {k : Nat} {r : Roll} (hpar : s.noParity)
    (hr : s.findRoll id = some (k, r)) :
    s.countRollBreak p id =
      let u := s.setSlot k { r with breaks := min 7 (r.breaks + 1) }
      if s.inUse p = true ∧ (s.activePress p).breakLimit ≤ min 7 (r.breaks + 1) ∧ r.holds.breaks = false then
        (u.addHoldRead id .breaks).raiseField .rollBreakHold id id
      else u := by
  let u := s.setSlot k { r with breaks := min 7 (r.breaks + 1) }
  have hupd : (s.updRoll id fun r => { r with breaks := addSat 7 r.breaks 1 }) = u := updRoll_of_noParity hpar hr _
  have hroll : u.roll? id = some { r with breaks := min 7 (r.breaks + 1) } :=
    roll?_of_findRoll (findRoll_setSlot (r' := { r with breaks := min 7 (r.breaks + 1) }) hr rfl)
  have hheld : u.addHold id .breaks = u.addHoldRead id .breaks := addHold_of_noParity (noParity_setSlot _ _ hpar) ..
  unfold countRollBreak
  simp only [hupd, hroll, hheld, Bool.and_eq_true, decide_eq_true_eq, Bool.not_eq_true', and_assoc]
  rfl

/-- A hold that is not the roll's first only joins the others. -/
theorem addHoldRead_of_held {id : RollId} {k : Nat} {r : Roll} {hold : HoldKind} (hr : s.findRoll id = some (k, r))
    (hhas : r.holds.has hold = false) (hheld : r.holds.none = false) :
    s.addHoldRead id hold = s.setSlot k { r with holds := r.holds.add hold } := by
  simp only [addHoldRead, hr, hhas, hheld, Bool.false_eq_true, if_false]

/-- The first hold of a running roll (R13). -/
theorem addHoldRead_of_running {id : RollId} {k : Nat} {r : Roll} {hold : HoldKind} (hr : s.findRoll id = some (k, r))
    (hhas : r.holds.has hold = false) (hfree : r.holds.none = true) (hstatus : r.status = .running st) :
    s.addHoldRead id hold = (s.setSlot k { r with holds := r.holds.add hold }).heldRunning st := by
  simp only [addHoldRead, hr, hhas, hfree, hstatus, Bool.false_eq_true, if_false, if_true]

theorem openBreak_eq (p : PressIx) (id : RollId) (s : State) :
    s.openBreak p id = { s with scu := { s.scu with presses := s.scu.presses.set p { s.press p with
      brk := { remaining := if s.inUse p then (s.activePress p).breakLen else 0, stand := none, roll := some id } } } } := rfl

end State

theorem LinkOp.openBreak {F : State → State} (h : LinkOp F) (p : PressIx) (id : RollId) (s : State) :
    F (s.openBreak p id) = (F s).openBreak p id :=
  h.commutes s (G := State.openBreak p id) (fun _ => ⟨rfl, rfl, rfl, rfl, rfl⟩) fun _ _ => rfl

theorem Holds.none_eq_false {h : Holds} (hne : h ≠ ⟨false, false, false, false, false⟩) : h.none = false := by
  obtain ⟨p, b, d, l, m⟩ := h
  by_contra hnone
  simp [Holds.none] at hnone
  simp [hnone] at hne

/-- Settles O28: the splice outside the lead follows from the splice of any stand; breaks by the hold that they bring. -/
theorem splicesAndBreaksAreTaken : Obligations.SplicesAndBreaksAreTaken := by
  refine ⟨fun st p dst src old new j k q r s hheard hpar => ?outside, fun st p dst src old new k r s hheard hpar => ?spliced,
    fun st p dst src roll other k r s hheard hpar => ?broken, fun st p dst src roll other k r s hheard hpar => ?held⟩
  case outside =>
    intro x hpress hactive hother hne hq hr hqid hrid hjk hlead hout hcall hholds n
    let u := (s.setSlot j { q with status := .butt st }).setSlot k (State.runningOn st p r)
    let y := s.splicedStand st new (.butt old) r
    have hid : q.id ≠ new := by rw [hqid]; exact hne
    have hy : y.state = .out := if_pos hout
    have hyr : y.lres = 0 := if_neg (by rw [hlead]; decide)
    have hleads (z : Stand) (hz : z.press = x.press) : (u.setStand st z).inLead st = false :=
      (State.inLead_setStand (s := u) hz).trans hlead
    have hts : (u.setStand st y).computeTs st = u.setStand st { y with ts := 65535 } := by
      rw [State.computeTs_of_outOfLead (hleads y rfl) hcall, State.stand_setStand_self, State.setStand_setStand]
    let t := (u.setStand st { y with ts := 65535 }).spliceCounted p (s.spliceWindow p) st new
    have htstand : t.stand st = { y with ts := 65535 } := State.stand_setStand_self (s := u) ..
    have hnew : t.roll? new = some (State.runningOn st p r) := State.roll?_of_findRoll (s := u)
      (State.findRoll_setSlot (r' := State.runningOn st p r) (State.findRoll_setSlot_of_other hr hid hjk) rfl)
    have hheld : t.activeHeld st = false := by
      have hactive : (t.stand st).active = some new := by rw [htstand]; rfl
      simp only [State.activeHeld, hactive, hnew, State.runningOn, hholds]
      rfl
    have hstate : (t.stand st).state ≠ .feeding := by
      rw [htstand]
      show y.state ≠ .feeding
      rw [hy]
      decide
    have htaken : s.spliceMadeTaken old new st = t := by
      rw [State.spliceMadeTaken_of_active hpar hpress hother hr hactive hq hid hjk]
      refine (congrArg (fun w : State => State.afterSplice st _ _ (w.spliceCounted p (s.spliceWindow p) st new)) hts).trans ?_
      exact State.afterSplice_of_outOfLead _ _ (hleads { y with ts := 65535 } rfl) hstate hheld
    refine ⟨t, ?_, ?_, ?_, ?_, ?_, ?_, ?_⟩
    · rw [exec_spliceMade old new hheard, htaken]
      rfl
    · show u.slot? j = _
      rw [State.slot?_setSlot, if_neg hjk, State.slot?_setSlot, if_pos rfl]
    · show u.slot? k = _
      rw [State.slot?_setSlot, if_pos rfl]
      rfl
    · have hkept : { y with ts := 65535 } = { x with
          active := some new, other := .butt old, lr := r.lr, carry := 0, lres := 0, implausible := 0, deadReckon := false
          late := false, ts := 65535 } := by
        show ({ y with state := y.state, lres := y.lres, ts := 65535 } : Stand) = _
        rw [hy, hyr, ← hout]
        rfl
      exact htstand.trans hkept
    · exact Vector.getElem_set_self ..
    · exact Vector.getElem_set_self ..
    · obtain ⟨hrolls, -, -⟩ := id hpar
      have hbad : u.tmc.badRolls = s.tmc.badRolls := by
        simp only [u, State.setSlot, hrolls, List.filter_nil]
      have htmc : t.tmc = { s.tmc with rolls := t.tmc.rolls } := by
        show ({ s.tmc with rolls := u.tmc.rolls, badRolls := u.tmc.badRolls } : Tmc) = _
        rw [hbad]
        rfl
      exact congrArg (fun x : Tmc => { t with tmc := x }) htmc
  case spliced =>
    intro x hpress hother hr hrid D lres turned counted answer
    have answers {t : State} (h : s.spliceMadeTaken old new st = State.afterSplice st lres x.lres t) : answer t := by
      show exec _ _ = _
      rw [exec_spliceMade old new hheard, h]
      rfl
    exact ⟨fun j q hactive hne hq hqid hjk =>
        answers (State.spliceMadeTaken_of_active hpar hpress hother hr hactive hq (by rw [hqid]; exact hne) hjk),
      fun hactive hzero => answers (State.spliceMadeTaken_of_unthreaded hpar hpress hother hr hactive hzero)⟩
  case broken =>
    intro x hpress hactive hr hrid n b limited counted broken missed
    let runs (m : Nat) : State := s.updRun p (State.runBroken m)
    let slot (m : Nat) : State := (runs m).setSlot k { r with breaks := b }
    have breaks {m : Nat} {t : State} (h : (runs m).countRollBreak p roll = t) (hm : m = 0)
        (hfew : ∀ u, s.run? p = some u → u.missed ≤ 65535) : broken (t.openBreak p roll) := by
      show exec _ _ = _
      rw [exec_webBreak roll hheard, State.breakTaken, State.actedOn_of_press hpress, if_pos hactive, State.countBreak_eq roll hfew, ← h, hm]
      rfl
    have misses {t : State} (h : (runs 1).countRollBreak p roll = t) (hother : x.other = .standby other) :
        missed (t.openBreak p roll) := by
      show exec _ _ = _
      rw [exec_spliceMissed roll other hheard, State.spliceMissedTaken, State.actedOn_of_press hpress, if_pos ⟨hactive, hother⟩,
        State.countMissed_eq, ← h]
      rfl
    have hcounted (m : Nat) (hfree : ¬limited) : (runs m).countRollBreak p roll = slot m :=
      (State.countRollBreak_of_known (s := runs m) hpar hr).trans (if_neg hfree)
    have hlimited (m : Nat) (hl : limited) (hheld : r.holds ≠ ⟨false, false, false, false, false⟩) :
        (runs m).countRollBreak p roll =
          ((runs m).setSlot k { r with breaks := b, holds := { r.holds with breaks := true } }).raiseField .rollBreakHold roll roll := by
      obtain ⟨-, -, hbreaks⟩ := id hl
      have hfind : (slot m).findRoll roll = some (k, { r with breaks := b }) :=
        State.findRoll_setSlot (s := runs m) (r' := { r with breaks := b }) hr rfl
      refine ((State.countRollBreak_of_known (s := runs m) hpar hr).trans (if_pos hl)).trans ?_
      rw [State.addHoldRead_of_held (hold := .breaks) hfind hbreaks (Holds.none_eq_false hheld), State.setSlot_setSlot]
      rfl
    have hopened (t : State) : (t.raiseField .rollBreakHold roll roll).openBreak p roll =
        (t.openBreak p roll).raiseField .rollBreakHold roll roll := ((LinkOp.raiseField ..).openBreak ..).symm
    refine ⟨fun hfree hfew => breaks (hcounted 0 hfree) rfl hfew, fun hfree hother => misses (hcounted 1 hfree) hother,
      fun hl hheld hfew => ?_, fun hl hheld hother => ?_⟩
    · have h := breaks (hlimited 0 hl hheld) rfl hfew
      rwa [hopened] at h
    · have h := misses (hlimited 1 hl hheld) hother
      rwa [hopened] at h
  case held =>
    intro x hpress hactive hr hrid hstatus hholds huse b hlimit held opened
    let runs (m : Nat) : State := s.updRun p (State.runBroken m)
    let slot (m : Nat) : State := (runs m).setSlot k { r with breaks := b }
    have hheld (m : Nat) : (runs m).countRollBreak p roll = held m := by
      have hfind : (slot m).findRoll roll = some (k, { r with breaks := b }) :=
        State.findRoll_setSlot (s := runs m) (r' := { r with breaks := b }) hr rfl
      refine ((State.countRollBreak_of_known (s := runs m) hpar hr).trans (if_pos ⟨huse, hlimit, by rw [hholds]⟩)).trans ?_
      rw [State.addHoldRead_of_running (hold := .breaks) hfind (by rw [hholds]; rfl) (by rw [hholds]; rfl) hstatus,
        State.setSlot_setSlot, hholds]
      rfl
    have hopened (m : Nat) : (held m).openBreak p roll = opened (held m) := by
      have hmoves := (Moves.heldRunning st _).mono.next (Moves.raiseField .rollBreakHold roll roll _) (m := [.calls, .ltu, .flags])
        (a := { s.setSlot k { r with breaks := b, holds := ⟨false, true, false, false, false⟩ } with scu := { s.scu with
          runs := s.scu.runs.set p ((s.run? p).map (State.runBroken m)) } })
      have hpls : (held m).pls = s.pls := hmoves.same .pls (by decide)
      have hpress : (held m).press p = s.press p := (congrArg (fun x : Scu => x.presses[p]) (hmoves.same .scu (by decide)) :)
      have hplan : (held m).activePress p = s.activePress p := congrArg (fun x : Pls => x.activePress[p]) hpls
      have hin : (held m).inUse p = true := by rw [State.inUse, hplan]; exact huse
      rw [State.openBreak_eq, hpress, hplan, hin]
      rfl
    refine ⟨fun hfew => ?_, fun hother => ?_⟩
    · rw [exec_webBreak roll hheard, State.breakTaken, State.actedOn_of_press hpress, if_pos hactive, State.countBreak_eq roll hfew]
      exact congrArg (fun t : State => Host.Outcome.next (t.placeUpper _))
        ((congrArg (State.openBreak p roll) (hheld 0)).trans (hopened 0))
    · rw [exec_spliceMissed roll other hheard, State.spliceMissedTaken, State.actedOn_of_press hpress, if_pos ⟨hactive, hother⟩,
        State.countMissed_eq]
      exact congrArg (fun t : State => Host.Outcome.next (t.placeUpper _))
        ((congrArg (State.openBreak p roll) (hheld 1)).trans (hopened 1))

end Sys2Proof.Machine
end

section
/-! PROOFS. Time to splice, the call test, starvation and lateness (R102, R103, R131 to R137). -/

namespace Sys2Proof.Machine

/-! ### Calls in their places (R135) -/

theorem insertCall_eq_append {c : Call} : ∀ {before after : List Call}, (∀ b ∈ before, c.before b = false) →
    (∀ a ∈ after, c.before a = true) → insertCall c (before ++ after) = before ++ c :: after
  | [], [], _, _ => rfl
  | [], a :: after, _, h => if_pos (h a List.mem_cons_self)
  | b :: before, after, hb, ha => by
    rw [List.cons_append, insertCall, hb b List.mem_cons_self, if_neg (by decide),
      insertCall_eq_append (fun x hx => hb x (List.mem_cons_of_mem _ hx)) ha]
    rfl

theorem find?_insertCall_of_absent {c : Call} {st : StandIx} (hc : c.stand = st) : ∀ {l : List Call}, (∀ x ∈ l, x.stand ≠ st) →
    ((insertCall c l).find? fun x => x.stand = st) = some c
  | [], _ => List.find?_cons_of_pos (decide_eq_true hc)
  | x :: l, h => by
    have hx : ¬(decide (x.stand = st)) = true := by simpa using h x List.mem_cons_self
    unfold insertCall
    split
    · exact List.find?_cons_of_pos (decide_eq_true hc)
    · rw [List.find?_cons_of_neg (by exact hx)]
      exact find?_insertCall_of_absent hc fun y hy => h y (List.mem_cons_of_mem _ hy)

theorem before_asymm {a b : Call} (h : a.before b = true) : b.before a = false := by
  simp only [Call.before, decide_eq_true_eq, decide_eq_false_iff_not] at h ⊢
  omega

namespace State

variable {s : State} {st : StandIx}

theorem call?_putCall {c : Call} (hc : c.stand = st) : (s.putCall c).call? st = some c := by
  subst hc
  refine find?_insertCall_of_absent rfl fun x hx => ?_
  simpa using (List.mem_filter.1 hx).2

theorem stand_of_call? {c : Call} (h : s.call? st = some c) : c.stand = st :=
  of_decide_eq_true (List.find?_some (p := fun c : Call => decide (c.stand = st)) h)

/-! ### The test for a search start (R137) -/

theorem startSearch_of_barred (h : s.running = false ∨ s.fdu.search ≠ none ∨ ∀ c ∈ s.fdu.calls, c.phase ≠ .opened ∨ c.noRoll = true) :
    s.startSearch = s := by
  unfold startSearch
  split
  next hready =>
    obtain ⟨hrun, hsearch⟩ := hready
    have hcalls := (h.resolve_left (by rw [hrun]; decide)).resolve_left (not_not.2 hsearch)
    have hnone : (s.fdu.calls.find? fun c => decide (c.phase = .opened ∧ c.noRoll = false)) = none :=
      List.find?_eq_none.2 fun c hc hp => by
        obtain ⟨hphase, hroll⟩ := of_decide_eq_true hp
        exact (hcalls c hc).elim (fun h => h hphase) fun h => nomatch hroll.symm.trans h
    simp only [hnone]
  next => rfl

theorem startSearch_of_first {before after : List Call} {c : Call} (hrun : s.running = true) (hsearch : s.fdu.search = none)
    (hcalls : s.fdu.calls = before ++ c :: after) (hphase : c.phase = .opened) (hroll : c.noRoll = false)
    (hbefore : ∀ b ∈ before, b.phase ≠ .opened ∨ b.noRoll = true) (hordered : s.callsOrdered) :
    s.startSearch = { s with fdu := { s.fdu with
      calls := before ++ { c with phase := .searching } :: after, search := some { stand := c.stand } } } := by
  have hfind : (s.fdu.calls.find? fun c => decide (c.phase = .opened ∧ c.noRoll = false)) = some c := by
    rw [hcalls, List.find?_append, List.find?_eq_none.2, Option.none_or, List.find?_cons_of_pos]
    · exact decide_eq_true ⟨hphase, hroll⟩
    · intro b hb hp
      obtain ⟨h1, h2⟩ := of_decide_eq_true hp
      exact (hbefore b hb).elim (fun h => h h1) fun h => nomatch h2.symm.trans h
  have hpairs : (before ++ c :: after).Pairwise callPair := hcalls ▸ hordered
  obtain ⟨-, hlater, hcross⟩ := List.pairwise_append.1 hpairs
  have hafter := (List.pairwise_cons.1 hlater).1
  have hput : s.putCall { c with phase := .searching } = s.setCalls (before ++ { c with phase := .searching } :: after) := by
    have hfilter : (s.fdu.calls.filter fun x => decide (x.stand ≠ c.stand)) = before ++ after := by
      rw [hcalls, List.filter_append, List.filter_cons_of_neg (by simp), List.filter_eq_self.2, List.filter_eq_self.2]
      · exact fun a ha => decide_eq_true (hafter a ha).2.symm
      · exact fun b hb => decide_eq_true (hcross b hb c List.mem_cons_self).2
    rw [putCall]
    refine congrArg (fun l => s.setCalls l) ?_
    rw [hfilter]
    exact insertCall_eq_append (fun b hb => before_asymm (hcross b hb c List.mem_cons_self).1) fun a ha => (hafter a ha).1
  unfold startSearch
  rw [if_pos ⟨hrun, hsearch⟩]
  simp only [hfind, hput]
  rfl

/-! ### Ts (R131) -/

theorem tsValue_of_press {p : PressIx} (hpress : (s.stand st).press = some p) :
    s.tsValue st = if s.inLead st = true ∧ ((s.stand st).state = .feeding ∨ (s.stand st).state = .armed) ∧
        (s.speedSettings p).floor ≤ (s.speed p).estimate then
      min 65535 (((s.stand st).lr - (s.stand st).lres) * 6 / (s.speed p).estimate) else 65535 := by
  simp only [tsValue, standFloor, standSpeed, hpress]
  rfl

theorem tsValue_of_pressless (hpress : (s.stand st).press = none) : s.tsValue st = 65535 := by
  have hlead : s.inLead st = false := by simp only [inLead, hpress]
  exact tsValue_of_outOfLead hlead

/-- Ts as R131 states it: by the remaining paper while the stand feeds in the lead at speed, else unbounded. -/
theorem tsValue_eq {T : Nat}
    (hlead : ∀ p, (s.stand st).press = some p → s.inLead st = true → (s.stand st).state = .feeding ∨ (s.stand st).state = .armed →
      (s.speedSettings p).floor ≤ (s.speed p).estimate →
      T = min 65535 (((s.stand st).lr - (s.stand st).lres) * 6 / (s.speed p).estimate))
    (hother : (∀ p, (s.stand st).press = some p → ¬(s.inLead st = true ∧ ((s.stand st).state = .feeding ∨ (s.stand st).state = .armed) ∧
      (s.speedSettings p).floor ≤ (s.speed p).estimate)) → T = 65535) : s.tsValue st = T := by
  cases hpress : (s.stand st).press with
  | none => rw [tsValue_of_pressless hpress, hother fun p hp => nomatch hpress.symm.trans hp]
  | some p =>
    rw [tsValue_of_press hpress]
    split
    next h => exact (hlead p hpress h.1 h.2.1 h.2.2).symm
    next h => exact (hother fun q hq => by rwa [← Option.some.inj (hpress.symm.trans hq)]).symm

/-- The stand with its Ts. -/
def timed (st : StandIx) (T : Nat) (s : State) : State := s.setStand st { s.stand st with ts := T }

theorem inLead_timed (T : Nat) : (s.timed st T).inLead st = s.inLead st := inLead_setStand (x := { s.stand st with ts := T }) rfl

theorem activeHeld_congr {a b : State} (hactive : (b.stand st).active = (a.stand st).active) (hrolls : b.tmc.rolls = a.tmc.rolls) :
    b.activeHeld st = a.activeHeld st := by
  have hroll (id : RollId) : b.roll? id = a.roll? id := by rw [roll?, roll?, findRoll, findRoll, hrolls]
  simp only [activeHeld, hactive, hroll]

theorem stand_timed (T : Nat) : (s.timed st T).stand st = { s.stand st with ts := T } := stand_setStand_self ..

theorem activeHeld_timed (T : Nat) : (s.timed st T).activeHeld st = s.activeHeld st :=
  activeHeld_congr (by rw [stand_timed]) rfl

/-! ### The call test (R135, R136) -/

/-- The stand may be given a call. -/
def mayCall (s : State) (st : StandIx) : Prop :=
  s.running = true ∧ s.inLead st = true ∧ s.call? st = none ∧ ∀ id, (s.stand st).other ≠ .standby id

theorem mayCall_iff : s.mayCall st ↔ (s.running && s.inLead st && (s.call? st).isNone && !(match (s.stand st).other with
    | .standby _ => true
    | _ => false)) = true := by
  simp only [mayCall, Bool.and_eq_true, and_assoc, Option.isNone_iff_eq_none, Bool.not_eq_true']
  cases (s.stand st).other <;> simp

theorem callTestRead_of_barred (h : ¬s.mayCall st) : s.callTestRead st = s := if_neg fun hc => h (mayCall_iff.2 hc)

theorem callTestRead_of_may (h : s.mayCall st) :
    s.callTestRead st =
      match (s.stand st).state with
      | .feeding =>
        if s.activeHeld st then s.openCall st s.second true
        else if (s.stand st).ts ≤ (s.activeStand st).callLead then s.openCall st (s.second + (s.stand st).ts) false
        else s
      | .idle => s.openCall st s.second true
      | .starved => s.openCall st s.second true
      | _ => s := if_pos (mayCall_iff.1 h)

theorem callTest_of_barred (hpar : s.noParity) (h : ¬s.mayCall st) : s.callTest st = s :=
  (callTest_of_noParity hpar st).trans (callTestRead_of_barred h)

/-- No roll is read for a stand that does not feed. -/
theorem callTest_of_unfed (h : (s.stand st).state ≠ .feeding) : s.callTest st = s.callTestRead st := by
  simp only [callTest, asksHolds, h, decide_false, Bool.and_false, Bool.false_eq_true, if_false]

theorem not_mayCall_of_call {c : Call} (h : s.call? st = some c) : ¬s.mayCall st := fun hm => nomatch h.symm.trans hm.2.2.1

theorem callTest_of_call {c : Call} (h : s.call? st = some c) : s.callTest st = s := by
  have hread : s.callTestRead st = s := callTestRead_of_barred (not_mayCall_of_call h)
  simp only [callTest, asksHolds, h, Option.isNone_some, Bool.and_false, Bool.false_and, Bool.false_eq_true, if_false, hread]

theorem makeEarly_of_call {c : Call} (h : s.call? st = some c) : s.makeEarly st = s.putCall { c with due := s.second, early := true } := by
  simp only [makeEarly, h]

theorem makeEarly_of_none (h : s.call? st = none) : s.makeEarly st = s := by simp only [makeEarly, h]

/-- A call made early is all that the call test finds. -/
theorem callTest_makeEarly_of_call {c : Call} (h : s.call? st = some c) :
    (s.makeEarly st).callTest st = s.putCall { c with due := s.second, early := true } := by
  rw [makeEarly_of_call h]
  exact callTest_of_call (call?_putCall (show c.stand = st from stand_of_call? h))

theorem computeTs_eq : s.computeTs st =
    if s.running then callTest st (match s.call? st with
      | some c => if c.early then s.timed st (s.tsValue st) else (s.timed st (s.tsValue st)).putCall { c with due := s.second + s.tsValue st }
      | none => s.timed st (s.tsValue st))
    else s.timed st (s.tsValue st) := by
  have hts : ((s.timed st (s.tsValue st)).stand st).ts = s.tsValue st := by rw [stand_timed]
  have htimed : (s.updStand st fun x => { x with ts := s.tsValue st }) = s.timed st (s.tsValue st) := rfl
  unfold computeTs
  simp only [htimed, hts] <;> rfl

theorem computeTs_of_stopped (h : s.running = false) : s.computeTs st = s.timed st (s.tsValue st) := by
  rw [computeTs_eq, h, if_neg (by decide)]

theorem computeTs_of_call {c : Call} (hrun : s.running = true) (h : s.call? st = some c) :
    s.computeTs st =
      if c.early then s.timed st (s.tsValue st) else (s.timed st (s.tsValue st)).putCall { c with due := s.second + s.tsValue st } := by
  have hcall : (s.timed st (s.tsValue st)).call? st = some c := h
  rw [computeTs_eq, hrun, if_pos rfl, h]
  dsimp only
  split
  · exact callTest_of_call hcall
  · exact callTest_of_call (call?_putCall (show c.stand = st from stand_of_call? h))

theorem computeTs_of_none (hrun : s.running = true) (h : s.call? st = none) :
    s.computeTs st = (s.timed st (s.tsValue st)).callTest st := by
  rw [computeTs_eq, hrun, if_pos rfl, h]

/-! ### What follows a change of the stand's state (R132, R136) -/

theorem stateChanged_of_out (h : (s.stand st).state = .out) : s.stateChanged st = s.timed st 65535 := by
  simp only [stateChanged, h]
  rfl

theorem stateChanged_of_fed (h : (s.stand st).state = .feeding ∨ (s.stand st).state = .armed) :
    s.stateChanged st = if s.running then s.callTest st else s := by
  rcases h with h | h <;> simp only [stateChanged, h]

theorem stateChanged_of_unfed (h : (s.stand st).state = .idle ∨ (s.stand st).state = .starved) :
    s.stateChanged st = if s.running then ((s.timed st 65535).makeEarly st).callTest st else s.timed st 65535 := by
  have hcleared : (s.updStand st fun x => { x with ts := Config.unbounded }) = s.timed st 65535 := rfl
  rcases h with h | h <;> simp only [stateChanged, h, hcleared] <;> rfl

theorem heldRunning_of_running (h : s.running = true) : s.heldRunning st = (s.makeEarly st).callTestRead st := if_pos h

/-- What starvation writes before the call rules are told. -/
def starvedStand (st : StandIx) (s : State) : State :=
  let u := s.raise .standStarved (num st)
  { u with fdu := { s.fdu with
    stands := s.fdu.stands.set st { s.stand st with state := .starved, ts := 65535 }
    lastStarved := num st, lastStarvedTick := s.clock, starved := s.fdu.starved ||| BitVec.twoPow 32 st.val } }

theorem starve_of_running (hrun : s.running = true) : s.starve st = ((s.starvedStand st).makeEarly st).callTest st := by
  let u := (s.updStand st fun x => { x with state := .starved }).raise .standStarved (num st)
  have hraise : LinkOp (State.raise .standStarved (num st)) := .raise ..
  have hstand : (u.recordStarved st).stand st = { s.stand st with state := .starved } :=
    (hraise.stand_eq ..).trans (stand_setStand_self ..)
  have hstate : ((u.recordStarved st).stand st).state = .starved := by rw [hstand]
  have hrun' : (u.recordStarved st).running = true :=
    (running_eq_of_mode (((Moves.raise ..).same .mode (by decide)).trans rfl)).trans hrun
  have hwritten : (u.recordStarved st).timed st 65535 = s.starvedStand st := by
    have hu : u = (s.raise .standStarved (num st)).updStand st fun x => { x with state := .starved } := hraise.updStand ..
    rw [timed, hstand, hu]
    simp only [recordStarved, updStand, setStand, hraise.fdu_eq, hraise.clock_eq, hraise.stand_eq, Vector.set_set, starvedStand,
      setWith]
  show (u.recordStarved st).stateChanged st = _
  rw [stateChanged_of_unfed (.inr hstate), if_pos hrun', hwritten]

theorem activeHeld_iff {id : RollId} (h : (s.stand st).active = some id) :
    s.activeHeld st = true ↔ ∃ k r, s.findRoll id = some (k, r) ∧ r.holds ≠ ⟨false, false, false, false, false⟩ := by
  simp only [activeHeld, h, roll?]
  cases hr : s.findRoll id with
  | none => simp
  | some e =>
    obtain ⟨k, r⟩ := e
    have hnone : r.holds.none = false ↔ r.holds ≠ ⟨false, false, false, false, false⟩ :=
      ⟨fun h he => by rw [he] at h; exact absurd h (by decide), Holds.none_eq_false⟩
    simp [hnone]

end State

/-- Settles O29: Ts and the calls that follow, the call test and its occasions, starvation, and the late-splice test. -/
theorem timeToSpliceStarvationAndLateness : Obligations.TimeToSpliceStarvationAndLateness := by
  refine ⟨fun st p s => ?feeding, fun st s hpar => ?general, fun st p s => ?starvation, fun st s => ?late⟩
  case feeding =>
    intro x E T timed opened hpar hpress hlead hfeeding
    have hT : s.tsValue st = T := by
      rw [State.tsValue_of_press hpress]
      simp only [hlead, show (s.stand st).state = .feeding from hfeeding, true_and, true_or]
      rfl
    have htimed : s.timed st (s.tsValue st) = timed := by rw [hT]; rfl
    have hstand : timed.stand st = { x with ts := T } := State.stand_timed T
    have hstate : (timed.stand st).state = .feeding := by rw [hstand]; exact hfeeding
    have hheld : timed.activeHeld st = s.activeHeld st := State.activeHeld_timed T
    have hts : (timed.stand st).ts = T := by rw [hstand]
    have htest := State.callTest_of_noParity (s := timed) hpar st
    have hmay (hrun : s.running = true) (hcall : s.call? st = none) (hother : ∀ id, x.other ≠ .standby id) : timed.mayCall st :=
      ⟨hrun, (State.inLead_timed T).trans hlead, hcall, by rw [hstand]; exact hother⟩
    have hcomputed (hrun : s.running = true) (hcall : s.call? st = none) : s.computeTs st = timed.callTestRead st := by
      rw [State.computeTs_of_none hrun hcall, htimed, htest]
    refine ⟨fun hrun => (State.computeTs_of_stopped hrun).trans htimed, fun hrun => ⟨fun c hc => ?_, fun hcall hother => ?_,
      fun hcall hother => ?_⟩⟩
    · rw [State.computeTs_of_call hrun hc, htimed, hT]
      rfl
    · have hopens := State.callTestRead_of_may (hmay hrun hcall hother)
      rw [hstate, hheld, hts] at hopens
      refine ⟨fun hh => ?_, fun hh hnear => ?_, fun hh hfar => ?_⟩
      · rw [hcomputed hrun hcall, hopens, hh]
        rfl
      · rw [hcomputed hrun hcall, hopens, hh]
        exact if_pos hnear
      · rw [hcomputed hrun hcall, hopens, hh]
        exact if_neg (Nat.not_le.2 hfar)
    · obtain ⟨id, hid⟩ := hother
      rw [hcomputed hrun hcall, State.callTestRead_of_barred]
      rintro ⟨-, -, -, hno⟩
      rw [hstand] at hno
      exact hno id hid
  case general =>
    intro x now opened may unbounded
    refine ⟨fun T ⟨hlead, hother⟩ => ?ts, fun h => State.callTest_of_barred hpar h, fun h => ?_, State.stateChanged_of_out, fun h => ?_,
      fun h => ?_, fun hrun => ?_, fun hrun => ⟨fun c hc => ?_, fun hc => ?_⟩, fun id h => State.activeHeld_iff h,
      State.startSearch_of_barred, fun before c after => State.startSearch_of_first⟩
    case ts =>
      intro timed
      have hT : s.tsValue st = T := State.tsValue_eq hlead hother
      have htimed : s.timed st (s.tsValue st) = timed := by rw [hT]; rfl
      refine ⟨fun hrun => (State.computeTs_of_stopped hrun).trans htimed, fun hrun => ⟨fun hc => ?_, fun c hc => ?_⟩⟩
      · rw [State.computeTs_of_none hrun hc, htimed]
      · rw [State.computeTs_of_call hrun hc, htimed, hT]
        rfl
    · have htest := (State.callTest_of_noParity hpar st).trans (State.callTestRead_of_may h)
      refine ⟨fun hx => ?_, fun hx => ?_, fun hx => ?_⟩
      · rw [htest]
        rcases hx with hx | hx <;> rw [hx] <;> rfl
      · rw [htest]
        rcases hx with hx | hx <;> rw [hx]
      · rw [hx] at htest
        exact ⟨fun hh => htest.trans (if_pos hh),
          fun hh hnear => htest.trans ((if_neg (by rw [hh]; decide)).trans (if_pos hnear)),
          fun hh hfar => htest.trans ((if_neg (by rw [hh]; decide)).trans (if_neg (Nat.not_le.2 hfar)))⟩
    · have hchanged := State.stateChanged_of_unfed h
      refine ⟨fun hrun => hchanged.trans (if_neg (by rw [hrun]; decide)), fun hrun => ⟨fun c hc => ?_, fun hc => ?_⟩⟩
      · exact hchanged.trans ((if_pos hrun).trans (State.callTest_makeEarly_of_call (s := unbounded) hc))
      · exact hchanged.trans ((if_pos hrun).trans (congrArg (State.callTest st) (State.makeEarly_of_none (s := unbounded) hc)))
    · rw [State.stateChanged_of_fed h]
      split
      · rfl
      next hrun => exact (State.callTest_of_barred hpar fun hmay => hrun hmay.1).symm
    · exact if_neg (by rw [hrun]; decide)
    · rw [State.heldRunning_of_running hrun, State.makeEarly_of_call hc]
      exact State.callTestRead_of_barred (State.not_mayCall_of_call (State.call?_putCall (show c.stand = st from State.stand_of_call? hc)))
    · rw [State.heldRunning_of_running hrun, State.makeEarly_of_none hc, State.callTest_of_noParity hpar]
  case starvation =>
    intro x hpress starves now u starved
    have hspeed : s.standSpeed st = (s.speed p).estimate := by simp only [State.standSpeed, show (s.stand st).press = some p from hpress]
    have hstarves : s.starveTest st = if starves then s.starve st else s := by
      rw [State.starveTest, hspeed]
    have hstarve (hs : starves) : s.starve st = (starved.makeEarly st).callTest st := State.starve_of_running hs.1
    have hstand : starved.stand st = { x with state := .starved, ts := 65535 } := Vector.getElem_set_self ..
    have hstate : (starved.stand st).state = .starved := by rw [hstand]
    have hraise : LinkOp (State.raise .standStarved (num st)) := .raise ..
    have hclock : starved.second = now := congrArg (fun c : Word => c.toNat / 10) (hraise.clock_eq s)
    have hrun (hs : starves) : starved.running = true :=
      (State.running_eq_of_mode ((Moves.raise ..).same .mode (by decide))).trans hs.1
    refine ⟨fun hs => hstarves.trans (if_neg hs), fun hs c hc => ?_, fun hs hc hlead hother => ?_⟩
    · rw [hstarves, if_pos hs, hstarve hs, State.callTest_makeEarly_of_call (s := starved) hc, hclock]
    · have hmay : starved.mayCall st :=
        ⟨hrun hs, (State.inLead_of_stand (a := s) (b := starved) (by rw [hstand]) (hraise.pls_eq s)).trans hlead, hc, by rw [hstand]; exact hother⟩
      rw [hstarves, if_pos hs, hstarve hs, State.makeEarly_of_none (s := starved) hc, State.callTest_of_unfed (by rw [hstate]; decide),
        State.callTestRead_of_may hmay, hstate, hclock]
      rfl
  case late =>
    intro x late
    have htest : s.lateTest st = if late then (s.setStand st { x with late := true }).raise .spliceLate (num st) else s := by
      simp only [State.lateTest, Bool.and_eq_true, Bool.or_eq_true, decide_eq_true_eq, Bool.not_eq_true', Option.isSome_iff_ne_none,
        and_assoc]
      rfl
    exact ⟨fun h => htest.trans (if_pos h), fun h => htest.trans (if_neg h)⟩

end Sys2Proof.Machine
end

section
/-! PROOFS. DRIVE reports, silence, holdover and forced speed (R118, R121 to R125). -/

namespace Sys2Proof.Machine

namespace State

variable {s : State} {p : PressIx}

theorem speed_setSpeed_self (p : PressIx) (x : Speed) (s : State) : (s.setSpeed p x).speed p = x := by simp

theorem setSpeed_setSpeed (p : PressIx) (x y : Speed) (s : State) : (s.setSpeed p x).setSpeed p y = s.setSpeed p y := by
  simp only [setSpeed, Vector.set_set]

theorem updSpeed_setSpeed (p : PressIx) (x : Speed) (f : Speed → Speed) (s : State) :
    (s.setSpeed p x).updSpeed p f = s.setSpeed p (f x) := by
  rw [updSpeed, speed_setSpeed_self, setSpeed_setSpeed]

/-! ### DRIVE (R118) -/

/-- The drive's tick and silence taken. -/
def driven (p : PressIx) (s : State) : Speed := { s.speed p with lastDrive := s.clock, driveSilence := 0 }

theorem driveTaken_of_forced (speed : Nat) (h : (s.speed p).source = .forced) : s.driveTaken speed p = s.setSpeed p (driven p s) := by
  have hsource : ((s.setSpeed p (driven p s)).speed p).source = .forced := by rw [speed_setSpeed_self]; exact h
  have htaken : (s.updSpeed p fun x => { x with lastDrive := s.clock, driveSilence := 0 }) = s.setSpeed p (driven p s) := rfl
  simp only [driveTaken, htaken, hsource]

theorem driveTaken_of_free (speed : Nat) (h : (s.speed p).source ≠ .forced) :
    s.driveTaken speed p = (s.setSpeed p { driven p s with source := .trackPrimary }).applySample p (min 1500 speed) := by
  have hsource : ((s.setSpeed p (driven p s)).speed p).source ≠ .forced := by rw [speed_setSpeed_self]; exact h
  have htaken : (s.updSpeed p fun x => { x with lastDrive := s.clock, driveSilence := 0 }) = s.setSpeed p (driven p s) := rfl
  have htracked : (s.setSpeed p (driven p s)).setSource p .trackPrimary = s.setSpeed p { driven p s with source := .trackPrimary } :=
    updSpeed_setSpeed ..
  simp only [driveTaken, htaken]
  rw [htracked]
  rfl

/-! ### Silence and holdover (R122, R123) -/

theorem enterHold_setSpeed (x : Speed) : (s.setSpeed p x).enterHold p =
    (s.setSpeed p { x with source := .hold, holdover := 0, interval := none }).raise .speedHoldover (num p) := by
  rw [enterHold, updSpeed_setSpeed]

theorem driveFallsSilent_of_closed (h : (s.speed p).interval = none) :
    s.driveFallsSilent p = (s.setSpeed p { s.speed p with source := .hold, holdover := 0 }).raise .speedHoldover (num p) := by
  have hclosed : { s.speed p with source := .hold, holdover := 0, interval := none } =
      { s.speed p with source := .hold, holdover := 0 } := by rw [← h]
  rw [driveFallsSilent, h, if_neg (by decide), enterHold, updSpeed, hclosed]

theorem driveFallsSilent_of_open (h : (s.speed p).interval ≠ none) :
    s.driveFallsSilent p = s.setSpeed p { s.speed p with source := .trackSecondary } :=
  if_pos (Option.isSome_iff_ne_none.2 h)

theorem countFallsSilent_of_secondary (h : (s.speed p).source = .trackSecondary) :
    s.countFallsSilent p =
      (s.setSpeed p { s.speed p with interval := none, source := .hold, holdover := 0 }).raise .speedHoldover (num p) := by
  have hsource : ((s.setSpeed p { s.speed p with interval := none }).speed p).source = .trackSecondary := by
    rw [speed_setSpeed_self]
    exact h
  exact (if_pos hsource).trans (enterHold_setSpeed { s.speed p with interval := none })

theorem countFallsSilent_of_other (h : (s.speed p).source ≠ .trackSecondary) :
    s.countFallsSilent p = s.setSpeed p { s.speed p with interval := none } := by
  have hsource : ((s.setSpeed p { s.speed p with interval := none }).speed p).source ≠ .trackSecondary := by
    rw [speed_setSpeed_self]
    exact h
  exact if_neg hsource

theorem onPress_of_num {f : PressIx → State → Answer × State} {t : Telegram} (h : (u8 t.body 1).toNat = num p) :
    onPress f t s = f p s := by
  simp only [onPress, toIx_of_eq_num h]

end State

/-- Settles O31: a DRIVE by the state of its press, and the hand-over by whether the estimate has changed. -/
theorem driveGivesPrimarySample : Obligations.DriveGivesPrimarySample := by
  refine ⟨fun p dst src press speed s hheard => ?_, fun p old s => ⟨fun h => if_pos h, fun h => if_neg h⟩⟩
  intro x sent
  have hdrive : exec (.drive dst src press speed) s = .next ((s.driveTaken speed.toNat p).placeUpper sent) :=
    heard_press (t := sent) rfl (by simp [sent, be16, Config.maxBody]) _ hheard rfl
  exact ⟨fun h => by rw [hdrive, State.driveTaken_of_forced _ h]; rfl, fun h => by rw [hdrive, State.driveTaken_of_free _ h]; rfl⟩

/-- Settles O32: each silence as its event is taken, and the two requests by the state of the press. -/
theorem silenceHoldoverAndForce : Obligations.SilenceHoldoverAndForce := by
  refine ⟨fun p s hrst hrun huse => ?events, fun p t rest s hpress => ?requests⟩
  case events =>
    intro x q taken held
    have due {d : Due} {holds : State → Bool} {act : State → State} {t : State} (hdue : d ∈ s.due) (hholds : holds (taken d) = true)
        (hact : act (taken d) = t) : awake (State.onDue d holds act) s = .next t := by
      rw [awake_of_rstHigh _ hrst, State.onDue_of_due _ _ hdue]
      exact congrArg Host.Outcome.next ((if_pos hholds).trans hact)
    refine ⟨fun hdue hsource hq => ?_, fun hdue hq => ?_, fun hdue hsource hq => ?_⟩
    · have hholds : (taken (.driveSilent p)).driveSilence p = true := State.driveSilence_iff.2 ⟨⟨hrun, huse⟩, hsource, hq⟩
      exact ⟨fun h => due hdue hholds (State.driveFallsSilent_of_closed (s := taken (.driveSilent p)) h),
        fun h => due hdue hholds (State.driveFallsSilent_of_open (s := taken (.driveSilent p)) h)⟩
    · have hholds (hforced : x.source ≠ .forced) (hopen : x.interval ≠ none ∨ x.source = .trackSecondary) :
          (taken (.countSilent p)).countSilence p = true := State.countSilence_iff.2 ⟨⟨hrun, huse⟩, hforced, hopen, hq⟩
      refine ⟨fun h => due hdue (hholds (by rw [h]; decide) (.inr h)) ?_, fun h hforced hopen => due hdue (hholds hforced (.inl hopen)) ?_⟩
      · exact State.countFallsSilent_of_secondary (s := taken (.countSilent p)) h
      · exact State.countFallsSilent_of_other (s := taken (.countSilent p)) h
    · exact due hdue (State.holdoverOver_iff.2 ⟨⟨hrun, huse⟩, hsource, hq⟩) rfl
  case requests =>
    intro x q w
    have hround {f : PressIx → State → Answer × State} {a : Answer} {u : State} (h : f p w = (a, u)) : State.onPress f t w = (a, u) :=
      (State.onPress_of_num hpress).trans h
    refine ⟨fun hready => served hready (hround rfl), fun hready => ⟨fun h => ?_, fun h hshort => ?_, fun h hdrive hcount => ?_⟩⟩
    · exact served hready (hround (if_neg h))
    · exact served hready (hround ((if_pos h).trans (congrArg (State.answered .ok) (if_pos hshort))))
    · have hlong : ¬(x.driveSilence < q ∨ x.countSilence < q) := not_or.2 ⟨Nat.not_lt.2 hdrive, Nat.not_lt.2 hcount⟩
      exact served hready (hround ((if_pos h).trans (congrArg (State.answered .ok) (if_neg hlong))))

end Sys2Proof.Machine
end

section
/-! PROOFS. COUNT reports: the copies, the charge of waste, and the secondary sample (R119, R154, R157, R161). -/

namespace Sys2Proof.Machine

/-- Waste of a class added, counter by counter (R155). -/
theorem Run.addWaste_eq (r : Run) (c : WasteClass) (w : Nat) : r.addWaste c w = { r with
    wasteStartUp := if c = .startUp then min 4294967295 (r.wasteStartUp + w) else r.wasteStartUp
    wasteSplice := if c = .splice then min 4294967295 (r.wasteSplice + w) else r.wasteSplice
    wasteBreak := if c = .brk then min 4294967295 (r.wasteBreak + w) else r.wasteBreak
    wastePlate := if c = .plateChange then min 4294967295 (r.wastePlate + w) else r.wastePlate
    wasteOther := if c = .other then min 4294967295 (r.wasteOther + w) else r.wasteOther } := by
  cases c <;> rfl

namespace State

variable {s : State} {p : PressIx}

/-! ### Waste charged to rolls (R157) -/

/-- The waste charged to each roll of a list; none charge nothing. -/
def chargeAll (w : Nat) (l : List RollId) (s : State) : State := if w = 0 then s else l.foldl (fun s id => s.chargeRoll w id) s

/-- Over records with good parity a roll's record is written by the tables alone. -/
theorem updRoll_of_tables {u : State} (hpar : s.noParity) (htmc : u.tmc = s.tmc) (id : RollId) (f : Roll → Roll) :
    u.updRoll id f = { u with tmc := (s.updRoll id f).tmc } := by
  have hupar : u.noParity := by rw [noParity, htmc]; exact hpar
  have hfind : u.findRoll id = s.findRoll id := by rw [findRoll, htmc]; rfl
  cases hr : s.findRoll id with
  | none =>
    have hkept {t : State} (ht : t.noParity) (hnone : t.findRoll id = none) : t.updRoll id f = t := by
      simp only [updRoll, readRoll_of_noParity ht, hnone]
    rw [hkept hupar (hfind.trans hr), hkept hpar hr, ← htmc]
  | some e =>
    rw [updRoll_of_noParity hupar (hfind.trans hr), updRoll_of_noParity hpar hr, setSlot, setSlot, htmc]

theorem noParity_updRoll (id : RollId) (f : Roll → Roll) (h : s.noParity) : (s.updRoll id f).noParity := by
  unfold updRoll
  rw [readRoll_of_noParity h]
  dsimp only
  split
  · exact noParity_setSlot _ _ h
  · exact h

theorem foldl_chargeRoll_of_tables (w : Nat) : ∀ (l : List RollId) {s u : State}, s.noParity → u.tmc = s.tmc →
    l.foldl (fun s id => s.chargeRoll w id) u = { u with tmc := (l.foldl (fun s id => s.chargeRoll w id) s).tmc }
  | [], s, u, _, htmc => by rw [List.foldl_nil, List.foldl_nil, ← htmc]
  | id :: l, s, u, hpar, htmc => by
    have hstep : u.chargeRoll w id = { u with tmc := (s.chargeRoll w id).tmc } := updRoll_of_tables hpar htmc id _
    have htables : (u.chargeRoll w id).tmc = (s.chargeRoll w id).tmc := by rw [hstep]
    rw [List.foldl_cons, List.foldl_cons, foldl_chargeRoll_of_tables w l (s := s.chargeRoll w id) (noParity_updRoll id _ hpar) htables, hstep]

theorem chargeAll_of_tables {u : State} (w : Nat) (l : List RollId) (hpar : s.noParity) (htmc : u.tmc = s.tmc) :
    chargeAll w l u = { u with tmc := (chargeAll w l s).tmc } := by
  unfold chargeAll
  split
  · rw [← htmc]
  · exact foldl_chargeRoll_of_tables w l hpar htmc

/-- A charge leaves the SCU and the plans. -/
theorem chargeAll_keeps (w : Nat) (l : List RollId) (hpar : s.noParity) :
    (chargeAll w l s).scu = s.scu ∧ (chargeAll w l s).pls = s.pls :=
  have h := chargeAll_of_tables (u := s) w l hpar rfl
  ⟨by rw [h], by rw [h]⟩

theorem chargedRolls_eq (c : WasteClass) : s.chargedRolls p c =
    if c = .splice then (s.press p).splice.roll.toList else if c = .brk then (s.press p).brk.roll.toList else s.runningRolls p := by
  cases c <;> rfl

/-! ### The SCU's part (R154) -/

/-- The SCU with the record of a press. -/
def scuWith (p : PressIx) (x : PressRec) (runs : Vector (Option Run) 4) (s : State) : Scu :=
  { s.scu with runs := runs, presses := s.scu.presses.set p x }

/-- A press record with its windows run down. -/
def fallen (n : Nat) (x : PressRec) : PressRec := { x with splice := x.splice.fall n, brk := x.brk.fall n }

/-- What follows once the copies are counted: the charge, the windows and the block. -/
def countCharged (p : PressIx) (c : WasteClass) (g w : Nat) (s : State) : State :=
  countBlock p g w ((s.chargeWaste p c w).updPress p (fallen (g + w)))

theorem countCopies_of_run {r : Run} {g w : Nat} {reason : Byte} (h : s.run? p = some r) :
    s.countCopies p g w reason = countCharged p (s.wasteClass p reason) g w
      (s.setRun p (some ({ r with good := add32 r.good g }.addWaste (s.wasteClass p reason) w))) := by
  simp only [countCopies, h]
  rfl

theorem countCopies_of_idle {g w : Nat} {reason : Byte} (h : s.run? p = none) :
    s.countCopies p g w reason = countCharged p (s.wasteClass p reason) g w
      (s.updPress p fun x => { x with idleGood := add32 x.idleGood g, idleWaste := add32 x.idleWaste w }) := by
  simp only [countCopies, h]
  rfl

/-- The charge and the windows, from the press record y and the runs written. -/
theorem countCharged_of_counted {c : WasteClass} {g w : Nat} {y : PressRec} {runs : Vector (Option Run) 4} (hpar : s.noParity)
    (hsplice : y.splice = (s.press p).splice) (hbrk : y.brk = (s.press p).brk) :
    countCharged p c g w { s with scu := s.scuWith p y runs } =
      countBlock p g w (chargeAll w (s.chargedRolls p c) { s with scu := s.scuWith p (fallen (g + w) y) runs }) := by
  let a : State := { s with scu := s.scuWith p y runs }
  let b : State := { s with scu := s.scuWith p (fallen (g + w) y) runs }
  have hpress : a.press p = y := Vector.getElem_set_self ..
  have hrolls : a.chargedRolls p c = s.chargedRolls p c := by
    rw [chargedRolls_eq, chargedRolls_eq, hpress, hsplice, hbrk]
    rfl
  have ha := chargeAll_of_tables (u := a) w (s.chargedRolls p c) hpar rfl
  have hb := chargeAll_of_tables (u := b) w (s.chargedRolls p c) hpar rfl
  have hwaste : a.chargeWaste p c w = chargeAll w (s.chargedRolls p c) a := by
    rw [chargeWaste, hrolls]
    rfl
  have hfall (T : Tmc) : ({ a with tmc := T } : State).updPress p (fallen (g + w)) = { b with tmc := T } := by
    have hpress' : ({ a with tmc := T } : State).press p = y := hpress
    rw [updPress, hpress']
    simp only [a, b, scuWith, Vector.set_set]
  show countBlock p g w ((a.chargeWaste p c w).updPress p (fallen (g + w))) = _
  rw [hwaste, ha, hfall, ← hb]

/-- No block is counted outside phase GOOD, nor on a press not in use (R161). -/
theorem countBlock_of_barred {g w : Nat} (h : ∀ r, s.run? p = some r → r.phase ≠ .good ∨ s.inUse p = false) : s.countBlock p g w = s := by
  refine if_neg fun ⟨hgood, huse⟩ => ?_
  obtain ⟨r, hr, hphase⟩ := Option.map_eq_some_iff.1 hgood
  exact (h r hr).elim (fun h => h hphase) fun h => nomatch h.symm.trans huse

/-! ### The FDU's part (R119) -/

/-- The source of a press after a COUNT. -/
def sourceAfter (x : Speed) : SpeedSource := if x.source.held then .trackSecondary else x.source

/-- The speed record after a COUNT, before a sample. -/
def counted (p : PressIx) (inc : Nat) (s : State) : Speed :=
  { s.speed p with
    lastCount := s.clock
    countSilence := 0
    interval := some 0
    pendingInc := if (s.speed p).interval = some 0 then min 16777215 ((s.speed p).pendingInc + inc) else 0
    source := sourceAfter (s.speed p) }

theorem countSpeed_eq (inc : Nat) : s.countSpeed p inc =
    match sourceAfter (s.speed p), s.sampleOf? p inc with
    | .trackSecondary, some v => (s.setSpeed p (counted p inc s)).applySample p v
    | _, _ => s.setSpeed p (counted p inc s) := by
  let x := s.speed p
  let y : Speed := { x with lastCount := s.clock, countSilence := 0 }
  let z : Speed := { counted p inc s with source := x.source }
  have hsample : (s.setSpeed p y).sampleOf? p inc = s.sampleOf? p inc := by
    simp only [sampleOf?, speed_setSpeed_self, y]
    rfl
  have htaken : (s.setSpeed p y).takeInterval p inc = s.setSpeed p z := updSpeed_setSpeed ..
  have hsource : (if ((s.setSpeed p z).speed p).source.held then (s.setSpeed p z).setSource p .trackSecondary else s.setSpeed p z) =
      s.setSpeed p (counted p inc s) := by
    rw [speed_setSpeed_self, setSource, updSpeed_setSpeed]
    by_cases h : x.source.held = true
    · have hafter : sourceAfter x = .trackSecondary := if_pos h
      rw [if_pos h, counted, hafter]
      rfl
    · have hafter : sourceAfter x = x.source := if_neg h
      rw [if_neg h]
      exact congrArg (fun y => s.setSpeed p { counted p inc s with source := y }) hafter.symm
  have hafter : ((s.setSpeed p (counted p inc s)).speed p).source = sourceAfter x := by rw [speed_setSpeed_self]; rfl
  have hfirst : (s.updSpeed p fun x => { x with lastCount := s.clock, countSilence := 0 }) = s.setSpeed p y := rfl
  unfold countSpeed
  simp only [hfirst, hsample, htaken, hsource, hafter] <;> rfl

theorem countSpeed_of_unsampled {inc : Nat} (h : sourceAfter (s.speed p) ≠ .trackSecondary ∨ s.sampleOf? p inc = none) :
    s.countSpeed p inc = s.setSpeed p (counted p inc s) := by
  rw [countSpeed_eq]
  split
  next hsource hsample =>
    rcases h with h | h
    · exact absurd hsource h
    · exact nomatch h.symm.trans hsample
  next => rfl

theorem countSpeed_of_sampled {inc v : Nat} (hsource : sourceAfter (s.speed p) = .trackSecondary) (hsample : s.sampleOf? p inc = some v) :
    s.countSpeed p inc = (s.setSpeed p (counted p inc s)).applySample p v := by
  rw [countSpeed_eq, hsource, hsample]

end State

/-- A COUNT telegram as it is received. -/
theorem exec_count {p : PressIx} {dst src : Byte} {s : State} (press : Byte) (good waste : Half) (reason : Byte)
    (h : Heard .folder (num p) dst src s) :
    exec (.count dst src press good waste reason) s = .next ((s.countTaken good.toNat waste.toNat reason p).placeUpper
      ⟨dst, src, clsCount, countBody press good waste reason⟩) := by
  have hlen : (countBody press good waste reason).length = 6 := by simp [countBody, be16]
  exact heard_press (t := ⟨dst, src, clsCount, countBody press good waste reason⟩) (by simp only [hlen]; rfl)
    (by simp only [hlen]; decide) _ h rfl

/-- Settles O34: the copies by whether a run is open, then the secondary sample by the interval and the source. -/
theorem countIsTakenByScuAndFdu : Obligations.CountIsTakenByScuAndFdu := by
  refine ⟨fun p dst src press good waste reason s hheard hpar => ?copies, fun p inc s => ?speed⟩
  case copies =>
    intro g w x c sent answer cap fallen rolls charged
    have answers {t : State} (h : s.countCopies p g w reason = t) : answer t := by
      show exec _ _ = _
      rw [exec_count press good waste reason hheard, State.countTaken, h]
      rfl
    have hrolls : s.chargedRolls p c = rolls := State.chargedRolls_eq c
    have hcharged (t : State) : State.chargeAll w (s.chargedRolls p c) t = charged t := by rw [hrolls]; rfl
    have hpresses : s.scu.presses.set p x = s.scu.presses := Vector.set_getElem_self ..
    have hkept (u : State) (hu : u.noParity) : (charged u).scu = u.scu ∧ (charged u).pls = u.pls := by
      rw [← hcharged]
      exact State.chargeAll_keeps w _ hu
    refine ⟨fun hidle => answers ?_, fun r hr => ?_⟩
    · let y : PressRec := { x with idleGood := add32 x.idleGood g, idleWaste := add32 x.idleWaste w }
      rw [State.countCopies_of_idle hidle]
      refine (State.countCharged_of_counted (y := y) (runs := s.scu.runs) hpar rfl rfl).trans ?_
      rw [hcharged]
      refine State.countBlock_of_barred fun r hr => ?_
      rw [State.run?, (hkept { s with scu := s.scuWith p (State.fallen (g + w) y) s.scu.runs } hpar).1] at hr
      exact nomatch hidle.symm.trans hr
    · intro counted
      let runs := s.scu.runs.set p (some ({ r with good := add32 r.good g }.addWaste c w))
      have hwritten : s.setRun p (some ({ r with good := add32 r.good g }.addWaste c w)) = { s with scu := s.scuWith p x runs } := by
        rw [State.scuWith, hpresses]
        rfl
      have hcopies : s.countCopies p g w reason = counted.countBlock p g w := by
        rw [State.countCopies_of_run hr, hwritten]
        refine (State.countCharged_of_counted (y := x) (runs := runs) hpar rfl rfl).trans ?_
        rw [hcharged]
        simp only [runs, Run.addWaste_eq]
        rfl
      refine ⟨fun h => answers (hcopies.trans (State.countBlock_of_barred fun r' hr' => ?_)), fun _ _ => answers hcopies⟩
      obtain ⟨hscu, hpls⟩ := hkept { s with scu := s.scuWith p fallen (s.scu.runs.set p (some { r with
          good := cap (r.good + g)
          wasteStartUp := if c = .startUp then cap (r.wasteStartUp + w) else r.wasteStartUp
          wasteSplice := if c = .splice then cap (r.wasteSplice + w) else r.wasteSplice
          wasteBreak := if c = .brk then cap (r.wasteBreak + w) else r.wasteBreak
          wastePlate := if c = .plateChange then cap (r.wastePlate + w) else r.wastePlate
          wasteOther := if c = .other then cap (r.wasteOther + w) else r.wasteOther })) } hpar
      have hcscu : counted.scu = _ := hscu
      have hcpls : counted.pls = s.pls := hpls
      rw [State.run?, hcscu] at hr'
      obtain rfl : _ = r' := Option.some.inj ((Vector.getElem_set_self ..).symm.trans hr')
      rw [State.inUse, State.activePress, hcpls]
      exact h
  case speed =>
    intro x taken after
    have hafter : State.sourceAfter x = after := by
      show (if x.source.held = true then _ else _) = (if x.source = .hold ∨ x.source = .nominal then _ else _)
      cases x.source <;> rfl
    have hcounted (pending : Nat) (hp : (if x.interval = some 0 then min 16777215 (x.pendingInc + inc) else 0) = pending) :
        s.setSpeed p (State.counted p inc s) = taken after pending := by
      rw [State.counted, hp, hafter]
    refine ⟨fun h => ?_, fun h => ?_, fun k hk => ?_⟩
    · rw [State.countSpeed_of_unsampled (.inr (by simp only [State.sampleOf?, show (s.speed p).interval = none from h]))]
      exact hcounted 0 (by rw [h]; rfl)
    · rw [State.countSpeed_of_unsampled (.inr (by simp only [State.sampleOf?, show (s.speed p).interval = some 0 from h]))]
      exact hcounted _ (if_pos h)
    · intro sample
      have hpending := hcounted 0 (by rw [hk]; exact if_neg fun h => nomatch h)
      have hsample : s.sampleOf? p inc = if s.inUse p then some sample else none := by
        simp only [State.sampleOf?, show (s.speed p).interval = some (k + 1) from hk]
        rfl
      refine ⟨fun h => ?_, fun hsecondary huse => ?_⟩
      · rw [State.countSpeed_of_unsampled, hpending]
        rcases h with h | h | h
        · exact .inl (by rw [hafter]; simp [after, h])
        · exact .inl (by rw [hafter]; simp [after, h])
        · exact .inr (by rw [hsample, h]; rfl)
      · rw [State.countSpeed_of_sampled (hafter.trans hsecondary) (hsample.trans (if_pos huse)), hpending, hsecondary]

end Sys2Proof.Machine
end

section
/-! PROOFS. The block and the monitor, the prediction tick, and the roll search's step (R133, R137, R142, R161, R162). -/

namespace Sys2Proof.Machine

theorem Holds.none_iff (h : Holds) : h.none = true ↔ h = ⟨false, false, false, false, false⟩ := by
  refine ⟨fun hnone => ?_, fun he => by rw [he]; rfl⟩
  by_contra hne
  exact nomatch hnone.symm.trans (Holds.none_eq_false hne)

/-! ### The monitor (R162) -/

/-- The model's comparison of sums is the manual's of a signed difference. -/
theorem add_lt_iff_lt_sub (r b h : Nat) : r + h < b ↔ (r : Int) < (b : Int) - h := by omega

theorem Monitor.next_warn (r warn alarm h : Nat) :
    Monitor.next .warn r warn alarm h = if alarm ≤ r then .alarm else if (r : Int) < (warn : Int) - h then .ok else .warn := by
  simp only [← add_lt_iff_lt_sub]
  rfl

theorem Monitor.next_alarm (r warn alarm h : Nat) :
    Monitor.next .alarm r warn alarm h =
      if (r : Int) < (warn : Int) - h then .ok else if (r : Int) < (alarm : Int) - h then .warn else .alarm := by
  simp only [← add_lt_iff_lt_sub]
  rfl

namespace State

variable {s : State}

/-! ### The block (R161) -/

section Block

variable {p : PressIx}

theorem updPress_updPress (p : PressIx) (f g : PressRec → PressRec) (s : State) :
    (s.updPress p f).updPress p g = s.updPress p fun x => g (f x) := by
  rw [updPress, press_updPress, if_pos rfl, updPress, updPress]
  simp only [Vector.set_set]

theorem countBlock_of_good {g w : Nat} {r : Run} (hr : s.run? p = some r) (hphase : r.phase = .good) (huse : s.inUse p = true) :
    s.countBlock p g w =
      let u := s.updPress p fun x => { x with blockCopies := add32 x.blockCopies (g + w), blockWaste := add32 x.blockWaste w }
      if (s.activePress p).block ≤ add32 (s.press p).blockCopies (g + w) then u.completeBlock p else u := by
  have hgood : (s.run? p).map Run.phase = some .good := by rw [hr, Option.map_some, hphase]
  unfold countBlock
  rw [if_pos ⟨hgood, huse⟩]
  simp only [press_updPress, if_true]
  rfl

theorem monitorFlag_of_quiet {old new : Monitor} (h : new = old ∨ new = .ok) : s.monitorFlag p old new = s := by
  unfold monitorFlag
  split
  · rfl
  next hne =>
    obtain rfl := h.resolve_left (Ne.symm hne)
    rfl

theorem monitorFlag_of_moved {old new : Monitor} (hne : new ≠ old) :
    (new = .warn → s.monitorFlag p old new = s.raise .wasteWarn (num p)) ∧
      (new = .alarm → s.monitorFlag p old new = s.raise .wasteAlarm (num p)) :=
  ⟨fun h => by subst h; exact if_neg hne.symm, fun h => by subst h; exact if_neg hne.symm⟩

end Block

/-! ### The prediction tick (R133, R142) -/

theorem judgeOverdue_of_due {st : StandIx} {c : Call} {id : RollId} (hc : s.call? st = some c) (hphase : c.phase = .selected id)
    (hover : c.overdue = false) (hdue : c.due < s.second) :
    s.judgeOverdue st = (s.putCall { c with overdue := true }).raise .callOverdue (num st) := by
  simp only [judgeOverdue, hc, hphase, hover, hdue, decide_true, Bool.not_false, Bool.and_self, if_true]

theorem judgeOverdue_of_timely {st : StandIx} {c : Call} (hc : s.call? st = some c)
    (h : (∀ id, c.phase ≠ .selected id) ∨ c.overdue = true ∨ s.second ≤ c.due) : s.judgeOverdue st = s := by
  simp only [judgeOverdue, hc]
  split
  next id hphase =>
    refine if_neg fun hboth => ?_
    obtain ⟨hover, hdue⟩ := (Bool.and_eq_true ..).mp hboth
    rcases h with h | h | h
    · exact h id hphase
    · rw [h] at hover
      exact nomatch hover
    · exact Nat.not_lt.2 h (of_decide_eq_true hdue)
  next => rfl

theorem deadReckon_of_unthreaded {st : StandIx} (h : (s.stand st).active = none) : s.deadReckon st = s := by
  simp only [deadReckon, h]

theorem deadReckon_of_known {st : StandIx} {p : PressIx} {id : RollId} {k : Nat} {r : Roll} (hpar : s.noParity)
    (hpress : (s.stand st).press = some p) (hactive : (s.stand st).active = some id) (hr : s.findRoll id = some (k, r)) :
    s.deadReckon st =
      let x := s.stand st
      let sum := (s.speed p).estimate + x.carry
      let u := (s.setSlot k { r with lr := x.lr - sum / 6 }).setStand st { x with lr := x.lr - sum / 6, carry := sum % 6 }
      if s.inLead st then (if x.lr ≠ 0 ∧ x.lr - sum / 6 = 0 then u.starveTest st else u) else s := by
  have hspeed : s.standSpeed st = (s.speed p).estimate := by simp only [standSpeed, hpress]
  unfold deadReckon
  rw [hactive]
  dsimp only
  rw [updRoll_of_noParity hpar hr, hspeed]
  rfl

/-! ### The roll search (R137) -/

theorem readCandidate_of_noParity (k : Nat) (h : s.noParity) : s.readCandidate k = s := by
  unfold readCandidate
  rw [readSlot_of_noParity h]
  dsimp only
  split
  · exact readPlace_of_noParity h _
  · rfl

theorem searchStep_of_running {x : Search} (hrun : s.running = true) (hpar : s.noParity) (hx : s.fdu.search = some x) :
    s.searchStep =
      if x.next ≤ s.tmc.sizes.rolls then
        s.setSearch (some { x with next := x.next + 1, best := bestOf x.best (s.candidate? x.stand x.next) })
      else s := by
  simp only [searchStep, hx, hrun, true_and, readCandidate_of_noParity _ hpar, Option.map_some]

theorem candidate?_of_free {st : StandIx} {k : Nat} (h : s.slot? k = none) : s.candidate? st k = none := by
  simp only [candidate?, h]

theorem candidate?_of_away {st : StandIx} {k : Nat} {r : Roll} (h : s.slot? k = some r) (hstatus : ∀ p, r.status ≠ .stored p) :
    s.candidate? st k = none := by
  simp only [candidate?, h]

theorem fits_iff {st : StandIx} {r : Roll} : s.fits st r = true ↔
    r.grade = (s.activeStand st).grade ∧ r.width = (s.activeStand st).width ∧ 10 * (s.activeStand st).minLength ≤ r.lr := by
  simp only [fits, Roll.differs, Bool.and_eq_true, Bool.not_eq_true', decide_eq_true_eq, decide_eq_false_iff_not, not_or,
    not_not, and_assoc]

theorem candidate?_of_stored {st : StandIx} {k p : Nat} {r : Roll} (h : s.slot? k = some r) (hstatus : r.status = .stored p) :
    s.candidate? st k =
      if (r.holds = ⟨false, false, false, false, false⟩ ∧ s.callNaming? r.id = none ∧ r.grade = (s.activeStand st).grade ∧
        r.width = (s.activeStand st).width ∧ 10 * (s.activeStand st).minLength ≤ r.lr) ∧ (s.place p).blocked = false then
        some { slot := k, roll := r.id, hasRun := r.hasRun, announced := r.announced, place := p }
      else none := by
  simp only [candidate?, h, hstatus, Bool.and_eq_true, Bool.not_eq_true', Option.isNone_iff_eq_none, Holds.none_iff, fits_iff, and_assoc]

end State

/-- The order of candidates of R137. -/
theorem Candidate.better_iff (a b : Candidate) : a.better b = true ↔
    (a.hasRun = true ∧ b.hasRun = false) ∨
      (a.hasRun = b.hasRun ∧ (a.announced.toNat < b.announced.toNat ∨ (a.announced = b.announced ∧ a.place < b.place))) := by
  unfold Candidate.better
  split
  next hrun =>
    have hflip : b.hasRun = !a.hasRun := by
      cases ha : a.hasRun <;> cases hb : b.hasRun <;> simp_all
    simp [hflip]
  next hrun =>
    have hsame : a.hasRun = b.hasRun := not_not.1 hrun
    split
    next hann => simp [hsame, hann]
    next hann => simp [hsame, not_not.1 hann]

/-- Settles O35: the monitor's rows, and the block by its size and the state it brings. -/
theorem blockMovesMonitor : Obligations.BlockMovesMonitor := by
  refine ⟨fun m r warn alarm h => ⟨fun hm => by rw [hm]; rfl, fun hm => by rw [hm, Monitor.next_warn],
    fun hm => by rw [hm, Monitor.next_alarm]⟩, fun p g w run s hr => ?_⟩
  intro x plan copies waste r m written done
  refine ⟨fun h => State.countBlock_of_barred fun r' hr' => ?_, fun hphase huse => ?_⟩
  · rwa [← Option.some.inj (hr.symm.trans hr')]
  · have hblock := State.countBlock_of_good (g := g) (w := w) hr hphase huse
    let u := s.updPress p fun x => { x with blockCopies := add32 x.blockCopies (g + w), blockWaste := add32 x.blockWaste w }
    have hdone : u.completeBlock p = done.monitorFlag p x.monitor m := by
      have hx : u.press p = { x with blockCopies := copies, blockWaste := waste } := (State.press_updPress ..).trans (if_pos rfl)
      unfold State.completeBlock
      rw [hx]
      exact congrArg (State.monitorFlag p x.monitor m) (State.updPress_updPress ..)
    refine ⟨fun hfew => hblock.trans (if_neg (Nat.not_le.2 hfew)), fun hfull => ?_⟩
    have hfinal : s.countBlock p g w = done.monitorFlag p x.monitor m := (hblock.trans (if_pos hfull)).trans hdone
    exact ⟨fun h => hfinal.trans (State.monitorFlag_of_quiet h),
      fun hne h => hfinal.trans ((State.monitorFlag_of_moved hne).1 h),
      fun hne h => hfinal.trans ((State.monitorFlag_of_moved hne).2 h)⟩

/-- Settles O36: the tick, one stand's dead reckoning, and its call. -/
theorem predictionTickDeadReckons : Obligations.PredictionTickDeadReckons := by
  refine ⟨fun s hrst hrun hdue => ?_, fun s hdue => ?_, fun st p id k r s => ?_, fun st s => State.deadReckon_of_unthreaded,
    fun st c s hc => ⟨fun id hphase hover hdue => State.judgeOverdue_of_due hc hphase hover hdue, State.judgeOverdue_of_timely hc⟩⟩
  · show awake _ s = _
    rw [awake_of_rstHigh _ hrst, State.onDue_of_due _ _ hdue]
    exact congrArg Host.Outcome.next (if_pos hrun)
  · show Host.Outcome.next (if s.pins.rstLow then s else s.onDue .prediction State.running State.predict) = _
    rw [State.onDue_of_absent _ _ hdue, ite_self]
  · intro x hpar hpress hactive hr sum u
    have hreckoned := State.deadReckon_of_known hpar hpress hactive hr
    refine ⟨fun hlead => hreckoned.trans (if_neg (by rw [hlead]; decide)), fun hlead h => ?_, fun hlead hpaper hgone => ?_⟩
    · exact hreckoned.trans ((if_pos hlead).trans (if_neg fun hboth => h.elim hboth.1 fun h => h hboth.2))
    · exact hreckoned.trans ((if_pos hlead).trans (if_pos ⟨hpaper, hgone⟩))

/-- Settles O37: the step, what makes a slot a candidate, and which of two is kept. -/
theorem searchStepKeepsBest : Obligations.SearchStepKeepsBest := by
  refine ⟨fun x s hrst hrun hpar hx => ⟨fun hnext => ?_, fun hnext => ?_⟩, fun st k s => ⟨State.candidate?_of_free, fun r hr => ?_⟩,
    fun a b => ⟨rfl, rfl, rfl, ?_, Candidate.better_iff a b⟩⟩
  · show awake _ s = _
    rw [awake_of_rstHigh _ hrst, State.searchStep_of_running hrun hpar hx, if_pos hnext]
    rfl
  · show awake _ s = _
    rw [awake_of_rstHigh _ hrst, State.searchStep_of_running hrun hpar hx, if_neg (Nat.not_le.2 hnext)]
  · intro fit
    refine ⟨State.candidate?_of_away hr, fun p hp => ?_⟩
    have hcandidate := State.candidate?_of_stored (st := st) hr hp
    refine ⟨fun hfit hfree => hcandidate.trans (if_pos ⟨hfit, hfree⟩), fun h => hcandidate.trans (if_neg fun hboth => ?_)⟩
    rcases h with h | h
    · exact h hboth.1
    · exact nomatch h.symm.trans hboth.2
  · exact apply_ite some ..

end Sys2Proof.Machine
end

section
/-! PROOFS. The completion of a roll search, and the availability notice (R11, R138, R140). -/

namespace Sys2Proof.Machine

namespace State

variable {s : State} {c : Call}

/-! ### The only call -/

theorem putCall_of_single {d : Call} (hcalls : s.fdu.calls = [c]) (hstand : d.stand = c.stand) : s.putCall d = s.setCalls [d] := by
  have hfilter : (s.fdu.calls.filter fun x => decide (x.stand ≠ d.stand)) = [] := by
    rw [hcalls, List.filter_cons_of_neg (by simp [hstand]), List.filter_nil]
  exact congrArg (fun l => s.setCalls (insertCall d l)) hfilter

theorem call?_of_single (hcalls : s.fdu.calls = [c]) : s.call? c.stand = some c := by
  rw [call?, hcalls]
  exact List.find?_cons_of_pos (decide_eq_true rfl)

theorem startSearch_of_unopened (h : ∀ c ∈ s.fdu.calls, c.phase ≠ .opened ∨ c.noRoll = true) : s.startSearch = s :=
  startSearch_of_barred (.inr (.inr h))

theorem tryCalls_of_mode (h : s.sfu.mode ≠ .autonomous) : s.tryCalls = s := if_neg h

theorem sendCall_of_uncollected (h : s.sfu.collector = 0) : s.sendCall c = s := if_pos h

theorem sendCall_of_collected {id : RollId} (h : s.sfu.collector ≠ 0) (hid : c.phase.roll? = some id) :
    s.sendCall c = s.placeUpper ⟨s.sfu.collector, s.ownAddr, clsCall,
      be8 (num c.stand) ++ beWord id ++ be16 (s.callPlace id) ++ be32 c.due⟩ := by
  rw [sendCall, if_neg h, hid]

/-! ### The completion of a scan (R138) -/

theorem callPlace_of_reserved {id : RollId} {k p : Nat} {r : Roll} {o : Owner} (hr : s.findRoll id = some (k, r))
    (hstatus : r.status = .reserved p o) : s.callPlace id = p := by
  simp only [callPlace, roll?_of_findRoll hr, hstatus]

section Complete

variable {x : Search}

/-- The scan is complete for the only call. -/
theorem searchComplete_of_single (hrun : s.running = true) (hx : s.fdu.search = some x) (hcalls : s.fdu.calls = [c])
    (hstand : c.stand = x.stand) (hover : s.tmc.sizes.rolls < x.next) (hpar : s.noParity) :
    s.searchComplete =
      match x.best with
      | some b =>
        match s.candidate? x.stand b.slot with
        | some y => if y.roll = b.roll then s.reserveFor c y.slot y.place else s.restartSearch x.stand
        | none => s.restartSearch x.stand
      | none => if x.noticed then s.restartSearch x.stand else s.foundNothing c := by
  have hcall : s.call? x.stand = some c := hstand ▸ call?_of_single hcalls
  unfold searchComplete
  simp only [hx, hcall, readCandidate_of_noParity _ hpar]
  exact if_pos ⟨hrun, hover⟩

/-- The state with the roll reserved and the call on it, before the CALL. -/
def chosenFor (c : Call) (k p : Nat) (r : Roll) (s : State) : State :=
  { s with
    tmc := { s.tmc with rolls := Table.insert k { r with status := .reserved p (.call c.stand) } s.tmc.rolls }
    fdu := { s.fdu with search := none, calls := [{ c with phase := .selected r.id }] } }

theorem reserveFor_of_single {k p : Nat} {r : Roll} (hmode : s.sfu.mode = .normal) (hpar : s.noParity) (hcalls : s.fdu.calls = [c])
    (hr : s.slot? k = some r) :
    s.reserveFor c k p = (s.chosenFor c k p r).sendCall { c with phase := .selected r.id } := by
  let d : Call := { c with phase := .selected r.id }
  let u := s.chosenFor c k p r
  have hslot : s.setSlot k { r with status := .reserved p (.call c.stand) } = { s with tmc := { s.tmc with
      rolls := Table.insert k { r with status := .reserved p (.call c.stand) } s.tmc.rolls } } := by
    rw [setSlot, hpar.1, List.filter_nil, ← hpar.1]
  have hselect : (((s.setSlot k { r with status := .reserved p (.call c.stand) }).setSearch none).selectCall c r.id) = u.sendCall d := by
    have hput : ((s.setSlot k { r with status := .reserved p (.call c.stand) }).setSearch none).putCall d = u := by
      rw [hslot]
      exact congrArg (fun t : State => t) (putCall_of_single (d := d) hcalls rfl)
    rw [selectCall, hput]
    exact if_pos hmode
  have hsent : Moves [.ltu, .flags] u (u.sendCall d) := Moves.sendCall ..
  have hquiet : (u.sendCall d).tryCalls = u.sendCall d := tryCalls_of_mode (by
    rw [show (u.sendCall d).sfu.mode = s.sfu.mode from hsent.same .mode (by decide), hmode]
    decide)
  have hstart : (u.sendCall d).startSearch = u.sendCall d := startSearch_of_unopened (by
    rw [show (u.sendCall d).fdu.calls = [d] from (Prod.mk.inj (hsent.same .calls (by decide))).1]
    intro b hb
    rw [List.mem_singleton.1 hb]
    exact .inl fun h => nomatch h)
  simp only [reserveFor, hr]
  rw [hselect, hquiet, hstart]

theorem foundNothing_of_single (hcalls : s.fdu.calls = [c]) :
    s.foundNothing c = State.raise .noRoll (num c.stand)
      { s with fdu := { s.fdu with search := none, calls := [{ c with phase := .opened, noRoll := true }] } } := by
  let u : State := { s with fdu := { s.fdu with search := none, calls := [{ c with phase := .opened, noRoll := true }] } }
  have hput : (s.putCall { c with phase := .opened, noRoll := true }).setSearch none = u := by
    rw [putCall_of_single (d := { c with phase := .opened, noRoll := true }) hcalls rfl]
    rfl
  unfold foundNothing
  rw [hput]
  refine startSearch_of_unopened fun b hb => ?_
  rw [(LinkOp.raise ..).fdu_eq] at hb
  rw [List.mem_singleton.1 hb]
  exact .inr rfl

end Complete

/-! ### The availability notice (R11, R138) -/

/-- The calls with their no-roll marks cleared. -/
def unmarkedCalls (s : State) : List Call := s.fdu.calls.map fun c => { c with noRoll := false }

theorem availability_of_searching {x : Search} (hx : s.fdu.search = some x) :
    s.availability = { s with fdu := { s.fdu with calls := s.unmarkedCalls, search := some { x with noticed := true } } } := by
  rw [availability, hx]
  exact startSearch_of_barred (.inr (.inl (Option.some_ne_none _)))

theorem availability_of_unsearched (hx : s.fdu.search = none) :
    s.availability = startSearch { s with fdu := { s.fdu with calls := s.unmarkedCalls } } := by
  rw [availability, hx, Option.map_none]
  refine congrArg startSearch ?_
  rw [setSearch, ← hx]
  rfl

theorem availability_of_first {before after : List Call} (hx : s.fdu.search = none) (hrun : s.running = true)
    (hcalls : s.fdu.calls = before ++ c :: after) (hbefore : ∀ b ∈ before, b.phase ≠ .opened) (hphase : c.phase = .opened)
    (hordered : s.callsOrdered) :
    s.availability = { s with fdu := { s.fdu with
      calls := s.unmarkedCalls.map fun d => if d.stand = c.stand then { d with phase := .searching } else d
      search := some { stand := c.stand } } } := by
  let f (c : Call) : Call := { c with noRoll := false }
  let g (d : Call) : Call := if d.stand = c.stand then { d with phase := .searching } else d
  have hsplit : s.unmarkedCalls = before.map f ++ f c :: after.map f := by
    rw [unmarkedCalls, hcalls, List.map_append, List.map_cons]
  have hordered' : ({ s with fdu := { s.fdu with calls := s.unmarkedCalls } } : State).callsOrdered :=
    List.pairwise_map.2 hordered
  have hpairs : (before ++ c :: after).Pairwise callPair := hcalls ▸ hordered
  obtain ⟨-, hlater, hcross⟩ := List.pairwise_append.1 hpairs
  have hsearching : s.unmarkedCalls.map g = before.map f ++ { f c with phase := .searching } :: after.map f := by
    have hkept {l : List Call} (hl : ∀ b ∈ l, b.stand ≠ c.stand) : (l.map f).map g = l.map f := by
      rw [List.map_map]
      exact List.map_congr_left fun b hb => if_neg (hl b hb)
    rw [hsplit, List.map_append, List.map_cons, hkept fun b hb => (hcross b hb c List.mem_cons_self).2,
      hkept fun b hb => ((List.pairwise_cons.1 hlater).1 b hb).2.symm, show g (f c) = { f c with phase := .searching } from if_pos rfl]
  rw [availability_of_unsearched hx, hsearching]
  refine startSearch_of_first (before := before.map f) (c := f c) (after := after.map f) hrun hx hsplit hphase rfl (fun b hb => ?_)
    hordered'
  obtain ⟨b', hb', rfl⟩ := List.mem_map.1 hb
  exact .inl (hbefore b' hb')

end State

/-- Settles O38: the complete scan by its best candidate, and the notice by the search in flight. -/
theorem searchCompletesAndStartsAgain : Obligations.SearchCompletesAndStartsAgain := by
  refine ⟨fun x c s hrst hmode hpar hx hcalls hstand hover => ?complete, fun s => ?notice⟩
  case complete =>
    intro anew
    have hrun : s.running = true := decide_eq_true (.inl hmode)
    have hcomplete := State.searchComplete_of_single hrun hx hcalls hstand hover hpar
    have answers {t : State} (h : s.searchComplete = t) : exec .searchComplete s = .next t := by
      show awake _ s = _
      rw [awake_of_rstHigh _ hrst, h]
    refine ⟨fun b r hbest hcandidate hr => ?_, fun b hbest hcandidate => answers ?_, fun hbest hnoticed => answers ?_,
      fun hbest hnoticed => answers ?_⟩
    · intro chosen
      have hchosen : s.chosenFor c b.slot b.place r = chosen := by
        simp only [State.chosenFor, chosen, hstand]
      have hreserve : s.searchComplete = chosen.sendCall { c with phase := .selected r.id } := by
        rw [hcomplete, hbest]
        simp only [hcandidate, if_true]
        rw [State.reserveFor_of_single hmode hpar hcalls hr, hchosen]
      refine ⟨fun h => answers (hreserve.trans (State.sendCall_of_uncollected h)), fun h hfind => answers ?_⟩
      have hplace : chosen.callPlace r.id = b.place :=
        State.callPlace_of_reserved (s := chosen) (r := { r with status := .reserved b.place (.call x.stand) })
          (State.findRoll_setSlot (s := s) hfind rfl) rfl
      rw [hreserve, State.sendCall_of_collected (id := r.id) (by exact h) rfl, hplace, ← hstand]
      rfl
    · rw [hcomplete, hbest]
      simp only [hcandidate]
      rfl
    · rw [hcomplete, hbest, hnoticed]
      rfl
    · rw [hcomplete, hbest, hnoticed, ← hstand]
      exact State.foundNothing_of_single hcalls
  case notice =>
    intro unmarked
    refine ⟨fun x hx => State.availability_of_searching hx, fun hx => ⟨fun h => ?_, fun before c after hrun hcalls hbefore hphase hordered =>
      State.availability_of_first hx hrun hcalls hbefore hphase hordered⟩⟩
    rw [State.availability_of_unsearched hx]
    refine State.startSearch_of_barred (h.imp_right fun h => .inr fun b hb => ?_)
    obtain ⟨b', hb', rfl⟩ := List.mem_map.1 hb
    exact .inl (h b' hb')

end Sys2Proof.Machine
end

section
/-! PROOFS. Autonomous running (R140, R178, R181). -/

namespace Sys2Proof.Machine

namespace State

variable {s : State} {c : Call}

/-! ### Calls in SELECTED -/

/-- In an ordered list a stand has one call. -/
theorem call?_of_mem (hordered : s.callsOrdered) (hc : c ∈ s.fdu.calls) : s.call? c.stand = some c := by
  have hnodup : (s.fdu.calls.map Call.stand).Nodup := List.pairwise_map.2 (hordered.imp fun h => h.2)
  exact find?_of_unique hc (decide_eq_true rfl) fun d hd hp =>
    List.inj_on_of_nodup_map hnodup hd hc (of_decide_eq_true hp)

theorem selectedRoll?_of_unselected (h : ∀ c ∈ s.fdu.calls, ∀ id, c.phase ≠ .selected id) (st : StandIx) :
    s.selectedRoll? st = none := by
  unfold selectedRoll?
  split
  next id hid =>
    obtain ⟨c, hc, hphase⟩ := Option.map_eq_some_iff.1 hid
    exact absurd hphase (h c (List.mem_of_find?_eq_some hc) id)
  next => rfl

theorem selectedRoll?_of_call {st : StandIx} (hc : s.call? st = some c) :
    s.selectedRoll? st = match c.phase with
      | .selected id => some id
      | _ => none := by
  simp only [selectedRoll?, hc, Option.map_some]
  cases c.phase <;> rfl

theorem tryCalls_of_unselected (h : ∀ c ∈ s.fdu.calls, ∀ id, c.phase ≠ .selected id) : s.tryCalls = s := by
  unfold tryCalls
  split
  · exact foldl_eq_self fun st _ => by simp only [tryCall, selectedRoll?_of_unselected h st]
  · rfl

/-! ### RESUME (R181) -/

/-- Two states with the same calls, rolls, collector and address. -/
def sameCalls (a b : State) : Prop :=
  b.fdu.calls = a.fdu.calls ∧ b.tmc = a.tmc ∧ b.sfu.collector = a.sfu.collector ∧ b.ownAddr = a.ownAddr

theorem sameCalls_placeUpper {a b : State} (t : Telegram) (h : a.sameCalls b) : a.sameCalls (b.placeUpper t) := by
  obtain ⟨hcalls, htmc, hcollector, hown⟩ := h
  have hmoves := Moves.placeUpper t b
  have hsfu : (b.placeUpper t).sfu.collector = b.sfu.collector := (Prod.mk.inj (hmoves.same .sfu (by decide))).1
  have haddr : (b.placeUpper t).pins.addr = b.pins.addr := (Prod.mk.inj (hmoves.same .straps (by decide))).1
  refine ⟨?_, ((LinkOp.placeUpper t).tmc_eq b).trans htmc, hsfu.trans hcollector, ?_⟩
  · rw [(LinkOp.placeUpper t).fdu_eq, hcalls]
  · rw [← hown, ownAddr, ownAddr, haddr]

/-- The CALL of a call in SELECTED as RESUME makes it. -/
def announced (s a : State) (c : Call) : State :=
  match c.phase with
  | .selected id => a.placeUpper
    ⟨s.sfu.collector, s.ownAddr, 0x61, be8 (num c.stand) ++ beWord id ++ be16 (s.callPlace id) ++ be32 c.due⟩
  | _ => a

theorem callPlace_of_tmc {a b : State} (h : b.tmc = a.tmc) (id : RollId) : b.callPlace id = a.callPlace id := by
  have hroll : b.roll? id = a.roll? id := by rw [roll?, roll?, findRoll, findRoll, h]
  simp only [callPlace, hroll]

theorem announceCall_of_call {a : State} (hpar : s.noParity) (hsame : s.sameCalls a) (hc : s.call? c.stand = some c) :
    a.announceCall c.stand = if s.sfu.collector = 0 then a else announced s a c := by
  obtain ⟨hcalls, htmc, hcollector, hown⟩ := hsame
  have hcall : a.call? c.stand = some c := by rw [call?, hcalls]; exact hc
  have hapar : a.noParity := by rw [noParity, htmc]; exact hpar
  unfold announceCall
  rw [selectedRoll?_of_call hcall]
  cases hphase : c.phase with
  | selected id =>
    simp only [readRoll_of_noParity hapar, hcall, hphase, if_true]
    split
    next h => exact sendCall_of_uncollected (hcollector.trans h)
    next h =>
      rw [sendCall_of_collected (id := id) (by rwa [hcollector]) (by rw [hphase]; rfl), announced, hphase, hcollector, hown,
        callPlace_of_tmc htmc]
      rfl
  | opened => simp [announced, hphase]
  | searching => simp [announced, hphase]
  | ordered id l => simp [announced, hphase]

theorem sameCalls_announced {a : State} (h : s.sameCalls a) (c : Call) : s.sameCalls (announced s a c) := by
  unfold announced
  split
  · exact sameCalls_placeUpper _ h
  · exact h

theorem foldl_announceCall (hpar : s.noParity) (hordered : s.callsOrdered) :
    ∀ (l : List Call) {a : State}, (∀ c ∈ l, c ∈ s.fdu.calls) → s.sameCalls a →
      (l.map Call.stand).foldl (fun a st => a.announceCall st) a =
        if s.sfu.collector = 0 then a else l.foldl (announced s) a
  | [], a, _, _ => (ite_self a).symm
  | c :: l, a, hl, hsame => by
    have hstep := announceCall_of_call hpar hsame (call?_of_mem hordered (hl c List.mem_cons_self))
    have hrest {b : State} (hb : s.sameCalls b) := foldl_announceCall hpar hordered l (a := b) (fun d hd => hl d (List.mem_cons_of_mem _ hd)) hb
    rw [List.map_cons, List.foldl_cons, hstep]
    split
    next h => rw [hrest hsame, if_pos h]
    next h => rw [hrest (sameCalls_announced hsame c), if_neg h, List.foldl_cons]

end State

/-- Settles O42: the silent link, RESUME by the mode and the collector, and the place a CALL names. -/
theorem autonomousRunning : Obligations.AutonomousRunning := by
  refine ⟨fun s hrst hdue hmode hperiod hcount hcalls => ?_, fun s hdue => ?_, fun t rest s hready => ?_⟩
  · let u : State := State.raise .autonomous 0
      { s with sfu := { s.sfu with mode := .autonomous }, due := s.due.filter (· ≠ .linkSilent) }
    have hquiet : u.tryCalls = u := State.tryCalls_of_unselected (by rw [(LinkOp.raise ..).fdu_eq]; exact hcalls)
    show awake _ s = _
    rw [awake_of_rstHigh _ hrst, State.onDue_of_due _ _ hdue]
    exact congrArg Host.Outcome.next ((if_pos (State.linkSilent_iff.2 ⟨hmode, hperiod, hcount⟩)).trans hquiet)
  · show Host.Outcome.next (if s.pins.rstLow then s else s.onDue .linkSilent State.linkSilent State.goAutonomous) = _
    rw [State.onDue_of_absent _ _ hdue, ite_self]
  · intro w
    let u : State := { w with sfu := { s.sfu with mode := .normal, linkCount := 0 } }
    have hresumed {v : State} (hmode : s.sfu.mode = .autonomous)
        (h : (w.fdu.calls.map Call.stand).foldl (fun s st => s.announceCall st) u = v) :
        exec .resume s = .next (v.reply t { result := .ok }) :=
      served hready ((if_pos hmode).trans (by rw [← h]; rfl))
    refine ⟨fun hmode => served hready (if_neg hmode), fun hmode => ?_, fun hmode hpar hordered => ?_, fun id k r hr =>
      ⟨fun p o h => State.callPlace_of_reserved hr h, fun x h => ?_⟩⟩
    · intro _ hcalls
      exact hresumed hmode (foldl_eq_self fun st _ => by
        simp only [State.announceCall, State.selectedRoll?_of_unselected (s := u) hcalls st])
    · intro _ announced
      have hfold := State.foldl_announceCall hpar hordered s.fdu.calls (a := u) (fun _ h => h) ⟨rfl, rfl, rfl, rfl⟩
      refine ⟨fun h => hresumed hmode (hfold.trans (if_pos h)), fun h => hresumed hmode (hfold.trans (if_neg h))⟩
    · simp only [State.callPlace, State.roll?_of_findRoll hr, h]

end Sys2Proof.Machine
end

section
/-! PROOFS. How the oldest request is executed, and the form check (R187). -/

namespace Sys2Proof.Machine

/-! ### The oldest request -/

/-- Every row executes the oldest request when it is its own, by what the row does. -/
theorem exec_command (row : Row) : ∃ run : Telegram → State → State, ∀ s, exec row.command s = awake (State.takeRequest row run) s := by
  cases row <;> exact ⟨_, fun _ => rfl⟩

namespace State

variable {row : Row} {run : Telegram → State → State} {t : Telegram} {rest : List Telegram} {s : State}

theorem takeRequest_of_empty (h : s.mga.queue = []) : s.takeRequest row run = s := by
  simp only [takeRequest, h]

theorem takeRequest_of_other (h : s.mga.queue = t :: rest) (hrow : row ≠ rowOf t) : s.takeRequest row run = s := by
  simp only [takeRequest, h, if_neg hrow.symm]

theorem takeRequest_of_startUp (h : s.mga.queue = t :: rest) (hmode : s.sfu.mode = .startUp) :
    s.takeRequest (rowOf t) run = (s.popped rest).reply t { result := .notReady } := by
  have hpopped : (s.popped rest).sfu.mode = .startUp := hmode
  simp only [takeRequest, h, if_true, hpopped]

theorem takeRequest_of_malformed {r : Result} (h : s.mga.queue = t :: rest) (hmode : s.sfu.mode ≠ .startUp)
    (hform : formCheck t = some r) : s.takeRequest (rowOf t) run = (s.popped rest).reply t { result := r } := by
  have hpopped : (s.popped rest).sfu.mode ≠ .startUp := hmode
  simp only [takeRequest, h, if_true, if_neg hpopped, hform]

end State

/-! ### The form check -/

section Form

variable {t : Telegram}

/-- The record size of R188 and R168, by the table code; the index parts the press plans and the runs from the rest. -/
def tableSize (code i : Nat) : Nat :=
  match code with
  | 1 => 4 | 2 => 5 | 3 => 23 | 4 => 40 | 5 => 9 | 6 => 34 | 7 => 31 | 8 => 24 | 11 => 4 | 12 => 13 | 14 => 15
  | 13 => if i ≤ 4 then 43 else 36
  | _ => if i ≤ 4 then 18 else 10

theorem recordSize_of_table {code : Nat} (hlow : 1 ≤ code) (hhigh : code ≤ 14) (i : Nat) :
    recordSize code i = some (tableSize code i) := by
  interval_cases code <;> rfl

theorem recordSize_of_undefined {code : Nat} (h : code = 0 ∨ 14 < code) (i : Nat) : recordSize code i = none := by
  unfold recordSize
  split <;> first | omega | rfl

theorem recordsSize_of_table {code : Nat} (hlow : 1 ≤ code) (hhigh : code ≤ 14) (index count : Nat) :
    recordsSize code index count = ((List.range count).map fun k => tableSize code (index + k)).sum := by
  simp only [recordsSize, recordSize_of_table hlow hhigh, Option.getD_some]

/-- The argument bytes of R190, by the action code. -/
def actionSize (code : Nat) : Nat :=
  match code with
  | 4 => 6 | 8 => 5 | 9 | 10 | 20 => 4 | 11 | 12 | 17 => 3 | 6 | 7 | 13 | 14 | 15 | 16 | 18 => 1 | _ => 0

theorem argumentSize_of_action {code : Nat} (hlow : 1 ≤ code) (hhigh : code ≤ 20) : argumentSize code = some (actionSize code) := by
  interval_cases code <;> rfl

theorem argumentSize_of_undefined {code : Nat} (h : code = 0 ∨ 20 < code) : argumentSize code = none := by
  unfold argumentSize
  split <;> first | omega | rfl

/-- The length a table request must have. -/
def tableLength (t : Telegram) : Nat :=
  if t.cls = clsMread then 4 else 4 + recordsSize (reqCode t) (reqIndex t) (reqCount t)

theorem formCheck_of_table (h : t.cls = clsMread ∨ t.cls = clsMwrite) :
    formCheck t =
      if (recordSize (reqCode t) 0).isNone then some .badTable
      else if t.body.length ≠ tableLength t then some .badValue
      else if reqCount t = 0 then some .badIndex
      else none := by
  unfold formCheck tableLength
  by_cases hread : t.cls = clsMread
  · simp only [if_pos hread]
  · simp only [if_neg hread, if_pos (h.resolve_left hread)]

theorem formCheck_of_action (h : t.cls = clsMact) :
    formCheck t =
      match argumentSize (reqCode t) with
      | some n => if t.body.length ≠ 1 + n then some .badValue else none
      | none => some .badAction := by
  unfold formCheck
  rw [h, if_neg (by decide), if_neg (by decide), if_pos rfl] <;> rfl

theorem formCheck_of_roll (h : t.cls = clsMroll) : formCheck t = if t.body.length ≠ 6 then some .badValue else none := by
  unfold formCheck
  rw [h, if_neg (by decide), if_neg (by decide), if_neg (by decide), if_pos rfl]

theorem formCheck_of_unlisted (h : t.cls ≠ clsMread ∧ t.cls ≠ clsMwrite ∧ t.cls ≠ clsMact ∧ t.cls ≠ clsMroll) :
    formCheck t = some .badAction := by
  obtain ⟨hread, hwrite, hact, hroll⟩ := h
  unfold formCheck
  rw [if_neg hread, if_neg hwrite, if_neg hact, if_neg hroll]

theorem writeRow_ne_badAction (code : Nat) : writeRow code ≠ .badAction := by
  unfold writeRow
  split <;> exact fun h => nomatch h

theorem rollRow_ne_badAction (action : Byte) : rollRow action ≠ .badAction := by
  unfold rollRow
  split <;> exact fun h => nomatch h

theorem actionRow_eq_badAction {code : Nat} {kind : Byte} (h : actionRow code kind = .badAction) : code = 0 ∨ 20 < code := by
  by_contra hdefined
  obtain ⟨hlow, hhigh⟩ : 1 ≤ code ∧ code ≤ 20 := by omega
  by_cases hkind : kind = 2#8
  · interval_cases code <;> simp [actionRow, hkind] at h
  · interval_cases code <;> simp [actionRow, hkind] at h

/-- The row without a meaning is that of an unknown class or action. -/
theorem formCheck_of_badAction (h : rowOf t = .badAction) : formCheck t = some .badAction := by
  unfold rowOf at h
  split at h
  next => exact nomatch h
  next hread =>
    split at h
    next => exact absurd h (writeRow_ne_badAction _)
    next hwrite =>
      split at h
      next hact => rw [formCheck_of_action hact, argumentSize_of_undefined (actionRow_eq_badAction h)]
      next hact =>
        split at h
        next => exact absurd h (rollRow_ne_badAction _)
        next hroll => exact formCheck_of_unlisted ⟨hread, hwrite, hact, hroll⟩

end Form

/-- Settles O43: each row by the oldest request, its reply, and the form check class by class. -/
theorem requestsAreAnsweredOnce : Obligations.RequestsAreAnsweredOnce := by
  refine ⟨⟨fun t rest s hrst hqueue => ?oldest, fun row s hqueue => ?idle, fun t a s => ⟨fun h => if_pos h, fun h => if_neg h⟩⟩,
    fun t => ?form⟩
  case oldest =>
    intro w
    have hexec (row : Row) : ∃ run : Telegram → State → State, exec row.command s = .next (s.takeRequest row run) := by
      obtain ⟨run, hrun⟩ := exec_command row
      exact ⟨run, (hrun s).trans (awake_of_rstHigh _ hrst)⟩
    obtain ⟨run, hrun⟩ := hexec (rowOf t)
    refine ⟨fun hmode => ?_, fun hmode r hform => ?_, fun hmode hbad => ?_, fun row hrow => ?_⟩
    · rw [hrun, State.takeRequest_of_startUp hqueue hmode]
    · rw [hrun, State.takeRequest_of_malformed hqueue hmode hform]
    · have hrow : exec .badActionRequest s = exec (rowOf t).command s := by rw [hbad]; rfl
      rw [hrow, hrun, State.takeRequest_of_malformed hqueue hmode (formCheck_of_badAction hbad)]
    · obtain ⟨run', hrun'⟩ := hexec row
      rw [hrun', State.takeRequest_of_other hqueue hrow]
  case idle =>
    obtain ⟨run, hrun⟩ := exec_command row
    rw [hrun]
    show Host.Outcome.next (if s.pins.rstLow then s else s.takeRequest row run) = _
    rw [State.takeRequest_of_empty hqueue, ite_self]
  case form =>
    intro code n count size
    refine ⟨formCheck_of_unlisted, fun hcls => ⟨fun h => ?_, fun hlow hhigh => ?_⟩, fun hcls => ⟨fun h => ?_, fun hlow hhigh => ?_⟩,
      fun hcls => ⟨fun h => ?_, fun h => ?_⟩⟩
    · rw [formCheck_of_table hcls, show recordSize (reqCode t) 0 = none from recordSize_of_undefined h 0]
      rfl
    · intro form
      have hsize : recordSize (reqCode t) 0 = some (tableSize (reqCode t) 0) := recordSize_of_table hlow hhigh 0
      have hlength : tableLength t = form := by
        rw [tableLength, show recordsSize (reqCode t) (reqIndex t) (reqCount t) = _ from recordsSize_of_table hlow hhigh ..]
        rfl
      have hcheck := formCheck_of_table hcls
      rw [hsize, hlength] at hcheck
      exact ⟨fun h => hcheck.trans (if_pos h), fun h hc => hcheck.trans ((if_neg (not_not.2 h)).trans (if_pos hc)),
        fun h hc => hcheck.trans ((if_neg (not_not.2 h)).trans (if_neg hc))⟩
    · rw [formCheck_of_action hcls, show argumentSize (reqCode t) = none from argumentSize_of_undefined h]
    · intro args
      have hcheck := formCheck_of_action hcls
      rw [show argumentSize (reqCode t) = some args from argumentSize_of_action hlow hhigh] at hcheck
      exact ⟨fun h => hcheck.trans (if_pos h), fun h => hcheck.trans (if_neg (not_not.2 h))⟩
    · exact (formCheck_of_roll hcls).trans (if_pos h)
    · exact (formCheck_of_roll hcls).trans (if_neg (not_not.2 h))

end Sys2Proof.Machine
end

section
/-! PROOFS. Records read with a parity error (R14, R57, R194). -/

namespace Sys2Proof.Machine

/-! ### Lengths of the fields on the line (R29, R188) -/

@[simp] theorem length_be8 (n : Nat) : (be8 n).length = 1 := rfl

@[simp] theorem length_be16 (n : Nat) : (be16 n).length = 2 := rfl

@[simp] theorem length_be32 (n : Nat) : (be32 n).length = 4 := rfl

@[simp] theorem length_beWord (w : Word) : (beWord w).length = 4 := rfl

@[simp] theorem length_beMark (b : Bool) : (beMark b).length = 1 := rfl

@[simp] theorem Loc.length_bytes (l : Loc) : l.bytes.length = 3 := rfl

@[simp] theorem length_rollIdBytes (id : Option RollId) : (rollIdBytes id).length = 4 := rfl

@[simp] theorem length_orderRefBytes (r : Option OrderRef) : (orderRefBytes r).length = 2 := by cases r <;> rfl

@[simp] theorem RollStatus.length_locBytes (x : RollStatus) : x.locBytes.length = 3 := by
  cases x with
  | carried w => cases w <;> rfl
  | _ => rfl

@[simp] theorem Roll.length_bytes (r : Roll) : r.bytes.length = 34 := by simp [Roll.bytes]

@[simp] theorem Place.length_bytes (x : Place) : x.bytes.length = 9 := by simp [Place.bytes]

theorem length_flatMap_be16 (l : List Nat) : (l.flatMap be16).length = 2 * l.length := by
  simp [List.length_flatMap, Nat.mul_comm]

theorem Route.length_bytes {r : Route} (h : r.leg.length ≤ 16) : r.bytes.length = 40 := by
  simp only [Route.bytes, List.length_append, length_flatMap_be16, List.length_replicate, List.length_singleton, length_be8,
    Loc.length_bytes]
  omega

/-! ### One record read (R188) -/

theorem fitting_of_one {room : Nat} {l : List Byte} (h : l.length ≤ room) : fitting room [l] = [l] := if_pos h

theorem readTable_of_one {t : Telegram} {k : Nat} {s : State} (hindex : reqIndex t = k) (hcount : reqCount t = 1)
    (hcode : reqCode t ≠ 14) (hlow : 1 ≤ k) (hhigh : k ≤ tableMax s (reqCode t)) (hfit : (recordBytes s (reqCode t) k).length ≤ 54) :
    s.readTable t = ({ result := .ok, data := recordBytes s (reqCode t) k, carried := 1 }, s.readRecord (reqCode t) k) := by
  have hrange : rangeOk k 1 (tableMax s (reqCode t)) = true := State.rangeOk_one hlow hhigh
  have hfitting : fitting Config.replyData ((List.range 1).map fun j => recordBytes s (reqCode t) (k + j)) =
      [recordBytes s (reqCode t) k] := fitting_of_one hfit
  unfold State.readTable
  simp only [hindex, hcount, if_neg hcode, hrange, hfitting]
  simp

namespace State

variable {s : State}

/-! ### What a read with a parity error leaves (R14, R57) -/

/-- A roll that gains its PARITY hold without an effect beyond its record. -/
def calmRoll (r : Roll) : Prop :=
  r.holds ≠ ⟨false, false, false, false, false⟩ ∨
    ((∀ st, r.status ≠ .running st) ∧ (∀ w, r.status ≠ .carried w) ∧ ∀ p st, r.status ≠ .reserved p (.call st))

theorem addHoldRead_of_calm {k : Nat} {r : Roll} {hold : HoldKind} (hr : s.findRoll r.id = some (k, r))
    (hhas : r.holds.has hold = false) (hcalm : calmRoll r) :
    s.addHoldRead r.id hold = s.setSlot k { r with holds := r.holds.add hold } := by
  by_cases hfree : r.holds.none = true
  · obtain ⟨hrunning, hcarried, hreserved⟩ := hcalm.resolve_left (not_not.2 ((Holds.none_iff _).1 hfree))
    simp only [addHoldRead, hr, hhas, hfree, Bool.false_eq_true, if_false, if_true]
  · exact addHoldRead_of_held hr hhas (by simpa using hfree)

/-- The roll's record with its PARITY hold, and no slot with an error. -/
def parityRoll (k : Nat) (r : Roll) (s : State) : State :=
  { s with tmc := { s.tmc with rolls := Table.insert k { r with holds := { r.holds with parity := true } } s.tmc.rolls, badRolls := [] } }

theorem readSlot_of_bad {k : Nat} {r : Roll} (hbad : s.tmc.badRolls = [k]) (hslot : s.slot? k = some r)
    (hr : s.findRoll r.id = some (k, r)) (hhas : r.holds.parity = false) (hcalm : calmRoll r) :
    s.readSlot k = (s.parityRoll k r).raiseParity codeRolls k := by
  have hcontains : s.tmc.badRolls.contains k = true := by rw [hbad]; simp
  have hheld := addHoldRead_of_calm (hold := .parity) hr hhas hcalm
  have hgood : (s.setSlot k { r with holds := r.holds.add .parity }).goodRoll k = s.parityRoll k r := by
    simp [goodRoll, setSlot, parityRoll, hbad, Holds.add]
  unfold readSlot
  rw [if_pos hcontains, hslot]
  dsimp only
  rw [hheld, hgood]

/-- The place blocked, and no place with an error. -/
def parityPlace (p : Nat) (s : State) : State :=
  { s with tmc := { s.tmc with places := Table.put {} p { s.place p with blocked := true } s.tmc.places, badPlaces := [] } }

theorem readPlace_of_bad {p : Nat} (hbad : s.tmc.badPlaces = [p]) : s.readPlace p = (s.parityPlace p).raiseParity codePlaces p := by
  have hset : s.setPlace p { s.place p with blocked := true } = s.parityPlace p := by simp [setPlace, parityPlace, hbad]
  unfold readPlace
  rw [hset, hbad]
  simp

/-- The route slot freed, and no slot with an error. -/
def parityRoute (k : Nat) (s : State) : State :=
  { s with tmc := { s.tmc with routes := Table.erase k s.tmc.routes, badRoutes := [] } }

theorem freeBadRoute_of_bad {k : Nat} (hbad : s.tmc.badRoutes = [k]) :
    s.freeBadRoute k = (s.parityRoute k).raiseParity codeRoutes k := by
  have hfree : s.freeRoute k = s.parityRoute k := by simp [freeRoute, parityRoute, hbad]
  rw [freeBadRoute, hfree]

/-- A lookup over places that are not read, whose only route has an error. -/
theorem lookup_of_bad {a b : Loc} {k : Nat} (hne : a ≠ b) (ha : a.kind ≠ .place) (hb : b.kind ≠ .place)
    (hbad : s.tmc.badRoutes = [k]) (honly : ∀ e ∈ s.tmc.routes, e.2.start = a → e.2.goal = b → e.1 = k) :
    s.lookup a b = (.missing, s.freeBadRoute k) := by
  have hread : (s.readLoc a).readLoc b = s := by rw [readLoc, readLoc, if_neg ha, if_neg hb]
  have hunreachable (l : Loc) (hl : l.kind ≠ .place) : s.unreachable l = false := decide_eq_false fun h => hl h.1
  have hfind : (s.tmc.routes.find? fun e => decide (e.2.start = a ∧ e.2.goal = b ∧ (!s.tmc.badRoutes.contains e.1) = true)) = none := by
    refine List.find?_eq_none.2 fun e he hp => ?_
    obtain ⟨hstart, hgoal, hgood⟩ := of_decide_eq_true hp
    rw [hbad, honly e he hstart hgoal] at hgood
    simp at hgood
  rw [hbad] at hfind
  unfold lookup
  rw [if_neg hne]
  simp only [hread, hunreachable a ha, hunreachable b hb, hfind, hbad]
  rfl

/-! ### The search and a drop over a record with an error -/

theorem readSlot_of_good (k : Nat) (h : s.tmc.badRolls = []) : s.readSlot k = s := by simp [readSlot, h]

theorem readPlace_of_good (p : Nat) (h : s.tmc.badPlaces = []) : s.readPlace p = s := by simp [readPlace, h]

theorem readRoll_of_good (id : RollId) (h : s.tmc.badRolls = []) : s.readRoll id = s := by
  unfold readRoll
  split
  · exact readSlot_of_good _ h
  · rfl

theorem raiseParity_link (code k : Nat) : LinkOp (raiseParity code k) := LinkOp.raiseField ..

theorem readCandidate_of_bad {k : Nat} {r : Roll} (hbad : s.tmc.badRolls = [k]) (hplaces : s.tmc.badPlaces = [])
    (hslot : s.slot? k = some r) (hr : s.findRoll r.id = some (k, r)) (hhas : r.holds.parity = false) (hcalm : calmRoll r) :
    s.readCandidate k = (s.parityRoll k r).raiseParity codeRolls k := by
  have hgood : ((s.parityRoll k r).raiseParity codeRolls k).tmc.badPlaces = [] := by
    rw [(raiseParity_link ..).tmc_eq]
    exact hplaces
  unfold readCandidate
  rw [readSlot_of_bad hbad hslot hr hhas hcalm]
  dsimp only
  split
  · exact readPlace_of_good _ hgood
  · rfl

theorem candidate?_of_held {st : StandIx} {k : Nat} {r : Roll} (h : s.slot? k = some r) (hheld : r.holds.none = false) :
    s.candidate? st k = none := by
  simp only [candidate?, h, hheld, Bool.false_and, Bool.false_eq_true, if_false]
  split <;> rfl

end State

/-- Settles O44: each table's record read, the search, the route lookup and the drop. -/
theorem parityErrorsHoldBlockAndFree : Obligations.ParityErrorsHoldBlockAndFree := by
  unfold Obligations.ParityErrorsHoldBlockAndFree
  intro parity calm
  refine ⟨fun t rest k s hready hindex hcount hlow => ?reads, fun x k r s hrst hrun hx hnext hhigh hbad hplaces hslot hr hhas hcalm => ?search,
    fun a b k s hne ha hb hbad honly => ?lookup, fun v p dst src number id k r s hheard hrolls hbad hnumber hlow hhigh hr hstatus => ?drop⟩
  case reads =>
    intro w answer
    have reads {code : Nat} (hcode : reqCode t = code) (hne : code ≠ 14) (hhigh : k ≤ tableMax w code)
        (hfit : (recordBytes w code k).length ≤ 54) : answer (recordBytes w code k) (w.readRecord code k) := by
      subst hcode
      exact served hready (readTable_of_one hindex hcount hne hlow hhigh hfit)
    refine ⟨fun r hcode hhigh hbad hslot hr hhas hcalm => ?_, fun hcode hhigh hbad => ?_, fun e hcode hhigh hbad he hlen => ?_⟩
    · have hbytes : recordBytes w 6 k = r.bytes := by
        simp only [recordBytes, show w.slot? k = some r from hslot]
      have hread : w.readRecord 6 k = (w.parityRoll k r).raiseParity State.codeRolls k := State.readSlot_of_bad (s := w) hbad hslot hr hhas hcalm
      have h := reads hcode (by decide) hhigh (by rw [hbytes, r.length_bytes]; decide)
      rw [hbytes, hread] at h
      exact h
    · have hread : w.readRecord 5 k = (w.parityPlace k).raiseParity State.codePlaces k := State.readPlace_of_bad (s := w) hbad
      have h := reads hcode (by decide) hhigh (by rw [show recordBytes w 5 k = (w.place k).bytes from rfl, Place.length_bytes]; decide)
      rw [hread] at h
      exact h
    · have hbytes : recordBytes w 4 k = e.bytes := by
        simp only [recordBytes, show w.route? k = some e from he]
      have hcontains : w.tmc.badRoutes.contains k = true := by
        rw [show w.tmc.badRoutes = [k] from hbad]
        simp
      have hread : w.readRecord 4 k = (w.parityRoute k).raiseParity State.codeRoutes k :=
        (if_pos hcontains).trans (State.freeBadRoute_of_bad (s := w) hbad)
      have h := reads hcode (by decide) hhigh (by rw [hbytes, Route.length_bytes hlen]; decide)
      rw [hbytes, hread] at h
      exact h
  case search =>
    intro u
    subst hnext
    have hread : s.readCandidate x.next = u := State.readCandidate_of_bad hbad hplaces hslot hr hhas hcalm
    have hlink := State.raiseParity_link State.codeRolls x.next
    have hslot' : u.slot? x.next = some { r with holds := { r.holds with parity := true } } := by
      have hrolls : u.tmc = (s.parityRoll x.next r).tmc := hlink.tmc_eq _
      rw [State.slot?, hrolls]
      exact (Table.find_insert_of_any ..).trans (if_pos rfl)
    have hcandidate : u.candidate? x.stand x.next = none := State.candidate?_of_held hslot' (by simp [Holds.none])
    have hfdu : u.fdu = s.fdu := hlink.fdu_eq _
    have hkept : State.bestOf x.best none = x.best := by cases x.best <;> rfl
    show awake _ s = _
    rw [awake_of_rstHigh _ hrst]
    refine congrArg Host.Outcome.next ?_
    simp only [State.searchStep, hx, if_pos (And.intro hrun hhigh), hread, hfdu, Option.map_some, hcandidate, hkept, State.setSearch]
  case lookup => rw [State.lookup_of_bad hne ha hb hbad honly, State.freeBadRoute_of_bad hbad]; rfl
  case drop =>
    subst hnumber
    let u := (s.parityPlace number.toNat).raiseParity State.codePlaces number.toNat
    have hlink := State.raiseParity_link State.codePlaces number.toNat
    have hl : s.keptLoc? 1 number = some ⟨.place, number.toNat⟩ := State.keptLoc?_of_kept rfl (.inl rfl) hlow hhigh
    have hread : s.readLoc ⟨.place, number.toNat⟩ = u := State.readPlace_of_bad hbad
    have hroll : u.roll? id = some r := by
      rw [State.roll?, State.findRoll, hlink.tmc_eq]
      exact State.roll?_of_findRoll hr
    have hblocked : (u.place number.toNat).blocked = true := by
      rw [hlink.place_eq]
      have hplace : (s.parityPlace number.toNat).place number.toNat = { s.place number.toNat with blocked := true } :=
        Table.get_put_of_listed (d := ({} : Place)) _ (fun h => Bool.noConfusion (congrArg Place.blocked h)) _
      rw [hplace]
    have htaken : s.dropTaken 1 number id v = u.dropCarried v ⟨.place, number.toNat⟩ id := by
      unfold State.dropTaken
      simp only [hl, State.readRoll_of_good id hrolls, hread, hroll, hstatus, if_true]
    rw [exec_vloadDrop 1 number id hheard, htaken]
    exact congrArg (fun t : State => Host.Outcome.next (t.placeUpper _)) (State.dropAtPlace_of_occupied id (.inr hblocked))

end Sys2Proof.Machine
end

section
/-! PROOFS. The records of the tables as MREAD carries them (R188, R189). -/

namespace Sys2Proof.Machine

/-! ### Which records a read takes, and what it carries -/

theorem fitting_flatten_length_le (room : Nat) (l : List (List Byte)) : (fitting room l).flatten.length ≤ room := by
  induction l generalizing room with
  | nil => exact Nat.zero_le _
  | cons r rest ih =>
    unfold fitting
    split
    case isTrue hfits =>
      have := ih (room - r.length)
      rw [List.flatten_cons, List.length_append]
      omega
    case isFalse => exact Nat.zero_le _

/-- The records carried are the first ones, and the next one does not fit. -/
theorem fitting_greatest (room : Nat) (l : List (List Byte)) :
    ∃ rest, l = fitting room l ++ rest ∧ ∀ r tail, rest = r :: tail → room < (fitting room l).flatten.length + r.length := by
  induction l generalizing room with
  | nil => exact ⟨[], rfl, fun _ _ h => nomatch h⟩
  | cons r rest ih =>
    unfold fitting
    split
    case isTrue hfits =>
      obtain ⟨left, hleft, hnext⟩ := ih (room - r.length)
      refine ⟨left, congrArg (r :: ·) hleft, fun x tail hx => ?_⟩
      have := hnext x tail hx
      rw [List.flatten_cons, List.length_append]
      omega
    case isFalse hfits =>
      refine ⟨r :: rest, rfl, fun x tail hx => ?_⟩
      obtain ⟨rfl, -⟩ := List.cons.inj hx
      simpa using hfits

namespace State

variable {s : State}

theorem readRecord_of_noParity (h : s.noParity) (code k : Nat) : s.readRecord code k = s := by
  obtain ⟨-, -, hroutes⟩ := id h
  unfold readRecord
  split
  · simp [hroutes]
  · exact readPlace_of_noParity h _
  · exact readSlot_of_noParity h _
  · rfl

theorem readRecords_of_noParity (h : s.noParity) (code i : Nat) (l : List Nat) :
    l.foldl (fun s k => s.readRecord code (i + k)) s = s := by
  induction l with
  | nil => rfl
  | cons k l ih => rw [List.foldl_cons, readRecord_of_noParity h, ih]

/-- The number of records a read asks for: of CALLS no more than the table holds (log 24). -/
def readCount (t : Telegram) : Nat :=
  if reqCode t = 14 then max 1 (min (reqCount t) (25 - reqIndex t)) else reqCount t

theorem readTable_of_noParity (t : Telegram) (h : s.noParity) (hrange : rangeOk (reqIndex t) (readCount t) (tableMax s (reqCode t)) = true) :
    s.readTable t =
      let records := fitting 54 ((List.range (readCount t)).map fun k => recordBytes s (reqCode t) (reqIndex t + k))
      ({ result := .ok, data := records.flatten, carried := records.length }, s) := by
  have hrange' := congrArg Bool.not hrange
  unfold readCount at hrange'
  unfold readTable
  simp only [hrange', readRecords_of_noParity h]
  rfl

theorem readTable_of_badIndex (t : Telegram) (hrange : rangeOk (reqIndex t) (readCount t) (tableMax s (reqCode t)) = false) :
    s.readTable t = s.answered .badIndex := by
  have hrange' := congrArg Bool.not hrange
  unfold readCount at hrange'
  unfold readTable
  simp only [hrange']
  rfl

end State

theorem cls_of_read {t : Telegram} (h : rowOf t = .mread) : t.cls = clsMread := by
  by_contra hcls
  rw [rowOf, if_neg hcls] at h
  split at h
  case isTrue => unfold writeRow at h; split at h <;> cases h
  case isFalse =>
    split at h
    case isTrue =>
      unfold actionRow at h
      split at h <;> first | cases h | (split at h <;> cases h)
    case isFalse =>
      split at h
      case isTrue => unfold rollRow at h; split at h <;> cases h
      case isFalse => cases h

/-- A read that passes the form check names at least one record (R187). -/
theorem reqCount_of_read {t : Telegram} {rest : List Telegram} {s : State} (h : Ready .mread t rest s) : reqCount t ≠ 0 := by
  obtain ⟨-, -, hrow, -, hform⟩ := h
  have hcls : t.cls = clsMread := cls_of_read hrow
  intro hcount
  rw [formCheck_of_table (.inl hcls), if_pos hcount] at hform
  split at hform
  · cases hform
  · split at hform <;> cases hform

/-! ### The lengths of the records (R188) -/

@[simp] theorem Arm.length_bytes (x : Arm) : x.bytes.length = 5 := by cases x <;> rfl

@[simp] theorem length_intervalBytes (i : Option Nat) : (intervalBytes i).length = 2 := by cases i <;> rfl

@[simp] theorem Run.length_counterBytes (r : Run) : r.counterBytes.length = 34 := rfl

theorem length_runEntryBytes (r : Option Run) : (runEntryBytes r).length = 43 := by cases r <;> rfl

theorem length_listBytes {capacity : Nat} {l : List Byte} (h : l.length ≤ capacity) : (listBytes capacity l).length = capacity + 1 := by
  simp only [listBytes, List.length_append, List.length_replicate, length_be8]
  omega

/-- A list of a record, filled with 0 up to its size. -/
def filled (n : Nat) (l : List Byte) : List Byte := l ++ List.replicate (n - l.length) 0

theorem length_filled {n : Nat} {l : List Byte} (h : l.length ≤ n) : (filled n l).length = n := by
  simp only [filled, List.length_append, List.length_replicate]
  omega

theorem length_flatMap_flagBytes (l : List Order) : (l.flatMap Order.flagBytes).length = 2 * l.length := by
  simp [List.length_flatMap, Order.flagBytes, Nat.mul_comm]

/-! ### A field of a record -/

/-- The bytes of a record from an offset on. -/
def field (l : List Byte) (offset size : Nat) : List Byte := (l.drop offset).take size

/-! ### The vehicle record -/

section Vehicle

variable (s : State) (v : VehicleIx)

/-- The vehicle record up to its claims, 29 bytes. -/
def vehicleHead (s : State) (v : VehicleIx) : List Byte :=
  let x := s.vehicle v
  [s.vehicleAddr v] ++ Loc.bytes ⟨.home, x.home⟩ ++ be8 x.window ++ [x.status.code] ++
    beMark (x.beforeLoss = .busy) ++ [x.causes.byte, x.intrusionZones] ++ x.endLoc.bytes ++ be8 x.currentSeg ++
    [x.motion] ++ beWord x.repLoad ++ beWord x.load.word ++ beWord x.lastReport ++ be8 x.supCount ++ be8 x.retryCount ++
    be8 x.claims.length

/-- Its path, and how many orders are outstanding. -/
def vehiclePath (s : State) (v : VehicleIx) : List Byte :=
  let x := s.vehicle v
  be8 ((s.waitsFor? v).getD 0) ++ be8 x.path.length ++ be8 (if x.path = [] then 0 else x.pointer + 1) ++
    be8 x.outstanding.length

def vehicleClaims (s : State) (v : VehicleIx) : List Byte := filled 4 ((s.vehicle v).claims.map fun c => BitVec.ofNat 8 c.seg)

def vehicleOrders (s : State) (v : VehicleIx) : List Byte := filled 6 ((s.vehicle v).outstanding.flatMap Order.flagBytes)

def vehicleQueue (s : State) (v : VehicleIx) : List Byte := filled 8 ((s.vehicle v).queue.flatMap Order.flagBytes)

theorem vehicleBytes_flat :
    vehicleBytes s v = vehicleHead s v ++ vehicleClaims s v ++ be8 ((s.waitsFor? v).getD 0) ++ be8 (s.vehicle v).path.length ++
      be8 (if (s.vehicle v).path = [] then 0 else (s.vehicle v).pointer + 1) ++ be8 (s.vehicle v).outstanding.length ++
      vehicleOrders s v ++ be8 (s.vehicle v).queue.length ++ vehicleQueue s v := by
  unfold vehicleBytes vehicleHead vehicleClaims vehicleOrders vehicleQueue filled
  rfl

theorem vehicleBytes_eq :
    vehicleBytes s v = vehicleHead s v ++ (vehicleClaims s v ++ (vehiclePath s v ++ (vehicleOrders s v ++
      (be8 (s.vehicle v).queue.length ++ vehicleQueue s v)))) := by
  simp only [vehicleBytes_flat, vehiclePath, List.append_assoc]

variable {s v}

theorem length_vehicleHead : (vehicleHead s v).length = 29 := by simp [vehicleHead]

theorem length_vehiclePath : (vehiclePath s v).length = 4 := rfl

theorem length_vehicleClaims (h : (s.vehicle v).claims.length ≤ 4) : (vehicleClaims s v).length = 4 :=
  length_filled (by simpa using h)

theorem length_vehicleOrders (h : (s.vehicle v).outstanding.length ≤ 3) : (vehicleOrders s v).length = 6 :=
  length_filled (by rw [length_flatMap_flagBytes]; omega)

theorem length_vehicleQueue (h : (s.vehicle v).queue.length ≤ 4) : (vehicleQueue s v).length = 8 :=
  length_filled (by rw [length_flatMap_flagBytes]; omega)

theorem length_vehicleBytes (hclaims : (s.vehicle v).claims.length ≤ 4) (horders : (s.vehicle v).outstanding.length ≤ 3)
    (hqueue : (s.vehicle v).queue.length ≤ 4) : (vehicleBytes s v).length = 52 := by
  rw [vehicleBytes_eq]
  simp only [List.length_append, length_vehicleHead, length_vehicleClaims hclaims, length_vehiclePath, length_vehicleOrders horders,
    length_vehicleQueue hqueue, length_be8]

theorem eq_of_length_six {l : List Byte} (h : l.length = 6) : ∃ a b c d e f, l = [a, b, c, d, e, f] :=
  match l, h with
  | [a, b, c, d, e, f], _ => ⟨a, b, c, d, e, f, rfl⟩

theorem vehicleBytes_fields (hclaims : (s.vehicle v).claims.length ≤ 4) (horders : (s.vehicle v).outstanding.length ≤ 3)
    (hqueue : (s.vehicle v).queue.length ≤ 4) :
    let x := s.vehicle v
    let at' := field (vehicleBytes s v)
    (at' 0 1 = [s.vehicleAddr v] ∧ at' 1 3 = Loc.bytes ⟨.home, x.home⟩ ∧ at' 4 1 = be8 x.window ∧ at' 5 1 = [x.status.code] ∧
      at' 6 1 = beMark (x.beforeLoss = .busy) ∧ at' 7 1 = [x.causes.byte] ∧ at' 8 1 = [x.intrusionZones] ∧
      at' 9 3 = x.endLoc.bytes ∧ at' 12 1 = be8 x.currentSeg ∧ at' 13 1 = [x.motion] ∧ at' 14 4 = beWord x.repLoad ∧
      at' 18 4 = beWord x.load.word ∧ at' 22 4 = beWord x.lastReport ∧ at' 26 1 = be8 x.supCount) ∧
    (at' 27 1 = be8 x.retryCount ∧ at' 28 1 = be8 x.claims.length ∧ at' 29 4 = vehicleClaims s v ∧
      at' 33 1 = be8 ((s.waitsFor? v).getD 0) ∧ at' 34 1 = be8 x.path.length ∧
      at' 35 1 = be8 (if x.path = [] then 0 else x.pointer + 1) ∧ at' 36 1 = be8 x.outstanding.length ∧
      at' 37 6 = vehicleOrders s v ∧ at' 43 1 = be8 x.queue.length ∧ at' 44 8 = vehicleQueue s v) := by
  obtain ⟨c₁, c₂, c₃, c₄, hclaims⟩ := List.length_eq_four.1 (length_vehicleClaims hclaims)
  obtain ⟨o₁, o₂, o₃, o₄, o₅, o₆, horders⟩ := eq_of_length_six (length_vehicleOrders horders)
  have hqueue : (vehicleQueue s v).take 8 = vehicleQueue s v := List.take_of_length_le (length_vehicleQueue hqueue).le
  simp [field, vehicleBytes_eq, vehicleHead, vehiclePath, hclaims, horders, hqueue, Loc.bytes, beWord, be32, be16, be8, beMark]

end Vehicle

/-! ### The roll record -/

/-- The roll record with its three location bytes. -/
theorem Roll.fields (r : Roll) :
    (field r.bytes 0 4 = beWord r.id ∧ field r.bytes 4 1 = be8 r.grade ∧ field r.bytes 5 2 = be16 r.width ∧
      field r.bytes 7 2 = be16 r.dann ∧ field r.bytes 9 1 = be8 r.core ∧ field r.bytes 10 1 = be8 r.caliper ∧
      field r.bytes 11 2 = be16 r.dcur ∧ field r.bytes 13 4 = be32 r.lr) ∧
    (field r.bytes 22 1 = [r.holds.byte] ∧ field r.bytes 23 1 = beMark r.hasRun ∧ field r.bytes 24 1 = be8 (pressNumber r.lastPress) ∧
      field r.bytes 25 1 = be8 r.breaks ∧ field r.bytes 26 4 = be32 r.waste ∧ field r.bytes 30 4 = beWord r.announced) ∧
    field r.bytes 17 5 = [r.status.code] ++ r.status.locBytes ++ [r.status.ownerByte] := by
  obtain ⟨a, b, c, hloc⟩ := List.length_eq_three.1 (RollStatus.length_locBytes r.status)
  simp [field, Roll.bytes, hloc, beWord, be32, be16, be8, beMark]

theorem ClosedRun.fields (c : ClosedRun) :
    (field c.bytes 0 1 = be8 (num c.press) ∧ field c.bytes 1 2 = be16 c.run.number ∧ field c.bytes 3 1 = be8 c.run.edition ∧
      field c.bytes 4 1 = [c.run.phase.code] ∧ field c.bytes 5 4 = beWord c.run.startTick ∧ field c.bytes 9 4 = beWord c.endTick ∧
      field c.bytes 13 1 = [c.cause.code]) ∧
    (field c.bytes 14 4 = be32 c.run.good ∧ field c.bytes 18 4 = be32 c.run.wasteStartUp ∧ field c.bytes 22 4 = be32 c.run.wasteSplice ∧
      field c.bytes 26 4 = be32 c.run.wasteBreak ∧ field c.bytes 30 4 = be32 c.run.wastePlate ∧
      field c.bytes 34 4 = be32 c.run.wasteOther ∧ field c.bytes 38 4 = be32 c.run.butt ∧ field c.bytes 42 2 = be16 c.run.made ∧
      field c.bytes 44 2 = be16 c.run.missed ∧ field c.bytes 46 2 = be16 c.run.breaks) := by
  simp [field, ClosedRun.bytes, Run.counterBytes, beWord, be32, be16, be8]

/-! ### The holds of a roll record -/

theorem Holds.byte_bits (h : Holds) :
    h.byte.getLsbD 0 = h.parity ∧ h.byte.getLsbD 1 = h.breaks ∧ h.byte.getLsbD 2 = h.diameter ∧ h.byte.getLsbD 3 = h.lostTrack ∧
      h.byte.getLsbD 4 = h.management := by
  obtain ⟨parity, breaks, diameter, lostTrack, management⟩ := h
  revert parity breaks diameter lostTrack management
  decide

/-! ### The tables' indexes -/

theorem toIx_offset {k : Nat} (base : Nat) (i : Fin k) : toIx k (base + num i - base) = some i :=
  toIx_of_eq_num (Nat.add_sub_cancel_left ..)

theorem toIx_num {k : Nat} (i : Fin k) : toIx k (num i) = some i := toIx_of_eq_num rfl

theorem toIx_of_above {k n : Nat} (h : k < n) : toIx k n = none := dif_neg fun hn => absurd hn.2 (Nat.not_le.2 h)

theorem planIndex?_press (p : PressIx) : planIndex? (num p) = some (.press p) := by
  rw [planIndex?, toIx_of_eq_num rfl]

theorem planIndex?_stand (st : StandIx) : planIndex? (4 + num st) = some (.stand st) := by
  rw [planIndex?, toIx_of_above (show 4 < 4 + num st from Nat.lt_add_of_pos_right (Nat.succ_pos _)), toIx_offset 4 st]
  rfl

theorem planBytes_press (s : State) (next : Bool) (p : PressIx) :
    planBytes s next (num p) =
      if next then s.pls.nextPress[p].bytes ++ beMark s.pls.ready[p] else (s.activePress p).bytes := by
  simp only [planBytes, planIndex?_press, State.activePress]

theorem planBytes_stand (s : State) (next : Bool) (st : StandIx) :
    planBytes s next (4 + num st) = if next then s.pls.nextStand[st].bytes else (s.activeStand st).bytes := by
  simp only [planBytes, planIndex?_stand, State.activeStand]

/-! ### The fields of HALL (R189) -/

theorem be32_of_halves (a b : Nat) (h : b < 65536) : be32 (a * 65536 + b) = be16 a ++ be16 b := by
  have high : (a * 65536 + b) / 65536 = a := by omega
  have low : be16 (a * 65536 + b) = be16 b := by
    have hbyte : (a * 65536 + b) / 256 = a * 256 + b / 256 := by omega
    simp only [be16, hbyte, List.cons.injEq, and_true]
    constructor <;> (apply BitVec.eq_of_toNat_eq; simp only [BitVec.toNat_ofNat]; omega)
  rw [be32, high, low]

theorem hallValue_haltOne (s : State) (z : ZoneIx) : hallValue s (7 + num z) = if (s.zone z).haltOne then 1 else 0 := by
  have hz : num z ≤ 8 := z.isLt
  have hlow : 1 ≤ num z := Nat.succ_pos _
  unfold hallValue
  rw [if_pos (by omega), toIx_offset 7 z]

theorem hallValue_causes (s : State) (z : ZoneIx) :
    hallValue s (39 + num z) = (s.zone z).lost.toNat * 65536 + (s.zone z).intruders.toNat := by
  have hz : num z ≤ 8 := z.isLt
  have hlow : 1 ≤ num z := Nat.succ_pos _
  unfold hallValue
  rw [if_neg (by omega), if_neg (by omega), if_neg (by omega), if_neg (by omega), if_neg (by omega), if_pos (by omega), toIx_offset 39 z]

theorem settingOf_of_press (s : State) (base : Nat) (p : PressIx) (g : SpeedSettings → Nat) :
    settingOf s (base + num p) (base + 1) g = g (s.speedSettings p) := by
  rw [settingOf, toIx_of_eq_num (by omega : base + num p + 1 - (base + 1) = num p)]

theorem hallValue_speedSettings (s : State) (p : PressIx) :
    hallValue s (15 + num p) = (s.speedSettings p).slew ∧ hallValue s (19 + num p) = (s.speedSettings p).silence ∧
      hallValue s (23 + num p) = (s.speedSettings p).holdover ∧ hallValue s (27 + num p) = (s.speedSettings p).floor := by
  have hp : num p ≤ 4 := p.isLt
  have hlow : 1 ≤ num p := Nat.succ_pos _
  refine ⟨?_, ?_, ?_, ?_⟩ <;> unfold hallValue
  · rw [if_neg (by omega), if_pos (by omega), settingOf_of_press s 15]
  · rw [if_neg (by omega), if_neg (by omega), if_pos (by omega), settingOf_of_press s 19]
  · rw [if_neg (by omega), if_neg (by omega), if_neg (by omega), if_pos (by omega), settingOf_of_press s 23]
  · rw [if_neg (by omega), if_neg (by omega), if_neg (by omega), if_neg (by omega), if_pos (by omega), settingOf_of_press s 27]

theorem toNat_ownAddr (s : State) : s.ownAddr.toNat = 241 + s.pins.addr.toNat := by
  have := s.pins.addr.isLt
  simp only [State.ownAddr, BitVec.toNat_add, BitVec.toNat_setWidth, show BitVec.toNat (241 : Byte) = 241 from rfl]
  omega

/-- Settles O45: what a read carries, the records' sizes and fields, and which record an index reads. -/
theorem tableReadsCarryRecords : Obligations.TableReadsCarryRecords := by
  unfold Obligations.TableReadsCarryRecords
  refine ⟨⟨fun t rest s hready hparity => ?reads, fun room l => ⟨fitting_flatten_length_le room l, fitting_greatest room l⟩,
    Roll.length_bytes, Place.length_bytes, fun x => ?stand, fun x => ?speed, fun e => rfl, fun x => rfl, fun x => rfl, fun c => ?call,
    fun x => rfl, fun c => rfl, length_runEntryBytes, fun s f => ?flag, fun x hholders hwaiters => ?segment, fun r => Route.length_bytes,
    fun s v => length_vehicleBytes, length_be32, fun s p => ?plan⟩, ?fields⟩
  case reads =>
    intro code i w answer refused
    have answers {n : Nat} (hn : State.readCount t = n) (hrange : rangeOk i n (tableMax s code) = true) : answer n := by
      subst hn
      exact served hready (State.readTable_of_noParity (s := w) t hparity hrange)
    have refuses (hrange : rangeOk i (State.readCount t) (tableMax s code) = false) : refused :=
      served hready (State.readTable_of_badIndex (s := w) t hrange)
    refine ⟨fun hcode => ?_, fun hcode => ?_⟩
    · have hn : State.readCount t = reqCount t := if_neg hcode
      refine ⟨fun hlow hhigh => answers hn ?_, fun hout => refuses ?_⟩
      · exact decide_eq_true ⟨hlow, hhigh⟩
      · rw [hn]
        exact decide_eq_false (by omega)
    · have hn : State.readCount t = max 1 (min (reqCount t) (25 - i)) := if_pos hcode
      have hmax : tableMax s code = 24 := congrArg (tableMax s) hcode
      refine ⟨fun hlow hhigh => answers ?_ ?_, fun hout => refuses ?_⟩
      · have hcount : reqCount t ≠ 0 := reqCount_of_read hready
        rw [hn]
        omega
      · rw [hmax]
        exact decide_eq_true (by omega)
      · rw [hn, hmax]
        exact decide_eq_false (by omega)
  case stand => simp [Stand.bytes]
  case speed => simp [Speed.bytes]
  case call => simp [Call.bytes]
  case flag => simp [flagBytes, Flag.ofNumber_number]
  case segment =>
    have hholders := length_listBytes (capacity := 2) (l := x.holders.map fun v => BitVec.ofNat 8 (num v)) (by simpa using hholders)
    have hwaiters := length_listBytes (capacity := 16) (l := x.waiters.map fun v => BitVec.ofNat 8 (num v)) (by simpa using hwaiters)
    simp [Segment.bytes, hholders, hwaiters]
  case plan => simp [planBytes, planIndex?_press, PressPart.bytes]
  case fields =>
    intro field' mark loc ref roll
    refine ⟨fun r => ?roll, fun s v => ?vehicle, fun c => ?closed, fun x => ?segment, fun r => ?route, fun x => ?place, fun e => rfl, fun x => ?stand,
      fun x => ?speed, fun x => ?pressPart, fun x => ?standPart, fun s p => ?plan, fun c => ?call, fun r => ?run, rfl, fun x => ?press, fun s f => ?flag,
      fun s k => ?byNumber, fun s v st p f => ?byIndex, fun s => ?hall⟩
    case roll =>
      intro at'
      obtain ⟨hhead, htail, hstatus⟩ := r.fields
      have status {x : RollStatus} (hx : r.status = x) : at' 17 5 = [x.code] ++ x.locBytes ++ [x.ownerByte] := by
        subst hx
        exact hstatus
      exact ⟨hhead, htail, fun _ => status, fun _ => status, fun _ _ => status, fun _ => status, fun _ => status, status,
        fun _ => status, fun _ => status, fun _ => status, r.holds.byte_bits⟩
    case vehicle =>
      intro x at' fill order hclaims horders hqueue
      obtain ⟨hhead, hretries, hcount, hsegs, htail⟩ := vehicleBytes_fields hclaims horders hqueue
      exact ⟨hhead, hretries, hcount, hsegs, htail⟩
    case closed => 
      have h := c.fields
      exact h
    case segment => simp [Segment.bytes, listBytes, beMark, mark]
    case route => 
      have hfill : 2 * (16 - r.leg.length) = 32 - 2 * r.leg.length := by omega
      rw [hfill]
      rfl
    case place => 
      cases h : x.claim <;> simp [Place.bytes, h, beMark, mark, ref, roll, rollIdBytes, orderRefBytes]
    case stand => 
      cases hother : x.other <;> cases hclaim : x.claim <;> simp [Stand.bytes, hother, hclaim, Arm.bytes, beMark, mark, ref, roll, rollIdBytes, orderRefBytes]
    case speed => cases h : x.interval <;> simp [Speed.bytes, h, intervalBytes, beMark, mark]
    case pressPart => rfl
    case standPart => rfl
    case plan => exact (planBytes_press s true p).trans (if_pos rfl)
    case call => cases h : c.phase.link? <;> simp [Call.bytes, h, beMark, mark, roll, ref, rollIdBytes, orderRefBytes]
    case run => simp only [runEntryBytes, Run.counterBytes, List.append_assoc]
    case press => cases h : x.splice.stand <;> simp [PressRec.bytes, h, roll, rollIdBytes, be8]
    case flag => rw [flagBytes, Flag.ofNumber_number]
    case byNumber =>
      refine ⟨⟨fun e he => ?_, fun he => ?_⟩, rfl, ⟨fun r hr => ?_, fun hr => ?_⟩, rfl, ⟨fun r hr => ?_, fun hr => ?_⟩, fun c hc => ?_, fun hc => ?_⟩
      · simp only [recordBytes, he]
      · simp only [recordBytes, he]
      · simp only [recordBytes, hr]
      · simp only [recordBytes, hr]
      · simp only [recordBytes, hr]
      · simp only [recordBytes, hr]
      · simp only [recordBytes, Nat.add_sub_cancel, hc]
      · simp only [recordBytes, Nat.add_sub_cancel, List.getElem?_eq_none hc]
    case byIndex =>
      refine ⟨?_, ?_, ?_, ?_, ?_, rfl, ?_, rfl, ?_, ?_⟩
      · simp only [recordBytes, toIx_num]
      · simp only [recordBytes, toIx_num]
      · simp only [recordBytes, toIx_num]
      · exact (planBytes_press s false p).trans (if_neg Bool.false_ne_true)
      · exact (planBytes_stand s false st).trans (if_neg Bool.false_ne_true)
      · exact (planBytes_stand s true st).trans (if_pos rfl)
      · simp only [recordBytes, runBytes, toIx_num]
      · have habove : toIx 4 (4 + num p) = none := toIx_of_above (show 4 < 4 + num p from Nat.lt_add_of_pos_right (Nat.succ_pos _))
        simp only [recordBytes, runBytes, habove, toIx_offset 4 p]
    case hall =>
      intro reads
      refine ⟨⟨rfl, rfl, rfl, rfl, rfl, rfl, rfl⟩, fun z => ⟨congrArg be32 (hallValue_haltOne s z), ?causes⟩, fun p => ?settings,
        ⟨?mode, rfl, rfl, rfl, rfl, rfl, rfl, rfl⟩, ⟨rfl, rfl, rfl, rfl, rfl, rfl⟩, rfl, rfl, rfl, rfl, ?addr⟩
      case causes =>
        show be32 (hallValue s (39 + num z)) = _
        rw [hallValue_causes, be32_of_halves _ _ (s.zone z).intruders.isLt]
      case settings =>
        obtain ⟨hslew, hsilence, hholdover, hfloor⟩ := hallValue_speedSettings s p
        exact ⟨congrArg be32 hslew, congrArg be32 hsilence, congrArg be32 hholdover, congrArg be32 hfloor⟩
      case mode =>
        show be32 s.sfu.mode.code = _
        cases s.sfu.mode <;> rfl
      case addr => exact congrArg be32 (toNat_ownAddr s)

end Sys2Proof.Machine
end

section
/-! PROOFS. Segments, places, routes and nodes as management writes them (R7, R34, R53, R56). -/

namespace Sys2Proof.Machine

/-! ### Clashes of a table's records -/

section Clashes

variable {α : Type} {clash : α → α → Bool}

theorem anyClash_eq_false (l : List α) : anyClash clash l = false ↔ l.Pairwise fun a b => clash a b = false := by
  induction l with
  | nil => simp [anyClash]
  | cons a l ih => simp [anyClash, ih]

theorem Table.erase_sublist (k : Nat) : ∀ l : List (Nat × α), (Table.erase k l).Sublist l
  | [] => .slnil
  | (j, a) :: r => by
    unfold Table.erase
    split
    · exact List.sublist_cons_self ..
    · exact (Table.erase_sublist k r).cons_cons _

theorem Table.mem_insert_self (k : Nat) (a : α) : ∀ l : List (Nat × α), (k, a) ∈ Table.insert k a l
  | [] => List.mem_cons_self
  | (j, b) :: r => by
    unfold Table.insert
    split
    · exact List.mem_cons_self
    · split
      · exact List.mem_cons_self
      · exact List.mem_cons_of_mem _ (Table.mem_insert_self k a r)

theorem Table.mem_insert_of_ne {k : Nat} {a : α} {e : Nat × α} (hne : e.1 ≠ k) :
    ∀ {l : List (Nat × α)}, e ∈ l → e ∈ Table.insert k a l
  | (j, b) :: r, he => by
    unfold Table.insert
    split
    · exact List.mem_cons_of_mem _ he
    · rcases List.mem_cons.1 he with rfl | hr
      · rw [if_neg (Ne.symm hne)]
        exact List.mem_cons_self
      · split
        · exact List.mem_cons_of_mem _ hr
        · exact List.mem_cons_of_mem _ (Table.mem_insert_of_ne hne hr)

theorem anyClash_erase (k : Nat) {l : List (Nat × α)} (h : anyClash clash (l.map Prod.snd) = false) :
    anyClash clash ((Table.erase k l).map Prod.snd) = false := by
  rw [anyClash_eq_false] at h ⊢
  exact h.sublist ((Table.erase_sublist k l).map _)

variable (hsymm : ∀ a b, clash a b = clash b a)

include hsymm

theorem anyClash_insert {k : Nat} {a : α} {l : List (Nat × α)} (h : anyClash clash (l.map Prod.snd) = false)
    (hrising : Table.rising l = true) (hnew : ∀ e ∈ l, e.1 ≠ k → clash e.2 a = false) :
    anyClash clash ((Table.insert k a l).map Prod.snd) = false := by
  rw [anyClash_eq_false, List.pairwise_map] at h ⊢
  have hkeys := List.pairwise_map.1 ((Table.rising_iff _).1 (Table.rising_insert k a hrising))
  refine hkeys.imp_of_mem fun {e f} he hf hlt => ?_
  have hsymm' : Std.Symm fun e f : Nat × α => clash e.2 f.2 = false := ⟨fun _ _ h => (hsymm _ _).trans h⟩
  have hold : ∀ e ∈ l, ∀ f ∈ l, e ≠ f → clash e.2 f.2 = false :=
    fun e he f hf hne => h.forall he hf hne
  rcases Table.mem_insert he with rfl | he <;> rcases Table.mem_insert hf with rfl | hf
  · exact absurd hlt (Nat.lt_irrefl _)
  · exact (hsymm _ _).trans (hnew f hf (Nat.ne_of_gt hlt))
  · exact hnew e he (Nat.ne_of_lt hlt)
  · exact hold e he f hf fun h => absurd (congrArg Prod.fst h) (Nat.ne_of_lt hlt)

theorem anyClash_insert_of_clash {k : Nat} {a : α} {l : List (Nat × α)} {e : Nat × α} (he : e ∈ l) (hne : e.1 ≠ k)
    (hclash : clash e.2 a = true) : anyClash clash ((Table.insert k a l).map Prod.snd) = true := by
  rw [← Bool.not_eq_false, anyClash_eq_false, List.pairwise_map]
  intro h
  have hsymm' : Std.Symm fun e f : Nat × α => clash e.2 f.2 = false := ⟨fun _ _ h => (hsymm _ _).trans h⟩
  have hpair := h.forall (Table.mem_insert_of_ne hne he) (Table.mem_insert_self k a l)
    fun heq => hne (congrArg Prod.fst heq)
  exact Bool.noConfusion (hclash.symm.trans hpair)

end Clashes

theorem Route.clashes_symm (a b : Route) : a.clashes b = b.clashes a := by
  simp only [Route.clashes, eq_comm]

theorem NodeEntry.clashes_symm (a b : NodeEntry) : a.clashes b = b.clashes a := by
  unfold NodeEntry.clashes
  by_cases h : a.kind = b.kind
  · simp only [h, eq_comm]
  · simp only [h, Ne.symm h, false_and, eq_comm]

theorem NodeEntry.clashes_iff {a b : NodeEntry} :
    a.clashes b = true ↔ a.addr = b.addr ∨ (b.kind ≠ .upper ∧ a.kind = b.kind ∧ a.subject = b.subject) := by
  simp only [NodeEntry.clashes, decide_eq_true_eq]
  constructor
  · rintro (h | ⟨hkind, hupper, hsubject⟩)
    · exact .inl h
    · exact .inr ⟨hkind ▸ hupper, hkind, hsubject⟩
  · rintro (h | ⟨hupper, hkind, hsubject⟩)
    · exact .inl h
    · exact .inr ⟨hkind, hkind ▸ hupper, hsubject⟩

/-! ### The checks that come first (R53, log 48) -/

namespace State

/-- A table write in CONFIG alone: the mode, the range of indexes and the values are checked before what it does. -/
def checkedWrite (t : Telegram) (greatest : Nat) (bad : Bool) (rest : Answer × State) (s : State) : Answer × State :=
  if s.sfu.mode ≠ .config then s.answered .wrongMode
  else if !rangeOk (reqIndex t) (reqCount t) greatest then s.answered .badIndex
  else if bad then s.answered .badValue
  else rest

variable {t : Telegram} {greatest : Nat} {bad : Bool} {rest : Answer × State} {s : State}

theorem checkedWrite_of_mode (h : s.sfu.mode ≠ .config) : s.checkedWrite t greatest bad rest = s.answered .wrongMode := if_pos h

theorem checkedWrite_of_index (hmode : s.sfu.mode = .config) (h : reqIndex t = 0 ∨ greatest + 1 < reqIndex t + reqCount t) :
    s.checkedWrite t greatest bad rest = s.answered .badIndex := by
  have hrange : rangeOk (reqIndex t) (reqCount t) greatest = false := decide_eq_false (by omega)
  rw [checkedWrite, if_neg (not_not.2 hmode), hrange]
  rfl

theorem checkedWrite_of_range (hmode : s.sfu.mode = .config) (hlow : 1 ≤ reqIndex t) (hhigh : reqIndex t + reqCount t ≤ greatest + 1) :
    s.checkedWrite t greatest bad rest = if bad then s.answered .badValue else rest := by
  have hrange : rangeOk (reqIndex t) (reqCount t) greatest = true := decide_eq_true ⟨hlow, hhigh⟩
  rw [checkedWrite, if_neg (not_not.2 hmode), hrange]
  rfl

theorem writeSegments_eq (t : Telegram) (s : State) :
    s.writeSegments t =
      let ws := (List.range (reqCount t)).map fun i =>
        (reqIndex t + i, (u8 t.body (4 + 23 * i)).toNat, (u8 t.body (4 + 23 * i + 1)).toNat)
      s.checkedWrite t 255 (ws.any fun w => 2 < w.2.1 ∨ (w.2.1 ≠ 0 ∧ (w.2.2 = 0 ∨ 8 < w.2.2)))
        ((ws.foldl (fun s w => s.updSeg w.1 fun x => { x with capacity := w.2.1, zone := w.2.2 }) s).answered .ok) := rfl

theorem writePlaces_eq (t : Telegram) (s : State) :
    s.writePlaces t =
      let zoneOf (i : Nat) : Nat := (u8 t.body (4 + 9 * i + 1)).toNat
      s.checkedWrite t s.tmc.sizes.places ((List.range (reqCount t)).any fun i => 8 < zoneOf i)
        (((List.range (reqCount t)).foldl
          (fun s i => s.updPlace (reqIndex t + i) fun x => { x with access := (u8 t.body (4 + 9 * i)).toNat, zone := zoneOf i }) s).answered
            .ok) := rfl

theorem foldl_updPlace_of_noParity (f : Nat → Nat) (g : Nat → Place → Place) (l : List Nat) :
    ∀ {s : State}, s.noParity →
      l.foldl (fun s i => s.updPlace (f i) (g i)) s = l.foldl (fun s i => s.setPlace (f i) (g i (s.place (f i)))) s := by
  induction l with
  | nil => exact fun _ => rfl
  | cons i l ih =>
    intro s h
    rw [List.foldl_cons, List.foldl_cons, updPlace_of_noParity h, ih (noParity_setPlace _ _ h)]

/-! ### One route record (R56) -/

theorem writeRoutes_of_one (h : s.noParity) (hcount : reqCount t = 1) :
    s.writeRoutes t =
      let w := routeWriteAt s t.body 4
      let rs := writtenRoutes [(reqIndex t, w)] s.tmc.routes
      s.checkedWrite t s.tmc.sizes.routes (w = .bad)
        (if anyClash Route.clashes (rs.map Prod.snd) then s.answered .duplicate
         else ({ s with tmc := { s.tmc with routes := rs } } : State).answered .ok) := by
  obtain ⟨-, -, hroutes⟩ := h
  have hkept (l : List Nat) : s.readKept l = s := by simp [readKept, hroutes, inOrder]
  have hws : ((List.range (reqCount t)).map fun i => (reqIndex t + i, routeWriteAt s t.body (4 + 40 * i))) =
      [(reqIndex t, routeWriteAt s t.body 4)] := by
    simp only [hcount, List.range_one, List.map_cons, List.map_nil, Nat.mul_zero, Nat.add_zero]
  unfold writeRoutes checkedWrite
  rw [hws]
  simp only [hkept, hroutes, List.any_cons, List.any_nil, Bool.or_false, List.filter_nil]

end State

/-! ### How a checked write is answered -/

section Served

variable {row : Row} {t : Telegram} {rest : List Telegram} {s : State} {run : Telegram → State → Answer × State} {greatest : Nat}
  {bad : Bool} {out : Answer × State}

theorem served_checkedWrite (hready : Ready row t rest s)
    (hrun : run t (s.popped rest) = (s.popped rest).checkedWrite t greatest bad out) {Bad : Prop} (hbad : bad = true ↔ Bad) {a : Answer} {u : State}
    (hout : ¬ Bad → out = (a, u)) :
    let w := s.popped rest
    (s.sfu.mode ≠ .config → awake (State.serveRequest row run) s = .next (w.reply t { result := .wrongMode })) ∧
    (s.sfu.mode = .config → (reqIndex t = 0 ∨ greatest + 1 < reqIndex t + reqCount t) →
      awake (State.serveRequest row run) s = .next (w.reply t { result := .badIndex })) ∧
    (s.sfu.mode = .config → 1 ≤ reqIndex t → reqIndex t + reqCount t ≤ greatest + 1 →
      (Bad → awake (State.serveRequest row run) s = .next (w.reply t { result := .badValue })) ∧
      (¬ Bad → awake (State.serveRequest row run) s = .next (u.reply t a))) := by
  refine ⟨fun hmode => served hready (hrun.trans (State.checkedWrite_of_mode hmode)),
    fun hmode hindex => served hready (hrun.trans (State.checkedWrite_of_index hmode hindex)),
    fun hmode hlow hhigh => ⟨fun h => ?_, fun h => ?_⟩⟩
  · exact served hready (hrun.trans ((State.checkedWrite_of_range (s := s.popped rest) hmode hlow hhigh).trans (if_pos (hbad.2 h))))
  · exact served hready (hrun.trans ((State.checkedWrite_of_range (s := s.popped rest) hmode hlow hhigh).trans ((if_neg fun hb => h (hbad.1 hb)).trans (hout h))))

end Served

/-! ### The values of a route record (R56) -/

theorem NodeKind.ofByte_above {b : Byte} (h : 4 < b.toNat) : NodeKind.ofByte b = none := by
  unfold NodeKind.ofByte
  split <;> first | omega | rfl

theorem kind_ne_none_of_locAt {l : List Byte} {i : Nat} {x : Loc} (h : locAt l i = some x) (hbyte : u8 l i ≠ 0) : x.kind ≠ .none := by
  obtain ⟨k, hk, rfl⟩ := Option.map_eq_some_iff.1 h
  rintro (rfl : k = .none)
  have hpos : (u8 l i).toNat ≠ 0 := fun h0 => hbyte (BitVec.eq_of_toNat_eq h0)
  unfold LocKind.ofByte at hk
  split at hk <;> first | exact hpos (by assumption) | cases hk

section RouteValue

variable {s : State} {l : List Byte} {o : Nat}

theorem routeWriteAt_of_free (h : u8 l (o + 1) = 0) : routeWriteAt s l o = .free := if_pos h

theorem routeWriteAt_of_unlisted (hbyte : u8 l (o + 1) ≠ 0) (h : locAt l (o + 1) = none ∨ locAt l (o + 4) = none) :
    routeWriteAt s l o = .bad := by
  unfold routeWriteAt
  rw [if_neg hbyte]
  rcases h with h | h
  · rw [h]
    rfl
  · rw [h]
    cases routeEnd? s false (locAt l (o + 1)) <;> rfl

/-- The values of a route that are accepted. -/
def routeFits (s : State) (a b : Loc) (leg : List Nat) : Prop :=
  b.kind ≠ .none ∧ b.kind ≠ .segment ∧ a.inRange s = true ∧ b.inRange s = true ∧ a ≠ b ∧ 1 ≤ leg.length ∧ leg.length ≤ 16 ∧ 0 ∉ leg

theorem routeWriteAt_of_fits {a b : Loc} {leg : List Nat} (hbyte : u8 l (o + 1) ≠ 0) (ha : locAt l (o + 1) = some a) (hb : locAt l (o + 4) = some b)
    (hleg : leg = (List.range (u8 l (o + 7)).toNat).map fun j => u16 l (o + 8 + 2 * j)) (h : routeFits s a b leg) :
    routeWriteAt s l o = .route ⟨a, b, leg⟩ := by
  obtain ⟨hnone, hsegment, harange, hbrange, hne, hlow, hhigh, hzero⟩ := h
  have hstart : routeEnd? s false (some a) = some a := if_pos ⟨kind_ne_none_of_locAt ha hbyte, .inl rfl, harange⟩
  have hgoal : routeEnd? s true (some b) = some b := if_pos ⟨hnone, .inr hsegment, hbrange⟩
  have hlen : leg.length = (u8 l (o + 7)).toNat := by rw [hleg, List.length_map, List.length_range]
  unfold routeWriteAt
  rw [if_neg hbyte, ha, hb, hstart, hgoal]
  dsimp only
  rw [← hleg, ← hlen, if_neg]
  rintro (h | h | h | h)
  · exact hne h
  · omega
  · omega
  · exact hzero h

theorem routeWriteAt_of_unfit {a b : Loc} {leg : List Nat} (hbyte : u8 l (o + 1) ≠ 0) (ha : locAt l (o + 1) = some a) (hb : locAt l (o + 4) = some b)
    (hleg : leg = (List.range (u8 l (o + 7)).toNat).map fun j => u16 l (o + 8 + 2 * j)) (h : ¬ routeFits s a b leg) :
    routeWriteAt s l o = .bad := by
  have hlen : leg.length = (u8 l (o + 7)).toNat := by rw [hleg, List.length_map, List.length_range]
  unfold routeWriteAt
  rw [if_neg hbyte, ha, hb]
  by_cases hends : a.inRange s = true ∧ b.kind ≠ .none ∧ b.kind ≠ .segment ∧ b.inRange s = true
  · obtain ⟨harange, hnone, hsegment, hbrange⟩ := hends
    have hstart : routeEnd? s false (some a) = some a := if_pos ⟨kind_ne_none_of_locAt ha hbyte, .inl rfl, harange⟩
    have hgoal : routeEnd? s true (some b) = some b := if_pos ⟨hnone, .inr hsegment, hbrange⟩
    rw [hstart, hgoal]
    dsimp only
    rw [← hleg, ← hlen, if_pos]
    by_contra hc
    simp only [not_or] at hc
    obtain ⟨hne, hlow, hhigh, hzero⟩ := hc
    exact h ⟨hnone, hsegment, harange, hbrange, hne, by omega, by omega, hzero⟩
  · by_cases harange : a.inRange s = true
    · have hgoal : routeEnd? s true (some b) = none :=
        if_neg fun hb => hends ⟨harange, hb.1, hb.2.1.resolve_left Bool.noConfusion, hb.2.2⟩
      rw [hgoal]
      cases routeEnd? s false (some a) <;> rfl
    · have hstart : routeEnd? s false (some a) = none := if_neg fun ha => harange ha.2.2
      rw [hstart]

end RouteValue

/-! ### The values of a node entry (R34) -/

section NodeValue

variable {l : List Byte} {o : Nat} {k : NodeKind}

theorem nodeWriteAt_of_free (h : u8 l o = 0) : nodeWriteAt l o = .free := if_pos h

theorem nodeWriteAt_of_address (h : 241 ≤ (u8 l o).toNat) : nodeWriteAt l o = .bad := by
  have hne : u8 l o ≠ 0 := fun h0 => by
    rw [h0] at h
    exact absurd h (by decide)
  unfold nodeWriteAt
  dsimp only
  rw [if_neg hne, if_pos h]

theorem nodeWriteAt_of_unlisted (hne : u8 l o ≠ 0) (h : NodeKind.ofByte (u8 l (o + 1)) = none) : nodeWriteAt l o = .bad := by
  unfold nodeWriteAt
  simp only [if_neg hne, h, ite_self]

theorem nodeWriteAt_of_subject (hne : u8 l o ≠ 0) (hk : NodeKind.ofByte (u8 l (o + 1)) = some k) (hupper : k ≠ .upper)
    (h : (u8 l (o + 2)).toNat = 0 ∨ k.subjects < (u8 l (o + 2)).toNat) : nodeWriteAt l o = .bad := by
  have hout : ¬ (1 ≤ (u8 l (o + 2)).toNat ∧ (u8 l (o + 2)).toNat ≤ k.subjects) := by omega
  unfold nodeWriteAt
  simp only [if_neg hne, hk]
  cases k with
  | upper => exact absurd rfl hupper
  | vehicle => simp only [show ¬ (1 ≤ (u8 l (o + 2)).toNat ∧ (u8 l (o + 2)).toNat ≤ 16) from hout, if_false, ite_self]
  | stand => simp only [hout, if_false, ite_self]
  | folder => simp only [hout, if_false, ite_self]
  | drive => simp only [hout, if_false, ite_self]

/-- The entry written, and whether its period was clamped. -/
theorem nodeWriteAt_of_entry (hne : u8 l o ≠ 0) (haddr : (u8 l o).toNat ≤ 240) (hk : NodeKind.ofByte (u8 l (o + 1)) = some k)
    (h : k = .upper ∨ (1 ≤ (u8 l (o + 2)).toNat ∧ (u8 l (o + 2)).toNat ≤ k.subjects)) :
    nodeWriteAt l o =
      let period := (u8 l (o + 3)).toNat
      .entry ⟨u8 l o, k, if k = .upper then 0 else (u8 l (o + 2)).toNat, if k = .vehicle then max 1 (min 50 period) else 0⟩
        (k = .vehicle ∧ (period < 1 ∨ 50 < period)) := by
  have haddr' : ¬ 241 ≤ (u8 l o).toNat := by omega
  unfold nodeWriteAt
  simp only [if_neg hne, if_neg haddr', hk]
  cases k with
  | upper => rfl
  | vehicle =>
    have hin := h.resolve_left (by decide)
    have hclamp (n : Nat) : clampTo 1 50 n ≠ n ↔ n < 1 ∨ 50 < n := by
      unfold clampTo
      omega
    rw [if_pos (show 1 ≤ (u8 l (o + 2)).toNat ∧ (u8 l (o + 2)).toNat ≤ 16 from hin)]
    exact congrArg (NodeWrite.entry _) (decide_eq_decide.2 ⟨fun hc => ⟨rfl, (hclamp _).1 hc⟩, fun ⟨_, hc⟩ => (hclamp _).2 hc⟩)
  | stand => exact if_pos (h.resolve_left (by decide))
  | folder => exact if_pos (h.resolve_left (by decide))
  | drive => exact if_pos (h.resolve_left (by decide))

end NodeValue

/-- The period of the entry written was brought into its range. -/
def NodeWrite.clamped : NodeWrite → Bool
  | .entry _ c => c
  | _ => false

namespace State

variable {t : Telegram} {s : State}

/-- Some vehicle that is not OFF has no entry. -/
def strandedVehicle (s : State) : Bool :=
  (List.finRange 16).any fun v => decide ((s.vehicle v).status ≠ .off) && (s.vehicleEntry? v).isNone

theorem strandedVehicle_eq_false : s.strandedVehicle = false ↔ ∀ v, (s.vehicle v).status = .off ∨ s.vehicleEntry? v ≠ none := by
  simp [strandedVehicle, List.any_eq_false, or_iff_not_imp_left]

/-- One entry of NODES written. -/
theorem writeNodes_of_one (hcount : reqCount t = 1) :
    s.writeNodes t =
      let w := nodeWriteAt t.body 4
      let new : State := { s with nd := writtenNodes [(reqIndex t, w)] s.nd }
      s.checkedWrite t 64 (w = .bad)
        (if anyClash NodeEntry.clashes (new.nd.map Prod.snd) then s.answered .duplicate
         else if new.strandedVehicle then s.answered .wrongState
         else new.answered (if w.clamped then .clamped else .ok)) := by
  have hws : ((List.range (reqCount t)).map fun i => (reqIndex t + i, nodeWriteAt t.body (4 + 4 * i))) =
      [(reqIndex t, nodeWriteAt t.body 4)] := by
    simp only [hcount, List.range_one, List.map_cons, List.map_nil, Nat.mul_zero, Nat.add_zero]
  unfold writeNodes checkedWrite
  rw [hws]
  simp only [List.any_cons, List.any_nil, Bool.or_false]
  rfl

end State

/-- Settles O46: the checks of each write in order, and the records it writes. -/
theorem trackTablesAndNodesAreWritten : Obligations.TrackTablesAndNodesAreWritten := by
  unfold Obligations.TrackTablesAndNodesAreWritten
  refine ⟨fun t rest s => ⟨fun hready => ?segments, fun hready hparity => ?places, fun hready hparity hcount hclean => ?routes⟩,
    fun t rest s hready hcount => ?nodes⟩
  case segments =>
    intro cap zone
    refine served_checkedWrite hready (State.writeSegments_eq t _) ?_ fun _ => ?_
    · simp [cap, zone]
    · rw [List.foldl_map]
      rfl
  case places =>
    intro zone
    refine served_checkedWrite hready (State.writePlaces_eq t _) ?_ fun _ => ?_
    · simp [zone]
    · rw [State.foldl_updPlace_of_noParity _ _ _ (s := s.popped rest) hparity]
      rfl
  case routes =>
    have hrun := State.writeRoutes_of_one (s := s.popped rest) hparity hcount
    refine ⟨fun hfree => ?free, fun hbyte hloc => ?unlisted, fun a b hbyte ha hb => ?listed⟩
    case free =>
      have hw : routeWriteAt (s.popped rest) t.body 4 = .free := routeWriteAt_of_free hfree
      rw [hw] at hrun
      refine served_checkedWrite hready hrun (by simp) fun _ => ?_
      exact if_neg (ne_true_of_eq_false (anyClash_erase _ hclean))
    case unlisted =>
      have hw : routeWriteAt (s.popped rest) t.body 4 = .bad := routeWriteAt_of_unlisted hbyte hloc
      rw [hw] at hrun
      exact served_checkedWrite hready hrun (by simp) fun h => absurd trivial h
    case listed =>
      intro m leg ok
      have hok : routeFits (s.popped rest) a b leg ↔ ok := by
        simp only [routeFits, leg, List.length_map, List.length_range]
        rfl
      have hfits (h : ok) : routeWriteAt (s.popped rest) t.body 4 = .route ⟨a, b, leg⟩ := routeWriteAt_of_fits hbyte ha hb rfl (hok.2 h)
      have hclash (r : Route) : r.clashes ⟨a, b, leg⟩ = decide (r.start = a ∧ r.goal = b) := rfl
      refine ⟨fun hnew hrising => ?_, fun h ⟨e, he, hne, hkey⟩ hmode hlow hhigh => ?_⟩
      · by_cases h : ok
        · rw [hfits h] at hrun
          refine served_checkedWrite hready hrun (by simpa using h) fun _ => ?_
          refine if_neg (ne_true_of_eq_false <| anyClash_insert Route.clashes_symm hclean hrising fun e he hne => ?_)
          exact decide_eq_false (hnew e he hne)
        · have hw : routeWriteAt (s.popped rest) t.body 4 = .bad := routeWriteAt_of_unfit hbyte ha hb rfl (mt hok.1 h)
          rw [hw] at hrun
          exact served_checkedWrite hready hrun (by simpa using h) fun hn => absurd h hn
      · rw [hfits h] at hrun
        have hdup := anyClash_insert_of_clash Route.clashes_symm he hne ((hclash e.2).trans (decide_eq_true hkey))
        obtain ⟨-, -, hvalues⟩ := served_checkedWrite hready hrun (Bad := False) (by simp) fun _ => if_pos hdup
        obtain ⟨-, hgood⟩ := hvalues hmode hlow (show reqIndex t + reqCount t ≤ s.tmc.sizes.routes + 1 by omega)
        exact hgood id
  case nodes =>
    intro w i answer addr n period
    have hrun := State.writeNodes_of_one (s := w) hcount
    refine ⟨fun hmode => served hready (hrun.trans (State.checkedWrite_of_mode hmode)),
      fun hmode hout => served hready (hrun.trans (State.checkedWrite_of_index hmode (show reqIndex t = 0 ∨ 64 + 1 < reqIndex t + reqCount t by omega))),
      fun hmode hlow hhigh => ?_⟩
    have hvalues := hrun.trans (State.checkedWrite_of_range hmode hlow (show reqIndex t + reqCount t ≤ 64 + 1 by omega))
    have bad (h : nodeWriteAt t.body 4 = .bad) : answer .badValue w := by
      rw [h] at hvalues
      exact served hready hvalues
    refine ⟨fun h => bad (nodeWriteAt_of_address h), fun hne h => bad (nodeWriteAt_of_unlisted hne (NodeKind.ofByte_above h)),
      fun hne k hk hupper h => bad (nodeWriteAt_of_subject hne hk hupper h), fun hne haddr k hk hsubject => ?entry, fun hfree hclean => ?free⟩
    case entry =>
      intro e
      rw [nodeWriteAt_of_entry hne haddr hk hsubject, if_neg (by simp)] at hvalues
      have hclash (f : NodeEntry) : f.clashes e = true ↔ f.addr = addr ∨ (k ≠ .upper ∧ f.kind = k ∧ f.subject = n) := by
        rw [NodeEntry.clashes_iff]
        by_cases hupper : k = .upper
        · simp [e, hupper]
        · simp [e, hupper]
      refine ⟨fun ⟨f, hf, hne, hfe⟩ => ?_, fun hnew hclean hrising hoff => ?_⟩
      · have hdup := anyClash_insert_of_clash NodeEntry.clashes_symm hf hne ((hclash f.2).2 hfe)
        exact served hready (hvalues.trans (if_pos hdup))
      · have hok := anyClash_insert NodeEntry.clashes_symm hclean hrising fun f hf hne => Bool.eq_false_iff.2 (mt (hclash f.2).1 (hnew f hf hne))
        have hstranded : State.strandedVehicle { w with nd := Table.insert i e s.nd } = false :=
          State.strandedVehicle_eq_false.2 fun v => .inl (hoff v)
        refine served hready (hvalues.trans ?_)
        refine (if_neg (ne_true_of_eq_false hok)).trans ((if_neg (ne_true_of_eq_false hstranded)).trans ?_)
        simp only [NodeWrite.clamped, decide_eq_true_eq]
        rfl
    case free =>
      intro left
      rw [nodeWriteAt_of_free hfree, if_neg (by simp)] at hvalues
      have hnext := hvalues.trans (if_neg (ne_true_of_eq_false (anyClash_erase _ hclean)))
      refine ⟨fun h => ?_, fun ⟨v, hoff, hentry⟩ => ?_⟩
      · have hstranded : State.strandedVehicle left = false := State.strandedVehicle_eq_false.2 h
        exact served hready (hnext.trans (if_neg (ne_true_of_eq_false hstranded)))
      · have hstranded : State.strandedVehicle left = true := by
          rw [← Bool.not_eq_false, State.strandedVehicle_eq_false]
          exact fun h => (h v).elim hoff fun hn => hn hentry
        exact served hready (hnext.trans (if_pos hstranded))

end Sys2Proof.Machine
end

section
/-! PROOFS. Table HALL as management writes it (R189). -/

namespace Sys2Proof.Machine

/-- A number past a base that has the number of an index. -/
theorem exists_eq_base_add_num {k base n : Nat} (hlow : base < n) (hhigh : n ≤ base + k) : ∃ i : Fin k, n = base + num i :=
  ⟨⟨n - base - 1, by omega⟩, by simp only [num]; omega⟩

/-! ### A field written with its value in range -/

namespace State

variable {f v : Nat} {s : State}

theorem setHall_haltOne (z : ZoneIx) (v : Nat) (s : State) :
    s.setHall (7 + num z) v = s.updZone z fun x => { x with haltOne := v = 1 } := by
  have hz : num z ≤ 8 := z.isLt
  have hlow : 1 ≤ num z := Nat.succ_pos _
  unfold setHall
  iterate 7 rw [if_neg (by omega)]
  rw [if_pos (by omega), toIx_offset 7 z]

theorem setSetting_of_press (base : Nat) (p : PressIx) (g : SpeedSettings → SpeedSettings) (s : State) :
    s.setSetting (base + num p) (base + 1) g = s.updSettings p g := by
  rw [setSetting, toIx_of_eq_num (by omega : base + num p + 1 - (base + 1) = num p)]

theorem setHall_slew (p : PressIx) (v : Nat) (s : State) : s.setHall (15 + num p) v = s.updSettings p fun x => { x with slew := v } := by
  have hp : num p ≤ 4 := p.isLt
  have hlow : 1 ≤ num p := Nat.succ_pos _
  unfold setHall
  iterate 8 rw [if_neg (by omega)]
  rw [if_pos (by omega), setSetting_of_press 15]

theorem setHall_silence (p : PressIx) (v : Nat) (s : State) : s.setHall (19 + num p) v = s.updSettings p fun x => { x with silence := v } := by
  have hp : num p ≤ 4 := p.isLt
  have hlow : 1 ≤ num p := Nat.succ_pos _
  unfold setHall
  iterate 9 rw [if_neg (by omega)]
  rw [if_pos (by omega), setSetting_of_press 19]

theorem setHall_holdover (p : PressIx) (v : Nat) (s : State) : s.setHall (23 + num p) v = s.updSettings p fun x => { x with holdover := v } := by
  have hp : num p ≤ 4 := p.isLt
  have hlow : 1 ≤ num p := Nat.succ_pos _
  unfold setHall
  iterate 10 rw [if_neg (by omega)]
  rw [if_pos (by omega), setSetting_of_press 23]

theorem setHall_floor (p : PressIx) (v : Nat) (s : State) : s.setHall (27 + num p) v = s.updSettings p fun x => { x with floor := v } := by
  have hp : num p ≤ 4 := p.isLt
  have hlow : 1 ≤ num p := Nat.succ_pos _
  unfold setHall
  iterate 11 rw [if_neg (by omega)]
  rw [setSetting_of_press 27]

end State

/-! ### The fields that keep their values -/

section Kept

variable {s : State} {g : Nat}

theorem settingOf_updSettings {base : Nat} {p : PressIx} {up : SpeedSettings → SpeedSettings} {read : SpeedSettings → Nat}
    (hread : (∀ x, read (up x) = read x) ∨ g + 1 - (base + 1) ≠ num p) :
    settingOf (s.updSettings p up) g (base + 1) read = settingOf s g (base + 1) read := by
  unfold settingOf
  cases hq : toIx 4 (g + 1 - (base + 1)) with
  | none => rfl
  | some q =>
    have hnum : g + 1 - (base + 1) = num q := eq_num_of_toIx hq
    rcases hread with hsame | hne
    · simp only [State.speedSettings_updSettings]
      split
      case isTrue h => rw [h, hsame]
      case isFalse => rfl
    · have hqp : q ≠ p := fun h => hne (hnum.trans (congrArg num h))
      simp only [State.speedSettings_updSettings, if_neg hqp.symm]

theorem hallValue_updSettings {p : PressIx} {up : SpeedSettings → SpeedSettings}
    (hslew : (∀ x, (up x).slew = x.slew) ∨ g ≠ 15 + num p) (hsilence : (∀ x, (up x).silence = x.silence) ∨ g ≠ 19 + num p)
    (hholdover : (∀ x, (up x).holdover = x.holdover) ∨ g ≠ 23 + num p) (hfloor : (∀ x, (up x).floor = x.floor) ∨ g ≠ 27 + num p) :
    hallValue (s.updSettings p up) g = hallValue s g := by
  unfold hallValue
  split_ifs
  · rfl
  · exact settingOf_updSettings (base := 15) (hslew.imp_right (by omega))
  · exact settingOf_updSettings (base := 19) (hsilence.imp_right (by omega))
  · exact settingOf_updSettings (base := 23) (hholdover.imp_right (by omega))
  · exact settingOf_updSettings (base := 27) (hfloor.imp_right (by omega))
  · rfl
  · split <;> rfl

theorem hallValue_updZone {z : ZoneIx} {up : Zone → Zone} (hne : g ≠ 7 + num z) (hlost : ∀ x, (up x).lost = x.lost)
    (hintruders : ∀ x, (up x).intruders = x.intruders) : hallValue (s.updZone z up) g = hallValue s g := by
  unfold hallValue
  split_ifs with hhalt
  · cases hy : toIx 8 (g - 7) with
    | none => rfl
    | some y =>
      have hnum : g - 7 = num y := eq_num_of_toIx hy
      have hyz : y ≠ z := by
        rintro rfl
        omega
      simp only [State.zone_updZone, if_neg hyz.symm]
  · rfl
  · rfl
  · rfl
  · rfl
  · cases toIx 8 (g - 39) with
    | none => rfl
    | some y =>
      simp only [State.zone_updZone]
      split
      case isTrue h => rw [h, hlost, hintruders]
      case isFalse => rfl
  · split <;> rfl

/-- The fields that hold one setting of the part. -/
theorem hallValue_setHall_of_single {f v : Nat} (hlow : 1 ≤ f) (hhigh : f ≤ 7) (hne : g ≠ f) (hcount : f = 7 → g ≠ 53) :
    hallValue (s.setHall f v) g = hallValue s g := by
  interval_cases f <;>
  · unfold hallValue
    iterate 6 refine ite_congr rfl (fun _ => rfl) fun _ => ?_
    split <;> first | rfl | omega

end Kept

theorem hallValue_setHall_self {f v : Nat} (s : State) (hlow : 1 ≤ f) (hhigh : f ≤ 7) (hbyte : f = 1 → v < 256) :
    hallValue (s.setHall f v) f = v := by
  interval_cases f
  · exact Nat.mod_eq_of_lt (hbyte rfl)
  all_goals rfl

/-! ### One field written -/

namespace State

variable {t : Telegram} {s : State}

theorem writeHall_of_one (hcount : reqCount t = 1) :
    s.writeHall t =
      let f := reqIndex t
      let v := (u32 t.body 4).toNat
      if s.sfu.mode ≠ .config ∧ hallConfigOnly f then s.answered .wrongMode
      else if !rangeOk f 1 31 then s.answered .badIndex
      else if hallRefused f v then s.answered .badValue
      else (s.setHall f (hallClamp f v)).answered (if hallClamp f v ≠ v then .clamped else .ok) := by
  have hws : ((List.range (reqCount t)).map fun i => (reqIndex t + i, (u32 t.body (4 + 4 * i)).toNat)) =
      [(reqIndex t, (u32 t.body 4).toNat)] := by
    simp only [hcount, List.range_one, List.map_cons, List.map_nil, Nat.mul_zero, Nat.add_zero]
  unfold writeHall
  rw [hws]
  simp only [List.any_cons, List.any_nil, Bool.or_false, List.foldl_cons, List.foldl_nil, hcount, decide_eq_true_eq]
  rfl

end State

theorem hallConfigOnly_iff {f : Nat} : hallConfigOnly f = true ↔ f = 2 ∨ (8 ≤ f ∧ f ≤ 15) := decide_eq_true_iff

theorem hallRefused_iff {f v : Nat} : hallRefused f v = true ↔ (f = 1 ∧ 240 < v) ∨ (8 ≤ f ∧ f ≤ 15 ∧ 1 < v) := decide_eq_true_iff

/-- Settles O47: the checks in order, and by the kind of the field written. -/
theorem hallFieldsAreWritten : Obligations.HallFieldsAreWritten := by
  unfold Obligations.HallFieldsAreWritten
  refine ⟨fun t rest s hready hcount => ?answers, fun f v s hlow hhigh hbyte hpolicy => ?fields, fun v s => rfl, fun f v => ?clamps⟩
  case answers =>
    intro w f v answer
    have hrun := State.writeHall_of_one (s := w) hcount
    have hrange (h : 1 ≤ f ∧ f ≤ 31) : rangeOk f 1 31 = true := State.rangeOk_one h.1 h.2
    refine ⟨fun hmode hconfig => served hready (hrun.trans (if_pos ⟨hmode, hallConfigOnly_iff.2 hconfig⟩)), fun hout => ?_, fun hlow hhigh hmode => ?_⟩
    · have hfree : ¬ (w.sfu.mode ≠ .config ∧ hallConfigOnly f) := fun h => by
        have := hallConfigOnly_iff.1 h.2
        omega
      have hbad : rangeOk f 1 31 = false := decide_eq_false (by omega)
      exact served hready (hrun.trans ((if_neg hfree).trans (if_pos (congrArg not hbad))))
    · have hfree : ¬ (w.sfu.mode ≠ .config ∧ hallConfigOnly f) := fun ⟨hm, hc⟩ => hmode.elim hm fun h => by
        have := hallConfigOnly_iff.1 hc
        omega
      have hvalue := hrun.trans ((if_neg hfree).trans (if_neg (by rw [hrange ⟨hlow, hhigh⟩]; decide)))
      refine ⟨fun hbad => served hready (hvalue.trans (if_pos (hallRefused_iff.2 hbad))), fun hgood => ?_⟩
      refine served hready (hvalue.trans ((if_neg (mt hallRefused_iff.1 hgood)).trans ?_))
      simp only [ite_not]
      rfl
  case fields => 
    by_cases hsingle : f ≤ 7
    · exact ⟨hallValue_setHall_self s hlow hsingle hbyte, fun g hne hcount => hallValue_setHall_of_single hlow hsingle hne hcount⟩
    by_cases hzone : f ≤ 15
    · obtain ⟨z, rfl⟩ := exists_eq_base_add_num (k := 8) (base := 7) (Nat.lt_of_not_le hsingle) hzone
      have hv : v ≤ 1 := hpolicy (Nat.lt_of_not_le hsingle) hzone
      rw [State.setHall_haltOne]
      refine ⟨?_, fun g hne _ => hallValue_updZone hne (fun _ => rfl) fun _ => rfl⟩
      rw [hallValue_haltOne, State.zone_updZone, if_pos rfl]
      interval_cases v <;> rfl
    by_cases hslew : f ≤ 19
    · obtain ⟨p, rfl⟩ := exists_eq_base_add_num (k := 4) (base := 15) (Nat.lt_of_not_le hzone) hslew
      rw [State.setHall_slew]
      refine ⟨(hallValue_speedSettings _ p).1.trans ?_,
        fun g hne _ => hallValue_updSettings (.inr hne) (.inl fun _ => rfl) (.inl fun _ => rfl) (.inl fun _ => rfl)⟩
      rw [State.speedSettings_updSettings, if_pos rfl]
    by_cases hsilence : f ≤ 23
    · obtain ⟨p, rfl⟩ := exists_eq_base_add_num (k := 4) (base := 19) (Nat.lt_of_not_le hslew) hsilence
      rw [State.setHall_silence]
      refine ⟨(hallValue_speedSettings _ p).2.1.trans ?_,
        fun g hne _ => hallValue_updSettings (.inl fun _ => rfl) (.inr hne) (.inl fun _ => rfl) (.inl fun _ => rfl)⟩
      rw [State.speedSettings_updSettings, if_pos rfl]
    by_cases hholdover : f ≤ 27
    · obtain ⟨p, rfl⟩ := exists_eq_base_add_num (k := 4) (base := 23) (Nat.lt_of_not_le hsilence) hholdover
      rw [State.setHall_holdover]
      refine ⟨(hallValue_speedSettings _ p).2.2.1.trans ?_,
        fun g hne _ => hallValue_updSettings (.inl fun _ => rfl) (.inl fun _ => rfl) (.inr hne) (.inl fun _ => rfl)⟩
      rw [State.speedSettings_updSettings, if_pos rfl]
    · obtain ⟨p, rfl⟩ := exists_eq_base_add_num (k := 4) (base := 27) (Nat.lt_of_not_le hholdover) hhigh
      rw [State.setHall_floor]
      refine ⟨(hallValue_speedSettings _ p).2.2.2.trans ?_,
        fun g hne _ => hallValue_updSettings (.inl fun _ => rfl) (.inl fun _ => rfl) (.inl fun _ => rfl) (.inr hne)⟩
      rw [State.speedSettings_updSettings, if_pos rfl]
  case clamps =>
    have clamped {lo hi : Nat} (h : hallRange f = some (lo, hi)) : hallClamp f v = max lo (min hi v) := by rw [hallClamp, h]; rfl
    have hzero (n : Nat) : max 0 (min n v) = min n v := Nat.zero_max _
    refine ⟨fun h => ?_, rfl, rfl, hzero 20, rfl, hzero 1000, hzero 600, fun hlow hhigh => clamped ?_, fun hlow hhigh => clamped ?_,
      fun hlow hhigh => clamped ?_, fun hlow hhigh => clamped ?_⟩
    · have hrange : hallRange f = none := by
        unfold hallRange
        iterate 10 rw [if_neg (by omega)]
      rw [hallClamp, hrange]
    · unfold hallRange
      iterate 6 rw [if_neg (by omega)]
      exact if_pos ⟨hlow, hhigh⟩
    · unfold hallRange
      iterate 7 rw [if_neg (by omega)]
      exact if_pos ⟨hlow, hhigh⟩
    · unfold hallRange
      iterate 8 rw [if_neg (by omega)]
      exact if_pos ⟨hlow, hhigh⟩
    · unfold hallRange
      iterate 9 rw [if_neg (by omega)]
      exact if_pos ⟨hlow, hhigh⟩

end Sys2Proof.Machine
end

section
/-! PROOFS. Vehicles and stands as management writes them (R74, R99). -/

namespace Sys2Proof.Machine

namespace State

variable {t : Telegram} {s : State}

/-! ### One record of VEHICLES (R74) -/

theorem writeVehicles_of_range {v : VehicleIx} (hcount : reqCount t = 1) (hindex : reqIndex t = num v) :
    s.writeVehicles t =
      let home := homeOf? (locAt t.body 4)
      let window := (u8 t.body 7).toNat
      if home.isNone then s.answered .badValue
      else if s.sfu.mode ≠ .config ∧ (home ≠ some (s.vehicle v).home ∨ clampTo 1 3 window ≠ (s.vehicle v).window) then
        s.answered .wrongMode
      else
        (s.applyVehicleWrite ⟨v, home, window, (u8 t.body 8).getLsbD 2, (u8 t.body 8).getLsbD 1⟩).answered
          (if clampTo 1 3 window ≠ window then .clamped else .ok) := by
  have hrange : rangeOk (reqIndex t) (reqCount t) 16 = true := by
    rw [hcount, hindex]
    exact rangeOk_one (Nat.le_add_left 1 _) v.isLt
  unfold writeVehicles
  rw [vehicleWrites_of_one hcount hindex, hrange]
  simp only [List.any_cons, List.any_nil, Bool.or_false, List.foldl_cons, List.foldl_nil, Bool.not_true, Bool.false_eq_true,
    if_false, decide_eq_true_eq]

theorem homeOf?_eq_none (h : u8 t.body 4 ≠ 5 ∨ u16 t.body 5 = 0 ∨ 16 < u16 t.body 5) : homeOf? (locAt t.body 4) = none := by
  unfold homeOf?
  split
  case h_2 => rfl
  case h_1 l hl =>
    obtain ⟨k, hk, rfl⟩ := Option.map_eq_some_iff.1 hl
    refine if_neg fun ⟨hkind, hlow, hhigh⟩ => ?_
    obtain rfl : k = .home := hkind
    have hbyte : u8 t.body 4 = 5 := BitVec.eq_of_toNat_eq (by
      unfold LocKind.ofByte at hk
      split at hk <;> first | assumption | cases hk)
    rcases h with h | h | h
    · exact h hbyte
    · exact absurd hlow (by show ¬ 1 ≤ u16 t.body 5; omega)
    · exact absurd hhigh (by show ¬ u16 t.body 5 ≤ 16; omega)

theorem homeOf?_of_byte (hkind : u8 t.body 4 = 5) (hlow : 1 ≤ u16 t.body 5) (hhigh : u16 t.body 5 ≤ 16) :
    homeOf? (locAt t.body 4) = some (u16 t.body 5) := by
  have hloc : locAt t.body 4 = some ⟨.home, u16 t.body 5⟩ := by rw [locAt, hkind]; rfl
  rw [hloc]
  exact homeOf?_of_home rfl hlow hhigh

/-- The causes a record leaves: MANAGEMENT as written, and DEADLOCK only while both have it. -/
def writtenCauses (w : VehicleWrite) (c : Causes) : Causes := { c with management := w.management, deadlock := c.deadlock && w.deadlock }

/-- The vehicle with the causes a record leaves. -/
def recaused (w : VehicleWrite) (s : State) : State :=
  s.setVehicle w.vehicle { s.vehicle w.vehicle with causes := writtenCauses w (s.vehicle w.vehicle).causes }

@[simp] theorem vehicle_recaused (w : VehicleWrite) (s : State) :
    (s.recaused w).vehicle w.vehicle = { s.vehicle w.vehicle with causes := writtenCauses w (s.vehicle w.vehicle).causes } :=
  vehicle_setVehicle_self ..

/-- What follows the causes a record leaves: a HOLD when MANAGEMENT is new, and a RELEASE when the last cause is gone. -/
theorem applyVehicleWrite_of_running {w : VehicleWrite} (hmode : s.sfu.mode ≠ .config) :
    s.applyVehicleWrite w =
      let x := s.vehicle w.vehicle
      let u := if w.management && !x.causes.management && s.running && decide (x.status ≠ .off) then (s.recaused w).sendHold w.vehicle
        else s.recaused w
      if !x.causes.none && (writtenCauses w x.causes).none then u.causesEmptied w.vehicle else u := by
  unfold applyVehicleWrite
  simp only [if_neg hmode, updVehicle, vehicle_setVehicle_self]
  rfl

theorem applyVehicleWrite_of_config (w : VehicleWrite) (h : s.sfu.mode = .config) :
    s.applyVehicleWrite w = s.setVehicle w.vehicle { s.vehicle w.vehicle with
      home := w.home.getD (s.vehicle w.vehicle).home, window := clampTo 1 3 w.window,
      causes := writtenCauses w (s.vehicle w.vehicle).causes } := by
  have hstopped (x : Vehicle) : (s.setVehicle w.vehicle x).running = false := not_running_of_config h
  unfold applyVehicleWrite
  simp only [if_pos h, updVehicle, vehicle_setVehicle_self, setVehicle_setVehicle, hstopped, Bool.and_false, Bool.false_and,
    Bool.false_eq_true, if_false, causesEmptied, false_and, ite_self]
  rfl

theorem applyVehicleWrite_of_kept {w : VehicleWrite} (hmode : s.sfu.mode ≠ .config)
    (h : writtenCauses w (s.vehicle w.vehicle).causes = (s.vehicle w.vehicle).causes) : s.applyVehicleWrite w = s := by
  have hmanagement : w.management = (s.vehicle w.vehicle).causes.management := congrArg Causes.management h
  have hkept : s.recaused w = s := by rw [recaused, h]; exact setVehicle_self ..
  rw [applyVehicleWrite_of_running hmode]
  simp [h, hmanagement, hkept]

theorem applyVehicleWrite_of_halted {w : VehicleWrite} (hmode : s.sfu.mode ≠ .config) (hrun : s.running = true)
    (hw : w.management = true) (hold : (s.vehicle w.vehicle).causes.management = false)
    (hoff : (s.vehicle w.vehicle).status ≠ .off) : s.applyVehicleWrite w = (s.recaused w).sendHold w.vehicle := by
  have hnew : (writtenCauses w (s.vehicle w.vehicle).causes).none = false := by simp [Causes.none, writtenCauses, hw]
  rw [applyVehicleWrite_of_running hmode]
  simp [hnew, hw, hold, hrun, hoff]

theorem applyVehicleWrite_of_emptied {w : VehicleWrite} (hmode : s.sfu.mode ≠ .config)
    (hnew : (writtenCauses w (s.vehicle w.vehicle).causes).none = true) (hold : (s.vehicle w.vehicle).causes.none = false) :
    s.applyVehicleWrite w = (s.recaused w).causesEmptied w.vehicle := by
  have hw : w.management = false := by
    simp only [Causes.none, writtenCauses, Bool.not_eq_true', Bool.or_eq_false_iff] at hnew
    exact hnew.1.2
  rw [applyVehicleWrite_of_running hmode]
  simp [hnew, hw, hold]

theorem causesEmptied_of_still {v : VehicleIx} (h : (s.vehicle v).status = .off ∨ (s.vehicle v).status = .lost) :
    s.causesEmptied v = s := if_neg fun ⟨_, hoff, hlost⟩ => h.elim hoff hlost

/-- A vehicle at work that waits nowhere and holds no order back goes on as it was. -/
theorem takeUp_of_busy {v : VehicleIx} (hbusy : (s.vehicle v).status = .busy) (hqueue : (s.vehicle v).queue = [])
    (hwaits : s.waitsFor? v = none) : s.takeUp v = s := by
  rw [takeUp, serveWaiting_of_none hwaits, hbusy]
  exact forwardAndTell_of_nil hqueue

/-! ### One record of STANDS (R99) -/

theorem writeStands_of_one {st : StandIx} (hcount : reqCount t = 1) (hindex : reqIndex t = num st) :
    s.writeStands t =
      let n := (u8 t.body 4).toNat
      if 4 < n then s.answered .badValue
      else if s.sfu.mode = .config then (s.moveStand st (toIx 4 n)).answered .ok
      else if (s.stand st).press ≠ toIx 4 n then s.answered .wrongMode
      else s.answered .ok := by
  have hrange : rangeOk (reqIndex t) (reqCount t) 24 = true := by
    rw [hcount, hindex]
    exact rangeOk_one (Nat.le_add_left 1 _) st.isLt
  have hix : toIx 24 (reqIndex t + 0) = some st := toIx_of_eq_num ((Nat.add_zero _).trans hindex)
  have hws : standWrites t = [(st, (u8 t.body 4).toNat)] := by
    rw [standWrites, hcount, List.range_one, List.filterMap_cons_some, List.filterMap_nil]
    rw [hix]
    rfl
  unfold writeStands
  rw [hws, hrange]
  simp only [List.any_cons, List.any_nil, Bool.or_false, List.foldl_cons, List.foldl_nil, Bool.not_true, Bool.false_eq_true,
    if_false, decide_eq_true_eq]

theorem toIx_pressNumber (p : Option PressIx) : toIx 4 (pressNumber p) = p := by
  cases p with
  | none => rfl
  | some p => exact toIx_num p

theorem pressNumber_le (p : Option PressIx) : ¬ 4 < pressNumber p := by
  cases p with
  | none => decide
  | some p => exact Nat.not_lt.2 p.isLt

theorem moveStand_of_same {st : StandIx} : s.moveStand st (s.stand st).press = s := if_pos rfl

/-- A stand without a press given a press that is not in use. -/
theorem moveStand_of_unused {st : StandIx} {q : PressIx} (hpress : (s.stand st).press = none) (hstate : (s.stand st).state = .out)
    (hlres : (s.stand st).lres = 0) (hts : (s.stand st).ts = 65535) (huse : s.inUse q = false) :
    s.moveStand st (some q) = (s.setStand st { s.stand st with press := some q }).setReady q false := by
  let u := (s.setStand st { s.stand st with press := some q }).setReady q false
  have hu : u.stand st = { s.stand st with press := some q } := stand_setStand_self ..
  have hout : u.armsState st = .out := if_neg (by
    rw [inLead, hu]
    show ¬ (u.inUse q && _) = true
    rw [show u.inUse q = false from huse, Bool.false_and]
    exact Bool.false_ne_true)
  have hmove : s.moveStand st (some q) = u.updStand st fun x =>
      { x with state := u.armsState st, lres := if u.armsState st = .out then 0 else x.lres,
               ts := if u.armsState st = .out ∨ u.armsState st = .idle then Config.unbounded else x.ts } := by
    unfold moveStand
    simp only [hpress, clearReady]
    rfl
  rw [hmove, hout, updStand, hu]
  have hsame : ({ s.stand st with press := some q, state := .out, lres := 0, ts := 65535 } : Stand) = { s.stand st with press := some q } := by
    rw [← hstate, ← hlres, ← hts]
  refine Eq.trans ?_ (congrArg (fun y => (u.setStand st y)) hsame |>.trans ?_)
  · simp [Config.unbounded]
  · exact congrArg (setReady q false) (setStand_setStand ..)

end State

theorem Causes.eq_of_none {c : Causes} (h : c.none = true) : c = ⟨false, false, false, false⟩ := by
  obtain ⟨zone, deadlock, management, intrusion⟩ := c
  simpa [Causes.none, and_assoc] using h

theorem State.running_of_ready {row : Row} {t : Telegram} {rest : List Telegram} {s : State} (h : Ready row t rest s)
    (hmode : s.sfu.mode ≠ .config) : (s.popped rest).running = true := by
  obtain ⟨-, -, -, hstarted, -⟩ := h
  refine running_iff.2 ?_
  show s.sfu.mode = .normal ∨ s.sfu.mode = .autonomous
  cases hm : s.sfu.mode with
  | startUp => exact absurd hm hstarted
  | config => exact absurd hm hmode
  | normal => exact .inl rfl
  | autonomous => exact .inr rfl

/-- Settles O48: each record's checks, and by the mode and the causes that it leaves. -/
theorem vehicleAndStandWrites : Obligations.VehicleAndStandWrites := by
  unfold Obligations.VehicleAndStandWrites
  refine ⟨fun v t rest s hready hcount hindex => ?vehicles, fun t rest s hready hout => ?vehicleIndex,
    fun st t rest s hready hcount hindex => ?stands, fun t rest s hready hout => ?standIndex⟩
  case vehicleIndex =>
    have hrange : rangeOk (reqIndex t) (reqCount t) 16 = false := decide_eq_false (by omega)
    exact served hready (if_pos (congrArg not hrange))
  case standIndex =>
    have hrange : rangeOk (reqIndex t) (reqCount t) 24 = false := decide_eq_false (by omega)
    exact served hready (if_pos (congrArg not hrange))
  case vehicles =>
    intro w x answer home window clamped outcome causes
    have hrun := State.writeVehicles_of_range (s := w) hcount hindex
    refine ⟨fun hbad => ?_, fun hkind hlow hhigh => ?_⟩
    · rw [State.homeOf?_eq_none hbad] at hrun
      exact served hready (hrun.trans (if_pos rfl))
    rw [State.homeOf?_of_byte hkind hlow hhigh] at hrun
    let record : State.VehicleWrite := ⟨v, some home, window, (u8 t.body 8).getLsbD 2, (u8 t.body 8).getLsbD 1⟩
    have hgood := hrun.trans (if_neg Bool.false_ne_true)
    have houtcome : (if clampTo 1 3 window ≠ window then Result.clamped else .ok) = outcome := ite_not ..
    refine ⟨fun hmode => ?_, fun hmode hchange => ?_, fun hmode hhome hwindow => ?_⟩
    · have happly : w.applyVehicleWrite record = w.setVehicle v { x with home := home, window := clamped, causes := causes } :=
        State.applyVehicleWrite_of_config record hmode
      exact served hready (hgood.trans ((if_neg fun h => h.1 hmode).trans (congrArg₂ State.answered houtcome happly)))
    · have hdiffers : some home ≠ some x.home ∨ clampTo 1 3 window ≠ x.window := hchange.imp_left fun hne he => hne (Option.some.inj he)
      exact served hready (hgood.trans (if_pos ⟨hmode, hdiffers⟩))
    · intro u
      have hsame : ¬ (w.sfu.mode ≠ .config ∧ (some home ≠ some x.home ∨ clampTo 1 3 window ≠ x.window)) :=
        fun ⟨_, hd⟩ => hd.elim (fun hne => hne (congrArg some hhome)) fun hne => hne hwindow
      have done {u : State} (h : w.applyVehicleWrite record = u) : answer outcome u :=
        served hready (hgood.trans ((if_neg hsame).trans (congrArg₂ State.answered houtcome h)))
      have hrunning : w.running = true := State.running_of_ready hready hmode
      have emptied (hcauses : causes = ⟨false, false, false, false⟩) (hne : causes ≠ x.causes) :
          w.applyVehicleWrite record = u.causesEmptied v := by
        have hnew : causes.none = true := by rw [hcauses]; rfl
        have hold : x.causes.none = false := Bool.eq_false_iff.2 fun h => hne (hcauses.trans (Causes.eq_of_none h).symm)
        exact State.applyVehicleWrite_of_emptied (w := record) hmode hnew hold
      have hu : u.vehicle v = { x with causes := causes } := State.vehicle_setVehicle_self ..
      refine ⟨fun hkept => done (State.applyVehicleWrite_of_kept (w := record) hmode hkept),
        fun hnew hold hoff => done (State.applyVehicleWrite_of_halted (w := record) hmode hrunning hnew hold hoff),
        fun hcauses hne hstill => done ((emptied hcauses hne).trans (State.causesEmptied_of_still (by rw [hu]; exact hstill))),
        fun hcauses hne hbusy hqueue hwaits => done ((emptied hcauses hne).trans ?_)⟩
      have hlink := LinkOp.sendRelease v
      have hr : (u.sendRelease v).vehicle v = { x with causes := causes } := (hlink.vehicle_eq u v).trans hu
      rw [State.causesEmptied_of_works (by exact hrunning) (by rw [hu]; exact fun h => nomatch hbusy.symm.trans h)
        (by rw [hu]; exact fun h => nomatch hbusy.symm.trans h)]
      refine State.takeUp_of_busy (by rw [hr]; exact hbusy) (by rw [hr]; exact hqueue) ?_
      exact (hlink.waitsFor?_eq u v).trans hwaits
  case stands =>
    intro w x answer
    have hrun := State.writeStands_of_one (s := w) hcount hindex
    refine ⟨fun hbad => served hready (hrun.trans (if_pos hbad)), fun p hp => ?_⟩
    have hgood := hrun.trans (if_neg (by rw [hp]; exact State.pressNumber_le p))
    rw [hp, State.toIx_pressNumber] at hgood
    refine ⟨fun hsame => ?_, fun hmode hchange => served hready (hgood.trans ((if_neg hmode).trans (if_pos (Ne.symm hchange)))),
      fun hmode hchange hnone hstate hlres hts q hq huse => ?_⟩
    · subst hsame
      by_cases hmode : s.sfu.mode = .config
      · refine served hready (hgood.trans ((if_pos hmode).trans ?_))
        exact congrArg (State.answered .ok) (State.moveStand_of_same (s := w))
      · exact served hready (hgood.trans ((if_neg hmode).trans (if_neg (not_not.2 rfl))))
    · subst hq
      refine served hready (hgood.trans ((if_pos hmode).trans ?_))
      exact congrArg (State.answered .ok) (State.moveStand_of_unused (s := w) hnone hstate hlres hts huse)

end Sys2Proof.Machine
end

section
/-! PROOFS. The announcement of a roll (R4). -/

namespace Sys2Proof.Machine

/-! ### The lowest free slot -/

theorem Table.find?_eq_none_of_not_mem {α : Type} {k : Nat} {l : List (Nat × α)} (h : ∀ e ∈ l, e.1 ≠ k) : Table.find? k l = none := by
  cases hfind : Table.find? k l with
  | none => rfl
  | some a => exact absurd rfl (h _ (Table.mem_of_find hfind))

theorem Table.find?_cons_of_ne {α : Type} {k j : Nat} {a : α} {l : List (Nat × α)} (h : j ≠ k) :
    Table.find? k ((j, a) :: l) = Table.find? k l := if_neg h

/-- The lowest free key is free, and every key from n up to it is listed. -/
theorem freeKey_lowest {α : Type} (l : List (Nat × α)) (hrising : Table.rising l = true) (n : Nat) :
    n ≤ freeKey n l ∧ Table.find? (freeKey n l) l = none ∧ ∀ k, n ≤ k → k < freeKey n l → Table.find? k l ≠ none := by
  induction l generalizing n with
  | nil => exact ⟨Nat.le_refl n, rfl, fun k hlow hhigh => absurd hhigh (Nat.not_lt.2 hlow)⟩
  | cons e l ih =>
    obtain ⟨j, a⟩ := e
    obtain ⟨hkeys, hrest⟩ := Table.rising_cons.1 hrising
    unfold freeKey
    split
    case isTrue hbelow =>
      obtain ⟨hle, hfree, htaken⟩ := ih hrest n
      refine ⟨hle, ?_, fun k hlow hhigh => ?_⟩
      · rw [Table.find?_cons_of_ne (by omega)]
        exact hfree
      · rw [Table.find?_cons_of_ne (by omega)]
        exact htaken k hlow hhigh
    case isFalse hbelow =>
      split
      case isTrue heq =>
        obtain ⟨hle, hfree, htaken⟩ := ih hrest (n + 1)
        refine ⟨by omega, ?_, fun k hlow hhigh => ?_⟩
        · rw [Table.find?_cons_of_ne (by omega)]
          exact hfree
        · by_cases hk : j = k
          · rw [Table.find?, if_pos hk]
            exact Option.some_ne_none a
          · rw [Table.find?_cons_of_ne hk]
            exact htaken k (by omega) hhigh
      case isFalse hne =>
        refine ⟨Nat.le_refl n, Table.find?_eq_none_of_not_mem fun e he => ?_, fun k hlow hhigh => absurd hhigh (Nat.not_lt.2 hlow)⟩
        rcases List.mem_cons.1 he with rfl | he
        · exact hne
        · have := hkeys e he
          omega

/-! ### The fields of an announcement -/

theorem kind_eq_dock_of_locAt {l : List Byte} {i : Nat} {x : Loc} (h : locAt l i = some x) : x.kind = .dock ↔ u8 l i = 3 := by
  obtain ⟨k, hk, rfl⟩ := Option.map_eq_some_iff.1 h
  constructor
  · rintro (rfl : k = .dock)
    refine BitVec.eq_of_toNat_eq ?_
    unfold LocKind.ofByte at hk
    split at hk <;> first | assumption | cases hk
  · intro hbyte
    rw [hbyte] at hk
    exact (Option.some.inj hk).symm

/-- The fields of an announcement lie in their ranges. -/
def RollNotice.fits (n : RollNotice) (kind : Byte) (dock : Nat) : Prop :=
  1 ≤ n.grade ∧ n.grade ≤ 63 ∧ 300 ≤ n.width ∧ n.width ≤ 2200 ∧ 400 ≤ n.dann ∧ n.dann ≤ 1500 ∧ 70 ≤ n.core ∧
    n.core ≤ 160 ∧ n.core < n.dann ∧ 40 ≤ n.caliper ∧ n.caliper ≤ 150 ∧ kind = 3 ∧ 1 ≤ dock ∧ dock ≤ 8

theorem dock?_of_fits {body : List Byte} (h : (rollNotice body).fits (u8 body 22) (u16 body 23)) :
    (rollNotice body).dock? = some (u16 body 23) := by
  obtain ⟨h₁, h₂, h₃, h₄, h₅, h₆, h₇, h₈, h₉, h₁₀, h₁₁, hkind, hlow, hhigh⟩ := h
  have hdock : (rollNotice body).dock = some ⟨.dock, u16 body 23⟩ := by
    show locAt body 22 = _
    rw [locAt, hkind]
    rfl
  unfold RollNotice.dock?
  rw [hdock]
  exact if_pos ⟨h₁, h₂, h₃, h₄, h₅, h₆, h₇, h₈, h₉, h₁₀, h₁₁, rfl, hlow, hhigh⟩

theorem dock?_of_unfit {body : List Byte} (h : ¬ (rollNotice body).fits (u8 body 22) (u16 body 23)) :
    (rollNotice body).dock? = none := by
  unfold RollNotice.dock?
  cases hdock : (rollNotice body).dock with
  | none => rfl
  | some l =>
    have hkind := kind_eq_dock_of_locAt (l := body) (i := 22) hdock
    have hnum : l.num = u16 body 23 := by
      obtain ⟨k, -, rfl⟩ := Option.map_eq_some_iff.1 (show locAt body 22 = some l from hdock)
      rfl
    refine if_neg fun hc => h ?_
    rw [hkind, hnum] at hc
    exact hc

namespace State

variable {s : State}

theorem isSome_roll?_iff {id : RollId} : (s.roll? id).isSome = true ↔ ∃ e ∈ s.tmc.rolls, e.2.id = id := by
  rw [roll?, Option.isSome_map, findRoll, List.find?_isSome]
  simp only [decide_eq_true_eq]

theorem paperLength_of_lt {d t D : Nat} (h : d < D) : paperLength d t D = (D * D - d * d) * 32170 / (4096 * t) :=
  if_neg (Nat.not_le.2 h)

end State

/-- Settles O49: the checks of an announcement in their order, then the record in the lowest free slot. -/
theorem rollIsAnnounced : Obligations.RollIsAnnounced := by
  unfold Obligations.RollIsAnnounced
  intro t rest s hready w answer id grade width dann core caliper dock fields slot
  refine ⟨fun hindex => served hready (if_pos hindex), fun hindex hcount => ?_, fun hrising => ?_⟩
  · have hrequest : ¬ (reqIndex t ≠ 0 ∨ reqCount t ≠ 1) := by omega
    refine ⟨fun hid => served hready ((if_neg hrequest).trans (if_pos hid)), fun hzero hones => ?_⟩
    have hid : ¬ (id = 0 ∨ id = unknownRoll) := fun h => h.elim hzero hones
    refine ⟨fun hknown => ?_, fun hnew => ?_⟩
    · exact served hready ((if_neg hrequest).trans ((if_neg hid).trans (if_pos (State.isSome_roll?_iff.2 hknown))))
    have hnone : ¬ (w.roll? id).isSome = true := fun h => by
      obtain ⟨e, he, hsame⟩ := State.isSome_roll?_iff.1 h
      exact hnew e he hsame
    have hrun : w.announceRoll t = _ := (if_neg hrequest).trans ((if_neg hid).trans (if_neg hnone))
    refine ⟨fun hbad => ?_, fun hfits hfull => ?_, fun hfits hroom => ?_⟩
    · rw [dock?_of_unfit hbad] at hrun
      exact served hready hrun
    · rw [dock?_of_fits hfits] at hrun
      exact served hready (hrun.trans (if_pos hfull))
    · rw [dock?_of_fits hfits] at hrun
      intro r
      have hroll : (rollNotice t.body).roll dock s.clock = r := by
        obtain ⟨-, -, -, -, -, -, -, -, hcore, -⟩ := hfits
        unfold RollNotice.roll
        rw [State.paperLength_of_lt (d := (rollNotice t.body).core) (D := (rollNotice t.body).dann) hcore]
        rfl
      refine served hready (hrun.trans ((if_neg (Nat.not_lt.2 hroom)).trans ?_))
      exact congrArg (fun x => (w.setSlot slot x).answered .ok) hroll
  · obtain ⟨-, hfree, htaken⟩ := freeKey_lowest s.tmc.rolls hrising 1
    exact ⟨hfree, htaken⟩

end Sys2Proof.Machine
end

section
/-! PROOFS. The closed runs, the starved set, and the blocked marks of segments and places (R8, R54, R103, R153). -/

namespace Sys2Proof.Machine

namespace State

variable {s : State}

/-! ### Blocked marks -/

/-- A number that no configured segment has. -/
def noSegment (s : State) (n : Nat) : Prop := n = 0 ∨ 255 < n ∨ (s.seg n).capacity = 0

theorem noSegment_iff {n : Nat} : s.noSegment n ↔ (n = 0 ∨ 255 < n ∨ (!s.configured n) = true) := by
  simp [noSegment, configured]

theorem blockSegment_of_none {n : Nat} (h : s.noSegment n) : s.blockSegment n = s.answered .badIndex := if_pos (noSegment_iff.1 h)

theorem blockSegment_of_some {n : Nat} (h : ¬ s.noSegment n) :
    s.blockSegment n = (s.setSeg n { s.seg n with blocked := true }).answered .ok := if_neg (mt noSegment_iff.2 h)

theorem unblockSegment_of_none {n : Nat} (h : s.noSegment n) : s.unblockSegment n = s.answered .badIndex := if_pos (noSegment_iff.1 h)

theorem unblockSegment_of_open {n : Nat} (h : ¬ s.noSegment n) (hopen : (s.seg n).blocked = false) :
    s.unblockSegment n = s.answered .ok := by
  rw [unblockSegment, if_neg (mt noSegment_iff.2 h), hopen]
  rfl

theorem unblockSegment_of_blocked {n : Nat} (h : ¬ s.noSegment n) (hblocked : (s.seg n).blocked = true) :
    s.unblockSegment n = ((s.setSeg n { s.seg n with blocked := false }).serve n).answered .ok := by
  rw [unblockSegment, if_neg (mt noSegment_iff.2 h), hblocked]
  rfl

/-- A number that no place has. -/
def noPlace (s : State) (n : Nat) : Prop := n = 0 ∨ s.tmc.sizes.places < n

theorem blockPlace_of_some {n : Nat} (h : ¬ s.noPlace n) (hpar : s.noParity) :
    s.blockPlace n = (s.setPlace n { s.place n with blocked := true }).answered .ok :=
  (if_neg h).trans (by rw [updPlace_of_noParity hpar])

theorem unblockPlace_of_open {n : Nat} (h : ¬ s.noPlace n) (hpar : s.noParity) (hopen : (s.place n).blocked = false) :
    s.unblockPlace n = s.answered .ok := by
  refine (if_neg h).trans ?_
  simp only [readPlace_of_noParity hpar, hopen, Bool.false_eq_true, if_false]

theorem places_rising (h : s.tablesWf = true) : Table.rising s.tmc.places = true := by
  simp only [tablesWf, Bool.and_eq_true] at h
  obtain ⟨⟨⟨⟨-, hplaces⟩, -⟩, -⟩, -⟩ := h
  exact (Table.wf_iff.1 hplaces).1

theorem place_setPlace_self (hwf : s.tablesWf = true) (n : Nat) (x : Place) : (s.setPlace n x).place n = x :=
  (Table.get_put n n x (places_rising hwf)).trans (if_pos rfl)

/-- The place without its mark. -/
def unblocked (n : Nat) (s : State) : State := s.setPlace n { s.place n with blocked := false }

theorem updPlace_unblocked (hpar : s.noParity) (n : Nat) : (s.updPlace n fun x => { x with blocked := false }) = s.unblocked n :=
  updPlace_of_noParity hpar ..

section Unblocked

variable {n : Nat} (h : ¬ s.noPlace n) (hpar : s.noParity) (hwf : s.tablesWf = true) (hblocked : (s.place n).blocked = true)

include h hpar hwf hblocked

theorem unblockPlace_of_empty (hempty : (s.place n).occupant = none) : s.unblockPlace n = (s.unblocked n).answered .ok := by
  have hoccupant : ((s.unblocked n).place n).occupant = none :=
    (congrArg Place.occupant (place_setPlace_self hwf n { s.place n with blocked := false })).trans hempty
  refine (if_neg h).trans ?_
  simp only [readPlace_of_noParity hpar, hblocked, if_true, updPlace_unblocked hpar, hoccupant]

theorem unblockPlace_of_occupied {id : RollId} (hid : (s.place n).occupant = some id) :
    s.unblockPlace n = ((s.unblocked n).announceAvailable id).answered .ok := by
  have hparity : (s.unblocked n).noParity := noParity_setPlace n _ hpar
  have hoccupant : ((s.unblocked n).place n).occupant = some id :=
    (congrArg Place.occupant (place_setPlace_self hwf n { s.place n with blocked := false })).trans hid
  refine (if_neg h).trans ?_
  simp only [readPlace_of_noParity hpar, hblocked, if_true, updPlace_unblocked hpar, hoccupant, readRoll_of_noParity hparity]

end Unblocked

theorem announceAvailable_of_unknown {id : RollId} (h : s.roll? id = none) : s.announceAvailable id = s := by
  simp only [announceAvailable, h]

theorem announceAvailable_of_available {id : RollId} {r : Roll} (hpar : s.noParity) (hr : s.roll? id = some r)
    (h : s.isAvailable r = true) : s.announceAvailable id = s.availability := by
  simp only [announceAvailable, hr, readStored_of_noParity hpar, h, if_true]

theorem announceAvailable_of_unavailable {id : RollId} {r : Roll} (hpar : s.noParity) (hr : s.roll? id = some r)
    (h : s.isAvailable r = false) : s.announceAvailable id = s := by
  simp only [announceAvailable, hr, readStored_of_noParity hpar, h, Bool.false_eq_true, if_false]

theorem isAvailable_of_stored {r : Roll} {p : Nat} (h : r.status = .stored p) :
    s.isAvailable r = (r.holds.none && !(s.place p).blocked) := by
  simp only [isAvailable, h]

theorem isAvailable_of_kept {r : Roll} (h : (∀ p, r.status ≠ .stored p) ∨ r.holds.none = false) : s.isAvailable r = false := by
  unfold isAvailable
  split
  case h_1 p hp => rw [h.resolve_left fun hne => hne p hp, Bool.false_and]
  case h_2 => rfl

end State

/-- Settles O51: the runs and the starved set, and the marks of segments and places. -/
theorem runsStarvedSetAndBlockedMarks : Obligations.RunsStarvedSetAndBlockedMarks := by
  unfold Obligations.RunsStarvedSetAndBlockedMarks
  refine ⟨fun t rest s => ⟨fun hready => ⟨fun hnone => ?_, fun c more hclosed => ?_⟩,
      fun hready => ⟨fun hbits => served hready (if_pos hbits), fun hbits => served hready (if_neg (not_not.2 hbits))⟩,
      fun hready => served hready rfl⟩,
    fun t rest s => ?marks⟩
  · have hrun : (s.popped rest).takeRun t = (s.popped rest).answered .notFound := by
      simp only [State.takeRun, show (s.popped rest).scu.closed = [] from hnone]
    exact served hready hrun
  · have hrun : (s.popped rest).takeRun t = ({ result := .ok, data := c.bytes }, (s.popped rest).setClosed more) := by
      simp only [State.takeRun, show (s.popped rest).scu.closed = c :: more from hclosed]
    exact served hready hrun
  case marks =>
    intro w n answer noSegment
    refine ⟨fun hready => ⟨fun h => served hready (State.blockSegment_of_none (s := w) h),
        fun h => served hready (State.blockSegment_of_some (s := w) h)⟩,
      fun hready => ⟨fun h => served hready (State.unblockSegment_of_none (s := w) h),
        fun h hopen => served hready (State.unblockSegment_of_open (s := w) h hopen),
        fun h hblocked => served hready (State.unblockSegment_of_blocked (s := w) h hblocked)⟩,
      fun hready hpar => ⟨fun hkind => served hready (if_neg hkind),
        fun hkind hn => served hready ((if_pos hkind).trans (if_pos hn)), fun hkind hlow hhigh => ?block⟩,
      fun hready hpar hwf => ⟨fun hkind => served hready (if_neg hkind),
        fun hkind hn => served hready ((if_pos hkind).trans (if_pos hn)), fun hkind hlow hhigh => ?unblock⟩⟩
    case block =>
      have hplace : ¬ w.noPlace n := fun h => h.elim (fun h => by omega) (Nat.not_lt.2 hhigh)
      exact served hready ((if_pos hkind).trans (State.blockPlace_of_some hplace hpar))
    case unblock =>
      intro u
      have hplace : ¬ w.noPlace n := fun h => h.elim (fun h => by omega) (Nat.not_lt.2 hhigh)
      refine ⟨fun hopen => served hready ((if_pos hkind).trans (State.unblockPlace_of_open hplace hpar hopen)),
        fun hblocked => ⟨fun hempty => served hready ((if_pos hkind).trans (State.unblockPlace_of_empty hplace hpar hwf hblocked hempty)),
          fun id hid => ?_⟩⟩
      have hrun : State.onPlace State.unblockPlace t w = (u.announceAvailable id).answered .ok :=
        (if_pos hkind).trans (State.unblockPlace_of_occupied hplace hpar hwf hblocked hid)
      have announced {u' : State} (h : u.announceAvailable id = u') : answer .unblockPlace .ok u' := by
        subst h
        exact served hready hrun
      have hparity : u.noParity := State.noParity_setPlace n _ hpar
      have hplaceU : u.place n = { s.place n with blocked := false } := State.place_setPlace_self (s := w) hwf ..
      refine ⟨fun hnone => announced (State.announceAvailable_of_unknown ?_), fun k r hr => ⟨fun hstored hfree => ?_, fun hkept => ?_⟩⟩
      · exact congrArg (Option.map Prod.snd) hnone
      · refine announced (State.announceAvailable_of_available (r := r) hparity (State.roll?_of_findRoll (s := u) hr) ?_)
        rw [State.isAvailable_of_stored hstored, hplaceU, hfree]
        rfl
      · refine announced (State.announceAvailable_of_unavailable (r := r) hparity (State.roll?_of_findRoll (s := u) hr) ?_)
        exact State.isAvailable_of_kept (hkept.imp_right fun hne => Bool.eq_false_iff.2 (mt (Holds.none_iff _).1 hne))

end Sys2Proof.Machine
end

section
/-! PROOFS. The six actions of MROLL (R25). -/

namespace Sys2Proof.Machine

/-! ### A record written as it stands -/

theorem Table.insert_of_mem {α : Type} {k : Nat} {a : α} : ∀ {l : List (Nat × α)}, Table.rising l = true → (k, a) ∈ l →
    Table.insert k a l = l
  | (j, b) :: r, hrising, hmem => by
    obtain ⟨hkeys, hrest⟩ := Table.rising_cons.1 hrising
    rcases List.mem_cons.1 hmem with heq | hmem
    · obtain ⟨rfl, rfl⟩ := Prod.mk.inj heq
      rw [Table.insert, if_neg (Nat.lt_irrefl k), if_pos rfl]
    · have hlt : j < k := hkeys _ hmem
      rw [Table.insert, if_neg (Nat.lt_asymm hlt), if_neg (Nat.ne_of_gt hlt), Table.insert_of_mem hrest hmem]

namespace State

variable {s : State} {id : RollId} {k : Nat} {r : Roll}

theorem rolls_rising (h : s.tablesWf = true) : Table.rising s.tmc.rolls = true := by
  simp only [tablesWf, Bool.and_eq_true] at h
  obtain ⟨⟨⟨⟨hrolls, -⟩, -⟩, -⟩, -⟩ := h
  exact hrolls

theorem setSlot_of_found (hpar : s.noParity) (hwf : s.tablesWf = true) (hr : s.findRoll id = some (k, r)) : s.setSlot k r = s := by
  obtain ⟨hbad, -, -⟩ := hpar
  have hinsert := Table.insert_of_mem (rolls_rising hwf) (List.mem_of_find?_eq_some hr)
  have hfilter : s.tmc.badRolls.filter (· ≠ k) = s.tmc.badRolls := by rw [hbad]; rfl
  rw [setSlot, hinsert, hfilter]

/-! ### The request and its report -/

/-- A STORED roll with no hold. -/
def storedFree (r : Roll) : Prop := (∃ p, r.status = .stored p) ∧ r.holds = ⟨false, false, false, false, false⟩

theorem rollReport_of_unknown (sel : Byte) (h : s.findRoll id = none) : s.rollReport sel id = if sel = 3 then [2] else [0] := by
  have hnone : s.roll? id = none := congrArg (Option.map Prod.snd) h
  simp only [rollReport, hnone]

theorem rollReport_of_shown {sel : Byte} (hr : s.findRoll id = some (k, r)) (h : sel = 1 ∨ sel = 3 ∨ (sel = 2 ∧ storedFree r)) :
    s.rollReport sel id = 1 :: r.bytes := by
  simp only [rollReport, roll?_of_findRoll hr]
  refine if_pos (h.imp_right (Or.imp_right fun ⟨hsel, ⟨p, hp⟩, hholds⟩ => ⟨hsel, ?_⟩))
  rw [hp]
  exact (Holds.none_iff _).2 hholds

theorem rollReport_of_hidden {sel : Byte} (hr : s.findRoll id = some (k, r)) (h : sel = 0 ∨ (sel = 2 ∧ ¬ storedFree r)) :
    s.rollReport sel id = [0] := by
  simp only [rollReport, roll?_of_findRoll hr]
  refine if_neg fun hc => ?_
  rcases h with rfl | ⟨rfl, hkept⟩
  · exact absurd hc (by simp)
  · rcases hc with h | h | ⟨-, hfree⟩
    · exact absurd h (by decide)
    · exact absurd h (by decide)
    · split at hfree
      case h_1 p hp => exact hkept ⟨⟨p, hp⟩, (Holds.none_iff _).1 hfree⟩
      case h_2 => exact Bool.false_ne_true hfree

variable {t : Telegram} {act : Nat → Roll → State → Result × State}

theorem rollRequest_of_badId (h : u32 t.body 0 = 0 ∨ u32 t.body 0 = 0xFFFFFFFF#32) :
    rollRequest act t s = ({ result := .badValue, data := [0] }, s) := if_pos h

theorem rollRequest_of_badCode (hid : ¬ (u32 t.body 0 = 0 ∨ u32 t.body 0 = 0xFFFFFFFF#32))
    (h : 3 < (u8 t.body 4).toNat ∨ 5 < (u8 t.body 5).toNat) : rollRequest act t s = ({ result := .badAction, data := [0] }, s) :=
  (if_neg hid).trans (if_pos h)

section Formed

variable (hid : ¬ (u32 t.body 0 = 0 ∨ u32 t.body 0 = 0xFFFFFFFF#32)) (hcode : ¬ (3 < (u8 t.body 4).toNat ∨ 5 < (u8 t.body 5).toNat))
  (hpar : s.noParity)

include hid hcode hpar

theorem rollRequest_of_unknown (h : s.findRoll (u32 t.body 0) = none) :
    rollRequest act t s =
      ({ result := if u8 t.body 5 = 0 then .ok else .notFound, data := if u8 t.body 4 = 3 then [2] else [0] }, s) := by
  refine (if_neg hid).trans ((if_neg hcode).trans ?_)
  simp only [show reqRoll t = u32 t.body 0 from rfl, readRoll_of_noParity hpar, h, rollReport_of_unknown _ h]

theorem rollRequest_of_found (h : s.findRoll (u32 t.body 0) = some (k, r)) :
    rollRequest act t s =
      ({ result := (act k r s).1, data := s.rollReport (u8 t.body 4) (u32 t.body 0) }, (act k r s).2) := by
  refine (if_neg hid).trans ((if_neg hcode).trans ?_)
  simp only [show reqRoll t = u32 t.body 0 from rfl, readRoll_of_noParity hpar, h]

end Formed

/-! ### The actions -/

/-- What an MROLL row does with the roll found. -/
def rollAct : Row → Nat → Roll → State → Result × State
  | .mrollReserve => reserveRoll
  | .mrollRelease => releaseRoll
  | .mrollHold => holdRoll
  | .mrollUnhold => unholdRoll
  | .mrollRemove => removeRoll
  | _ => fun _ _ s => (.ok, s)

theorem exec_rollRow {row : Row} (s : State)
    (h : row = .mrollNone ∨ row = .mrollReserve ∨ row = .mrollRelease ∨ row = .mrollHold ∨ row = .mrollUnhold ∨ row = .mrollRemove) :
    exec row.command s = awake (serveRequest row (rollRequest (rollAct row))) s := by
  rcases h with rfl | rfl | rfl | rfl | rfl | rfl <;> rfl

theorem reserveRoll_of_stored {p : Nat} (hpar : s.noParity) (h : r.status = .stored p) :
    reserveRoll k r s =
      if r.holds.none && !(s.place p).blocked then (.ok, s.setSlot k { r with status := .reserved p .management })
      else (.wrongState, s) := by
  simp only [reserveRoll, h, readPlace_of_noParity hpar]

theorem reserveRoll_of_elsewhere (hstored : ∀ p, r.status ≠ .stored p) (hreserved : ∀ p o, r.status ≠ .reserved p o) :
    reserveRoll k r s = (.wrongState, s) := by
  unfold reserveRoll
  split
  case h_1 p hp => exact absurd hp (hstored p)
  case h_2 p hp => exact absurd hp (hreserved p _)
  case h_3 p st hp => exact absurd hp (hreserved p _)
  case h_4 => rfl

theorem releaseRoll_of_management {p : Nat} (hpar : s.noParity) (hcalls : s.callsIdle) (h : r.status = .reserved p .management) :
    releaseRoll k r s = (.ok, s.setSlot k { r with status := .stored p }) := by
  simp only [releaseRoll, h, announceAvailable_of_idle _ (noParity_setSlot _ _ hpar) (show (s.setSlot k _).callsIdle from hcalls)]

theorem releaseRoll_of_elsewhere (hreserved : ∀ p o, r.status ≠ .reserved p o) : releaseRoll k r s = (.wrongState, s) := by
  unfold releaseRoll
  split
  case h_1 p hp => exact absurd hp (hreserved p _)
  case h_2 p st hp => exact absurd hp (hreserved p _)
  case h_3 => rfl

/-- A hold while no call names a roll changes the record alone. -/
theorem addHoldRead_of_uncalled {hold : HoldKind} (hr : s.findRoll id = some (k, r)) (hhas : r.holds.has hold = false)
    (hrunning : ∀ st, r.status ≠ .running st) (hcalls : s.fdu.calls = []) :
    s.addHoldRead id hold = s.setSlot k { r with holds := r.holds.add hold } := by
  have hunnamed : (s.setSlot k { r with holds := r.holds.add hold }).callNaming? id = none := callNaming?_of_nil hcalls id
  simp only [addHoldRead, hr, hhas, Bool.false_eq_true, if_false, hunnamed]
  split
  · split
    case h_1 st hst => exact absurd hst (hrunning st)
    all_goals rfl
  · rfl

theorem holdRoll_of_uncalled (hpar : s.noParity) (hwf : s.tablesWf = true) (hcalls : s.fdu.calls = []) (hr : s.findRoll r.id = some (k, r))
    (hrunning : ∀ st, r.status ≠ .running st) :
    holdRoll k r s = (.ok, s.setSlot k { r with holds := { r.holds with management := true } }) := by
  rw [holdRoll, addHold_of_noParity hpar]
  by_cases hhas : r.holds.management = true
  · have hsame : ({ r with holds := { r.holds with management := true } } : Roll) = r := by rw [← hhas]
    rw [hsame, setSlot_of_found hpar hwf hr, addHoldRead, hr]
    exact congrArg (Prod.mk Result.ok) (if_pos hhas)
  · rw [addHoldRead_of_uncalled hr (show r.holds.has .management = false from Bool.eq_false_iff.2 hhas) hrunning hcalls]
    rfl

theorem unholdRoll_of_idle (hpar : s.noParity) (hcalls : s.callsIdle) :
    unholdRoll k r s = (.ok, s.setSlot k { r with
      holds := ⟨false, false, false, r.holds.lostTrack && decide (r.status = .carried none), false⟩ }) := by
  simp only [unholdRoll, announceAvailable_of_idle _ (noParity_setSlot _ _ hpar) (show (s.setSlot k _).callsIdle from hcalls), ite_self]
  rfl

theorem removeRoll_of_announced {d : Nat} (hcalls : s.fdu.calls = []) (h : r.status = .announced d) :
    removeRoll k r s = (.ok, s.freeSlot k) := by
  simp only [removeRoll, h, callRollRemoved_of_unnamed (callNaming?_of_nil (s := s.freeSlot k) hcalls r.id)]

theorem removeRoll_of_stored {p : Nat} (hpar : s.noParity) (hcalls : s.fdu.calls = []) (h : r.status = .stored p) :
    removeRoll k r s = (.ok, (s.setPlace p { s.place p with occupant := none }).freeSlot k) := by
  simp only [removeRoll, h, clearLocation, updPlace_of_noParity hpar]
  exact congrArg (Prod.mk Result.ok) (callRollRemoved_of_unnamed (callNaming?_of_nil (by exact hcalls) r.id))

theorem removeRoll_of_elsewhere (hannounced : ∀ d, r.status ≠ .announced d) (hstored : ∀ p, r.status ≠ .stored p) :
    removeRoll k r s = (.wrongState, s) := by
  unfold removeRoll
  split
  case h_1 d hd => exact absurd hd (hannounced d)
  case h_2 p hp => exact absurd hp (hstored p)
  case h_3 => rfl

end State

/-- Settles O52: the checks of a request, its report, and each action by the roll's status. -/
theorem rollActionsHaveTheirEffects : Obligations.RollActionsHaveTheirEffects := by
  unfold Obligations.RollActionsHaveTheirEffects
  intro row t rest s hready hpar hwf hcalls hsearch id sel action w hrow answer
  have answers {r : Result} {data : List Byte} {u : State}
      (h : State.rollRequest (State.rollAct row) t w = ({ result := r, data := data }, u)) : answer r data u :=
    (State.exec_rollRow s hrow).trans (served hready h)
  refine ⟨fun hbad => answers (State.rollRequest_of_badId hbad), fun hzero hones => ?_⟩
  have hid : ¬ (id = 0 ∨ id = 0xFFFFFFFF#32) := fun h => h.elim hzero hones
  refine ⟨fun hbad => answers (State.rollRequest_of_badCode hid hbad), fun hsel haction => ?_⟩
  have hcode : ¬ (3 < sel.toNat ∨ 5 < action.toNat) := by omega
  refine ⟨fun hnone => answers (State.rollRequest_of_unknown (s := w) hid hcode hpar hnone), fun k r hr => ?_⟩
  intro free
  have hfound := State.rollRequest_of_found (act := State.rollAct row) (s := w) hid hcode hpar hr
  refine ⟨w.rollReport sel id, State.rollReport_of_shown hr, State.rollReport_of_hidden hr, ?_⟩
  intro became
  have acted {res : Result} {u : State} (h : State.rollAct row k r w = (res, u)) : answer res (w.rollReport sel id) u := by
    rw [h] at hfound
    exact answers hfound
  have hidle : w.callsIdle := ⟨hcalls, hsearch⟩
  refine ⟨?none, ?reserve, ?release, ?hold, ?unhold, ?remove⟩
  case none =>
    rintro rfl
    exact acted rfl
  case reserve =>
    rintro rfl
    refine ⟨fun p hp => ⟨fun hholds hfree => acted ?_, fun hkept => acted ?_⟩, fun p hp => acted ?_, fun p st hp => acted ?_,
      fun hstored hreserved => acted (State.reserveRoll_of_elsewhere hstored hreserved)⟩
    · refine (State.reserveRoll_of_stored (s := w) hpar hp).trans (if_pos ?_)
      rw [hholds, show (w.place p).blocked = false from hfree]
      rfl
    · refine (State.reserveRoll_of_stored (s := w) hpar hp).trans (if_neg fun h => ?_)
      obtain ⟨hnone, hopen⟩ := Bool.and_eq_true_iff.1 h
      rcases hkept with hholds | hblocked
      · exact hholds ((Holds.none_iff _).1 hnone)
      · rw [show (w.place p).blocked = true from hblocked] at hopen
        exact Bool.false_ne_true hopen
    · simp only [State.rollAct, State.reserveRoll, hp]
    · simp only [State.rollAct, State.reserveRoll, hp]
  case release =>
    rintro rfl
    refine ⟨fun p hp => acted (State.releaseRoll_of_management (s := w) hpar hidle hp), fun p st hp => acted ?_,
      fun hreserved => acted (State.releaseRoll_of_elsewhere hreserved)⟩
    simp only [State.rollAct, State.releaseRoll, hp]
  case hold =>
    rintro rfl hrid hrunning
    rw [← hrid] at hr
    exact acted (State.holdRoll_of_uncalled (s := w) hpar hwf hcalls hr hrunning)
  case unhold =>
    rintro rfl
    exact acted (State.unholdRoll_of_idle (s := w) hpar hidle)
  case remove =>
    rintro rfl
    exact ⟨fun d hd => acted (State.removeRoll_of_announced (s := w) hcalls hd), fun p hp => acted (State.removeRoll_of_stored (s := w) hpar hcalls hp),
      fun hannounced hstored => acted (State.removeRoll_of_elsewhere hannounced hstored)⟩

end Sys2Proof.Machine
end

section
/-! PROOFS. PARTITION (R193). -/

namespace Sys2Proof.Machine

namespace State

variable {s : State} {t : Telegram}

/-- The sizes asked for lie in their ranges and on their steps. -/
def sizesFit (p : Sizes) : Prop :=
  256 ≤ p.rolls ∧ p.rolls ≤ 4096 ∧ p.rolls % 256 = 0 ∧ 128 ≤ p.places ∧ p.places ≤ 2048 ∧ p.places % 128 = 0 ∧
    64 ≤ p.routes ∧ p.routes ≤ 1024 ∧ p.routes % 64 = 0

theorem sizesFit_iff (p : Sizes) :
    (sizeOk 256 4096 256 p.rolls && sizeOk 128 2048 128 p.places && sizeOk 64 1024 64 p.routes) = true ↔ sizesFit p := by
  simp only [sizeOk, sizesFit, Bool.and_eq_true, decide_eq_true_eq, and_assoc]

theorem partitionHall_of_mode (h : s.sfu.mode ≠ .config) : s.partitionHall t = s.reply t { result := .wrongMode } := if_pos h

theorem partitionHall_of_config (h : s.sfu.mode = .config) :
    s.partitionHall t =
      if !(sizeOk 256 4096 256 (askedSizes t).rolls && sizeOk 128 2048 128 (askedSizes t).places &&
          sizeOk 64 1024 64 (askedSizes t).routes) then s.reply t { result := .badValue }
      else if s.memoryWords < partitionWords (askedSizes t) then s.reply t { result := .noFit }
      else s.repartition (askedSizes t) t :=
  if_neg (not_not.2 h)

theorem partitionHall_of_unfit (h : s.sfu.mode = .config) (hbad : ¬ sizesFit (askedSizes t)) :
    s.partitionHall t = s.reply t { result := .badValue } := by
  rw [partitionHall_of_config h, Bool.eq_false_iff.2 (mt (sizesFit_iff _).1 hbad)]
  rfl

theorem partitionHall_of_fit (h : s.sfu.mode = .config) (hfit : sizesFit (askedSizes t)) :
    s.partitionHall t =
      if s.memoryWords < partitionWords (askedSizes t) then s.reply t { result := .noFit } else s.repartition (askedSizes t) t := by
  rw [partitionHall_of_config h, (sizesFit_iff _).2 hfit]
  rfl

end State

/-- Settles O55: the checks in order, then the power-on values with what is kept. -/
theorem partitionRebuildsTheTables : Obligations.PartitionRebuildsTheTables := by
  unfold Obligations.PartitionRebuildsTheTables
  intro t rest s hready w answer R P Q ok memory
  have runs {u : State} (h : w.partitionHall t = u) : exec .partition s = .next u := by
    subst h
    obtain ⟨hrst, -⟩ := id hready
    exact (awake_of_rstHigh _ hrst).trans (congrArg Host.Outcome.next (State.takeRequest_of_ready _ hready))
  refine ⟨fun hmode => runs (State.partitionHall_of_mode (s := w) hmode),
    fun hmode hbad => runs (State.partitionHall_of_unfit (s := w) hmode hbad), fun hmode hok hlarge => runs ?_,
    fun hmode hok hroom => runs ?_⟩
  · exact (State.partitionHall_of_fit (s := w) hmode hok).trans (if_pos hlarge)
  · exact (State.partitionHall_of_fit (s := w) hmode hok).trans (if_neg (Nat.not_lt.2 hroom))

end Sys2Proof.Machine
end

section
/-! PROOFS. RESTART and what each block keeps of it (R27, R50, R71, R97, R115, R128, R146, R164, R177, R186, R192). -/

namespace Sys2Proof.Machine

/-! ### Tables whose records all change -/

theorem getElem_mapVec {α β : Type} {n : Nat} (f : α → β) (v : Vector α n) (i : Fin n) : (mapVec f v)[i] = f v[i] := by
  simp [mapVec, ← Vector.getElem_toList]

theorem Table.find?_map {α : Type} (f : α → α) (k : Nat) (l : List (Nat × α)) :
    Table.find? k (l.map fun e => (e.1, f e.2)) = (Table.find? k l).map f := by
  induction l with
  | nil => rfl
  | cons e l ih =>
    rw [List.map_cons, Table.find?, Table.find?]
    split
    case isTrue => rfl
    case isFalse => exact ih

theorem Table.find?_eq_none_of_lt {α : Type} {k j : Nat} {a : α} {l : List (Nat × α)} (h : Table.rising ((j, a) :: l) = true)
    (hk : k ≤ j) : Table.find? k l = none := by
  obtain ⟨hkeys, -⟩ := Table.rising_cons.1 h
  exact Table.find_of_lt fun e he => Nat.lt_of_le_of_lt hk (hkeys e he)

theorem Table.get_mapKeep {α : Type} [DecidableEq α] {d : α} {f : α → α} (hd : f d = d) (k : Nat) :
    ∀ {l : List (Nat × α)}, Table.rising l = true → Table.get d k (Table.mapKeep d f l) = f (Table.get d k l)
  | [], _ => hd.symm
  | (j, a) :: l, h => by
    obtain ⟨-, hrest⟩ := Table.rising_cons.1 h
    have ih := Table.get_mapKeep (d := d) (f := f) hd k hrest
    unfold Table.mapKeep
    by_cases hj : j = k
    · subst hj
      have hnone := Table.find?_eq_none_of_lt h (Nat.le_refl j)
      have hget : Table.get d j ((j, a) :: l) = a := by rw [Table.get, Table.find?, if_pos rfl]; rfl
      rw [hget]
      split
      case isTrue hf =>
        rw [ih, Table.get, hnone, hf]
        exact hd
      case isFalse => rw [Table.get, Table.find?, if_pos rfl]; rfl
    · have hget : Table.get d k ((j, a) :: l) = Table.get d k l := by rw [Table.get, Table.find?, if_neg hj]; rfl
      rw [hget]
      split
      case isTrue => exact ih
      case isFalse => rw [Table.get, Table.find?, if_neg hj]; exact ih

namespace State

theorem eq_of_parts {a b : State} (hpins : a.pins = b.pins) (hclock : a.clock = b.clock) (hltu : a.ltu = b.ltu) (hnd : a.nd = b.nd)
    (htcu : a.tcu = b.tcu) (hvou : a.vou = b.vou) (htmc : a.tmc = b.tmc) (hfdu : a.fdu = b.fdu) (hscu : a.scu = b.scu)
    (hpls : a.pls = b.pls) (hsfu : a.sfu = b.sfu) (hmga : a.mga = b.mga) (hdue : a.due = b.due) (hpending : a.pending = b.pending) :
    a = b := by
  cases a
  cases b
  simp_all

variable {s : State}

/-! ### The tables of tracks and rolls -/

theorem segments_rising (h : s.tablesWf = true) : Table.rising s.tcu.segments = true := by
  simp only [tablesWf, Bool.and_eq_true] at h
  obtain ⟨⟨-, hsegments⟩, -⟩ := h
  exact (Table.wf_iff.1 hsegments).1

theorem dropReservations_of_noParity (h : s.noParity) (which : Owner → Bool) : s.dropReservations which = s.storeReserved which := by
  obtain ⟨hrolls, -, -⟩ := h
  rw [dropReservations, hrolls]
  rfl

theorem dropPlaceClaims_of_noParity (h : s.noParity) :
    s.dropPlaceClaims = { s with tmc := { s.tmc with places := Table.mapKeep {} (fun x => { x with claim := none }) s.tmc.places } } := by
  obtain ⟨-, hplaces, -⟩ := h
  have hread : (inOrder (s.tmc.badPlaces.filter fun p => (s.place p).claim.isSome)).foldl (fun s p => s.readPlace p) s = s := by
    rw [hplaces]
    rfl
  rw [dropPlaceClaims, hread]

/-- The tables of tracks and rolls after RESTART, when no record has an error. -/
def restartedTables (s : State) : State :=
  { s with
    tmc := { s.tmc with
      rolls := (s.storeReserved fun _ => true).tmc.rolls
      places := Table.mapKeep {} (fun x => { x with claim := none }) s.tmc.places }
    tcu := { s.tcu with
      segments := Table.mapKeep {} (fun x => { x with holders := [], waiters := [] }) s.tcu.segments
      zones := mapVec (fun z => { z with lost := 0, intruders := 0 }) s.tcu.zones } }

theorem restartTables_of_noParity (h : s.noParity) : s.restartTables = s.restartedTables := by
  have hstored : (s.storeReserved fun _ => true).noParity := h
  rw [restartTables, dropReservations_of_noParity h, dropPlaceClaims_of_noParity hstored]
  rfl

/-- The part after RESTART, when no record has an error. -/
def restarted (s : State) : State :=
  driveAlarm ((((s.restartQueues.mapVehicles restartVehicle).restartedTables.restartFeed.restartScu.restartFlags).setMode .config).setDue [])

theorem restartHall_of_noParity (h : s.noParity) : s.restartHall = s.restarted := by
  rw [restartHall, restartTables_of_noParity (by exact h)]
  rfl

/-! ### What each record of the restarted part reads as -/

/-- The HOLDs naming RESTART, in vehicle order. -/
def restartHolds (s : State) : List Telegram :=
  (List.finRange 16).filterMap fun v =>
    if (s.vehicle v).status = .off then none else (s.vehicleEntry? v).map fun e => (⟨e.addr, s.ownAddr, 0x52, [0x20]⟩ : Telegram)

theorem restartQueues_eq (s : State) :
    s.restartQueues = { s with ltu := { s.ltu with
      urgent := s.restartHolds.take 8, restartHolds := s.restartHolds.drop 8, normal := [], upper := [] } } := by
  have hholds : (((List.finRange 16).filter fun v => (s.vehicle v).status ≠ .off).filterMap fun v =>
      (s.vehicleEntry? v).map fun e => (⟨e.addr, s.ownAddr, clsHold, [holdRestart]⟩ : Telegram)) = s.restartHolds := by
    rw [List.filterMap_filter]
    simp only [decide_eq_true_eq, ite_not]
    rfl
  rw [restartQueues, hholds]
  rfl

/-- A roll whose reservation a test picks is STORED. -/
def storedRoll (which : Owner → Bool) (r : Roll) : Roll :=
  match r.status with
  | .reserved p o => if which o then { r with status := .stored p } else r
  | _ => r

theorem slot?_storeReserved (which : Owner → Bool) (k : Nat) (s : State) :
    (s.storeReserved which).slot? k = (s.slot? k).map (storedRoll which) := Table.find?_map (storedRoll which) k s.tmc.rolls

/-- The blocks that a RESTART does not touch. -/
theorem restarted_kept (s : State) :
    s.restarted.clock = s.clock ∧ s.restarted.nd = s.nd ∧ s.restarted.pls = s.pls ∧ s.restarted.mga = s.mga ∧
      s.restarted.pending = s.pending := by
  unfold restarted driveAlarm setDue setMode restartFlags restartScu restartFeed restartedTables mapVehicles restartQueues
  dsimp only [mapSpeeds, mapStands, emptyCalls, setCalls, setSearch]
  exact ⟨rfl, rfl, rfl, rfl, rfl⟩

theorem flag_restarted (f : Flag) (s : State) :
    s.restarted.flag f = { latched := false, masked := (s.flag f).masked, subject := 0, subjects := 0, tick := 0 } :=
  flag_mapVec (fun r => { masked := r.masked }) f s

theorem alarmLow_restarted (s : State) : s.restarted.pins.alarmLow = false := by
  have hlevel : s.restarted.alarmLevel = false := by
    rw [← Bool.not_eq_true, alarmLevel_iff]
    rintro (hpulse | ⟨f, -, hlatched, -⟩)
    · exact Nat.lt_irrefl 0 hpulse
    · rw [flag_restarted] at hlatched
      exact Bool.false_ne_true hlatched
  refine (alarmLow_driveAlarm _).trans ?_
  rw [show driveAlarm _ = s.restarted from rfl, hlevel, Bool.and_false]

end State

theorem getElem_replicate {α : Type} {n : Nat} (a : α) (i : Fin n) : (Vector.replicate n a)[i] = a := by simp

/-- Settles O54: each record of the restarted part, and what is kept. -/
theorem restartClearsDynamicState : Obligations.RestartClearsDynamicState := by
  unfold Obligations.RestartClearsDynamicState
  intro t rest s hready hpar holds
  refine ⟨(s.popped rest).restarted, served hready (congrArg (State.answered .ok) (State.restartHall_of_noParity hpar)),
    ?queues, fun v => ?vehicle, fun k => ?slot, fun hwf => ⟨fun p => ?place, fun n => ?seg⟩, fun z => ?zone, fun st => ?stand, fun p => ?speed,
    ⟨rfl, rfl, rfl, rfl, rfl, rfl⟩, ⟨rfl, rfl, fun p => ⟨?run, ?press⟩⟩, fun f => State.flag_restarted f _, ⟨rfl, rfl, rfl, State.alarmLow_restarted _, rfl⟩, ?kept⟩
  case queues =>
    have hltu : (s.popped rest).restarted.ltu = (s.popped rest).restartQueues.ltu := rfl
    rw [hltu, State.restartQueues_eq]
    exact ⟨rfl, rfl, rfl, rfl⟩
  case vehicle => exact getElem_mapVec State.restartVehicle s.vou.vehicles v
  case slot =>
    exact State.slot?_storeReserved (fun _ => true) k s
  case place =>
    exact Table.get_mapKeep (d := ({} : Place)) (f := fun x => { x with claim := none }) rfl p (State.places_rising hwf)
  case seg =>
    exact Table.get_mapKeep (d := ({} : Segment)) (f := fun x => { x with holders := [], waiters := [] }) rfl n (State.segments_rising hwf)
  case zone => exact getElem_mapVec (fun z : Zone => { z with lost := 0, intruders := 0 }) s.tcu.zones z
  case stand => exact getElem_mapVec (fun x : Stand => { x with claim := none, ts := Config.unbounded }) s.fdu.stands st
  case speed => exact getElem_mapVec State.restartSpeed s.fdu.speeds p
  case run => exact getElem_replicate (none : Option Run) p
  case press => exact getElem_replicate ({} : PressRec) p
  case kept =>
    obtain ⟨hclock, hnd, hpls, hmga, hpending⟩ := State.restarted_kept (s.popped rest)
    apply State.eq_of_parts
    case hclock => exact hclock
    case hnd => exact hnd
    case hpls => exact hpls
    case hmga => exact hmga
    case hpending => exact hpending
    all_goals dsimp only
    all_goals rfl

end Sys2Proof.Machine
end

section
/-! PROOFS. START and CONFIG (R80, R96, R126, R146, R191, R192). -/

namespace Sys2Proof.Machine

namespace State

variable {s : State} {v : VehicleIx}

/-! ### What START does before the notices (R191) -/

/-- Supervision of an IDLE vehicle from 0. -/
def superviseIdle (x : Vehicle) : Vehicle := if x.status = .idle then { x with supCount := 0 } else x

/-- A press speed record that starts afresh. -/
def freshSpeed (x : Speed) : Speed := { x with age := 0, driveSilence := 0, countSilence := 0, holdover := 0, interval := none }

/-- The mode, the counts, the vehicles and the speeds of a hall that starts. -/
def begun (s : State) : State := (((s.setMode .normal).setLinkCount 0).mapVehicles superviseIdle).startSpeeds.setPrediction 0

theorem vehicle_begun (v : VehicleIx) (s : State) :
    s.begun.vehicle v = if (s.vehicle v).status = .idle then { s.vehicle v with supCount := 0 } else s.vehicle v :=
  getElem_mapVec superviseIdle s.vou.vehicles v

theorem speed_begun (p : PressIx) (s : State) :
    s.begun.speed p = { s.speed p with age := 0, driveSilence := 0, countSilence := 0, holdover := 0, interval := none } :=
  getElem_mapVec freshSpeed s.fdu.speeds p

theorem begun_eq (s : State) :
    s.begun = { s with
      sfu := { s.sfu with mode := .normal, linkCount := 0 }
      vou := { s.vou with vehicles := s.begun.vou.vehicles }
      fdu := { s.fdu with speeds := s.begun.fdu.speeds, predictionCount := 0 } } := rfl

/-- START leaves the stands, the plans and the calls. -/
theorem begun_feed (s : State) : s.begun.fdu.stands = s.fdu.stands ∧ s.begun.pls = s.pls ∧ s.begun.fdu.calls = s.fdu.calls := by
  unfold begun startSpeeds mapSpeeds setPrediction mapVehicles setLinkCount setMode
  exact ⟨rfl, rfl, rfl⟩

theorem stand_begun (st : StandIx) (s : State) : s.begun.stand st = s.stand st := by
  obtain ⟨hstands, -, -⟩ := s.begun_feed
  rw [stand, stand, hstands]

theorem inLead_begun (st : StandIx) (s : State) : s.begun.inLead st = s.inLead st := by
  obtain ⟨-, hpls, -⟩ := s.begun_feed
  simp only [inLead, stand_begun, inUse, activePress, activeStand, hpls]

/-- A vehicle that is sent a HOLD at START. -/
def halted (s : State) (v : VehicleIx) : Bool :=
  decide ((s.vehicle v).status ≠ .off ∧ (s.vehicle v).causes ≠ ⟨false, false, false, false⟩)

theorem Causes.none_iff (c : Causes) : c.none = true ↔ c = ⟨false, false, false, false⟩ :=
  ⟨Causes.eq_of_none, fun h => h ▸ rfl⟩

/-- The HOLDs of a list of vehicles, none of which changes a vehicle. -/
theorem foldl_sendHold_of_halted (l : List VehicleIx) (s : State) :
    l.foldl (fun s v => if (s.vehicle v).status ≠ .off ∧ !(s.vehicle v).causes.none then s.sendHold v else s) s =
      (l.filter s.halted).foldl (fun s v => s.sendHold v) s := by
  induction l generalizing s with
  | nil => rfl
  | cons v l ih =>
    have hsent : (s.sendHold v).halted = s.halted := by
      funext w
      rw [halted, halted, vehicle_sendHold]
    have hhalted : ((s.vehicle v).status ≠ .off ∧ (!(s.vehicle v).causes.none) = true) ↔ s.halted v = true := by
      simp only [halted, decide_eq_true_eq, Bool.not_eq_true', ← Bool.not_eq_true, Causes.none_iff, ne_eq]
    rw [List.foldl_cons]
    by_cases h : s.halted v = true
    · rw [if_pos (hhalted.2 h), ih, List.filter_cons_of_pos h, hsent]
      rfl
    · rw [if_neg (mt hhalted.1 h), ih, List.filter_cons_of_neg h]

/-- A change of the Feed Unit alone commutes with the HOLDs. -/
theorem foldl_sendHold_commutes {G : State → State} (hlink : ∀ s, SameLink s (G s)) (hG : ∀ u s : State, G (u.withLink s) = u.withLink (G s))
    (hvehicle : ∀ s v, (G s).vehicle v = s.vehicle v) (l : List VehicleIx) (s : State) :
    G (l.foldl (fun s v => s.sendHold v) s) = l.foldl (fun s v => s.sendHold v) (G s) := by
  induction l generalizing s with
  | nil => rfl
  | cons v l ih =>
    have hhold : G (s.sendHold v) = (G s).sendHold v := by
      rw [sendHold, sendHold, hvehicle]
      exact ((LinkOp.sendVehicle v clsHold _).commutes s hlink hG).symm
    rw [List.foldl_cons, List.foldl_cons, ih, hhold]

theorem startHall_eq (s : State) :
    s.startHall =
      let held := ((List.finRange 16).filter s.halted).foldl (fun w v => w.sendHold v) s.begun
      let timed := (List.finRange 24).foldl (fun w st => w.computeTs st) held
      (List.finRange 16).foldl (fun w v => w.forward v) timed := by
  let u := ((s.setMode .normal).setLinkCount 0).mapVehicles superviseIdle
  have hhalted : u.halted = s.halted := by
    funext v
    have hv : u.vehicle v = superviseIdle (s.vehicle v) := getElem_mapVec superviseIdle s.vou.vehicles v
    rw [halted, halted, hv, superviseIdle]
    split <;> rfl
  have hheld : (((s.setMode .normal).setLinkCount 0).startVehicles).startSpeeds.setPrediction 0 =
      ((List.finRange 16).filter s.halted).foldl (fun w v => w.sendHold v) s.begun := by
    have hvehicles : ((s.setMode .normal).setLinkCount 0).startVehicles = ((List.finRange 16).filter u.halted).foldl (fun w v => w.sendHold v) u :=
      foldl_sendHold_of_halted _ u
    rw [hvehicles, hhalted]
    exact foldl_sendHold_commutes (G := fun s => s.startSpeeds.setPrediction 0) (fun _ => ⟨rfl, rfl, rfl, rfl, rfl⟩) (fun _ _ => rfl)
      (fun _ _ => rfl) _ u
  rw [startHall, hheld]

/-! ### A hall that starts at rest -/

theorem computeTs_of_unbounded {st : StandIx} (h : s.inLead st = false) (hts : (s.stand st).ts = 65535) (hcall : s.call? st = none) :
    s.computeTs st = s := by
  have hsame : ({ s.stand st with ts := 65535 } : Stand) = s.stand st := by rw [← hts]
  rw [computeTs_of_outOfLead h hcall, hsame, setStand_self]

/-! ### Forwarding (R80) -/

theorem forward_of_waits (h : (s.vehicle v).queue = [] ∨ (s.vehicle v).causes ≠ ⟨false, false, false, false⟩ ∨ (s.vehicle v).status = .off ∨
    (s.vehicle v).status = .lost ∨ s.running = false ∨ (s.vehicle v).window ≤ (s.vehicle v).outstanding.length) :
    s.forward v = s ∧ s.forwardAndTell v = s := by
  rcases h with h | h
  · exact ⟨forward_of_nil h, forwardAndTell_of_nil h⟩
  · have hnone : s.forwardable? v = none := forwardable?_eq_none (by
      rcases h with h | h | h | h | h
      · exact .inr (.inl (Bool.eq_false_iff.2 (mt (Causes.none_iff _).1 h)))
      · exact .inr (.inr (.inr (.inl h)))
      · exact .inr (.inr (.inl h))
      · exact .inl h
      · exact .inr (.inr (.inr (.inr h))))
    exact ⟨forwardLoop_of_waits hnone _, forwardLoop_of_waits hnone _⟩

theorem sendMove_of_normal (v : VehicleIx) (o : Order) (h : s.sfu.mode = .normal) : s.sendMove tryCalls v o = s.sendMove id v o := by
  have hmoves : Moves [.vehicles, .tcu, .ltu, .flags, .places, .stands, .rolls, .calls] s
      (((s.raise .queueOverflow 2).endOutstanding v o .failed).settle v) :=
    ((Moves.raise ..).mono.next (Moves.endOutstanding ..)).next (Moves.settle ..)
  have hmode : (((s.raise .queueOverflow 2).endOutstanding v o .failed).settle v).sfu.mode = .normal :=
    (hmoves.same .mode (by decide)).trans h
  unfold sendMove
  simp only [tryCalls_of_normal hmode]
  rfl

theorem forwardHead_of_normal (v : VehicleIx) (o : Order) (h : s.sfu.mode = .normal) : s.forwardHead tryCalls v o = s.forwardHead id v o := by
  have hread : Moves [.vehicles, .places, .routes, .ltu, .flags, .tcu, .stands, .calls, .rolls] s
      ((s.readLoc o.drop).lookupLegs (s.vehicle v).endLoc o.pickup o.drop).2.2 := (Moves.readLoc ..).mono.next (Moves.lookupLegs ..)
  unfold forwardHead
  generalize (s.readLoc o.drop).lookupLegs (s.vehicle v).endLoc o.pickup o.drop = legs at hread ⊢
  obtain ⟨leg1, leg2, u⟩ := legs
  dsimp only
  split
  · rfl
  · refine sendMove_of_normal v _ (Eq.trans ((?_ : Moves [.vehicles, .places, .routes, .ltu, .flags, .tcu, .stands, .calls, .rolls] s _).same
      .mode (by decide)) h)
    exact ((hread.next (Moves.updVehicle ..)).next (Moves.joinPath ..)).next (Moves.updVehicle ..)

theorem forwardLoop_of_normal (v : VehicleIx) (n : Nat) (h : s.sfu.mode = .normal) : s.forwardLoop tryCalls v n = s.forwardLoop id v n := by
  induction n generalizing s with
  | zero => rfl
  | succ n ih =>
    cases hhead : s.forwardable? v with
    | none => rw [forwardLoop_of_waits hhead, forwardLoop_of_waits hhead]
    | some o =>
      have hmode : (s.forwardHead id v o).sfu.mode = .normal :=
        ((Moves.forwardHead id v o s (m := [.vehicles, .places, .routes, .ltu, .flags, .tcu, .stands, .calls, .rolls]) (fun _ => .refl _) (by decide)).same
          .mode (by decide)).trans h
      rw [forwardLoop_of_head hhead, forwardLoop_of_head hhead, forwardHead_of_normal v o h, ih hmode]

/-- The state in which the MOVE of a lone queued order is made. -/
def forwarded (v : VehicleIx) (o : Order) (s : State) : State :=
  ((s.setVehicle v { s.vehicle v with
    queue := [], outstanding := (s.vehicle v).outstanding ++ [o], path := (o.leg1 ++ o.leg2).map fun n => ⟨n, o.tag⟩, pointer := 0 }).seat v).updVehicle v
    fun x => { x with endLoc := o.drop, status := .busy }

theorem moves_forwarded (v : VehicleIx) (o : Order) (s : State) : Moves [.vehicles, .tcu] s (s.forwarded v o) :=
  ((Moves.setVehicle ..).mono.next (Moves.seat ..)).next (Moves.updVehicle ..)

/-- A lone queued order of a vehicle without a path is forwarded. -/
theorem forward_of_lone {q : Order} {leg1 leg2 : List Nat} (hpar : s.noParity) (hrun : s.running = true)
    (hworks : (s.vehicle v).status = .idle ∨ (s.vehicle v).status = .busy) (hcauses : (s.vehicle v).causes.none = true)
    (hqueue : (s.vehicle v).queue = [q]) (hwindow : (s.vehicle v).outstanding.length < (s.vehicle v).window)
    (hpath : (s.vehicle v).path = []) (hclaims : (s.vehicle v).claims = [])
    (hlegs : s.legsFrom (s.vehicle v).endLoc q.pickup q.drop = (.clear leg1, .clear leg2)) (hdrop : s.dropBlocked q.drop = false) :
    s.forward v = (s.forwarded v (routed q leg1 leg2)).sendMove id v (routed q leg1 leg2) := by
  have hhead := forwardable?_of_free hrun hworks hcauses hwindow hqueue
  have hlen : (s.vehicle v).queue.length = 1 := congrArg List.length hqueue
  have hdropped : (s.vehicle v).queue.drop 1 = [] := congrArg (List.drop 1) hqueue
  have hjoin : ((s.updVehicle v fun x => { x with
      queue := x.queue.drop 1, outstanding := x.outstanding ++ [routed q leg1 leg2] }).joinPath v (routed q leg1 leg2)) =
      (s.setVehicle v { s.vehicle v with
        queue := [], outstanding := (s.vehicle v).outstanding ++ [routed q leg1 leg2]
        path := (leg1 ++ leg2).map fun n => ⟨n, q.tag⟩, pointer := 0 }).seat v := by
    rw [updVehicle, hdropped, joinPath_of_free _ (by rw [vehicle_setVehicle_self]; exact hpath) (by rw [vehicle_setVehicle_self]; exact hclaims),
      vehicle_setVehicle_self, setVehicle_setVehicle]
    rfl
  rw [forward, hlen, forwardLoop_of_head hhead, forwardLoop, forwardHead_of_clear hpar hlegs hdrop, hjoin]
  rfl

/-! ### What CONFIG ends (R96, R192) -/

theorem floorBusy_iff : s.floorBusy = true ↔
    ∃ v, (s.vehicle v).claims ≠ [] ∨ (s.vehicle v).outstanding ≠ [] ∨ (s.vehicle v).queue ≠ [] := by
  simp [floorBusy, or_assoc]

/-- A LOST vehicle that becomes IDLE. -/
def unlost (x : Vehicle) : Vehicle := { x with status := .idle, retryCount := 0 }

/-- The same part with another vehicle table. -/
def withVehicles (x : Vector Vehicle 16) (s : State) : State := { s with vou := { s.vou with vehicles := x } }

/-- Vehicles in no lost set that become IDLE one after the other. -/
theorem foldl_unlost {l : List VehicleIx} (hl : l.Nodup) (s : State) (hlost : ∀ v ∈ l, ∀ z, (s.zone z).lost.getLsbD v.val = false) :
    ∃ x, l.foldl (fun s v => ((s.updVehicle v fun x => { x with status := .idle, retryCount := 0 }).leaveLostSets v).1) s = s.withVehicles x ∧
      ∀ v : VehicleIx, x[v] = if v ∈ l then unlost (s.vehicle v) else s.vehicle v := by
  induction l generalizing s with
  | nil => exact ⟨s.vou.vehicles, rfl, fun v => rfl⟩
  | cons v l ih =>
    obtain ⟨hv, hl⟩ := List.nodup_cons.1 hl
    let u := s.setVehicle v (unlost (s.vehicle v))
    obtain ⟨x, hfold, hvehicle⟩ := ih hl u fun w hw z => hlost w (List.mem_cons_of_mem v hw) z
    have hleft : (u.leaveLostSets v).1 = u := congrArg Prod.fst (leaveLostSets_of_none (s := u) (hlost v List.mem_cons_self))
    refine ⟨x, ?_, fun w => ?_⟩
    · rw [List.foldl_cons]
      exact (congrArg (l.foldl _) hleft).trans hfold
    · refine (hvehicle w).trans ?_
      rw [vehicle_setVehicle]
      by_cases hw : v = w
      · subst hw
        simp [hv]
      · simp [hw, Ne.symm hw]

theorem unloseVehicles_of_none (h : ∀ v z, (s.vehicle v).status = .lost → (s.zone z).lost.getLsbD v.val = false) :
    ∃ x, s.unloseVehicles = s.withVehicles x ∧
      ∀ v : VehicleIx, x[v] = if (s.vehicle v).status = .lost then unlost (s.vehicle v) else s.vehicle v := by
  obtain ⟨x, hfold, hvehicle⟩ := foldl_unlost ((List.nodup_finRange 16).filter fun v => (s.vehicle v).status = .lost) s
    fun v hv z => h v z (by simpa using hv)
  refine ⟨x, hfold, fun v => (hvehicle v).trans ?_⟩
  simp

theorem config_of_free (hmode : s.sfu.mode ≠ .config) (hfree : ¬ s.floorBusy = true) (hpar : s.noParity) {x : Vector Vehicle 16}
    (h : (s.setMode .config).unloseVehicles = (s.setMode .config).withVehicles x) (t : Telegram) :
    s.config t = ((((s.setMode .config).withVehicles x).emptyCalls.storeReserved isCallOwner).setDue []).answered .ok := by
  rw [config, if_neg hmode, if_neg hfree, h]
  dsimp only
  rw [dropReservations_of_noParity (by exact hpar)]

theorem storedRoll_call (r : Roll) :
    storedRoll isCallOwner r = match r.status with
      | .reserved p (.call _) => { r with status := .stored p }
      | _ => r := by
  unfold storedRoll
  cases r.status with
  | reserved p o => cases o <;> rfl
  | _ => rfl

end State

/-- Settles O53: the steps of START, by vehicle and stand, then those of CONFIG. -/
theorem startAndConfigChangeMode : Obligations.StartAndConfigChangeMode := by
  unfold Obligations.StartAndConfigChangeMode
  refine ⟨fun t rest s hready => ⟨fun hmode => served hready (if_neg hmode), fun hmode hrest hstands hcalls => ?atRest⟩,
    ⟨fun t rest s hready hmode => ?atWork, fun v s => ⟨fun h => State.forward_of_waits h, fun h => State.forwardLoop_of_normal v _ h⟩,
      fun v q leg1 leg2 e s hpar hrun => ?forwards⟩, fun t rest s hready => ?config⟩
  case atWork =>
    intro halted
    refine ⟨(s.popped rest).begun, fun v => State.vehicle_begun v _, fun p => State.speed_begun p _, State.begun_eq _, ?_⟩
    have hstart : (s.popped rest).start t = (s.popped rest).startHall.answered .ok := if_pos hmode
    rw [State.startHall_eq] at hstart
    exact served hready hstart
  case atRest =>
    refine ⟨(s.popped rest).begun, ?_, fun v => State.vehicle_begun v _, fun p => State.speed_begun p _, State.begun_eq _⟩
    have hstart : (s.popped rest).start t = (s.popped rest).startHall.answered .ok := if_pos hmode
    have hheld : (List.finRange 16).filter (s.popped rest).halted = [] := by
      refine List.filter_eq_nil_iff.2 fun v _ hv => ?_
      exact (of_decide_eq_true hv).2 (hrest v).1
    have htimed : (List.finRange 24).foldl (fun w st => w.computeTs st) (s.popped rest).begun = (s.popped rest).begun :=
      foldl_eq_self fun st _ => by
        obtain ⟨hlead, hts⟩ := hstands st
        obtain ⟨-, -, hbegun⟩ := (s.popped rest).begun_feed
        refine State.computeTs_of_unbounded ((State.inLead_begun st _).trans hlead) (by rw [State.stand_begun]; exact hts) ?_
        rw [State.call?, hbegun, show (s.popped rest).fdu.calls = [] from hcalls]
        rfl
    have hforwarded : (List.finRange 16).foldl (fun w v => w.forward v) (s.popped rest).begun = (s.popped rest).begun :=
      foldl_eq_self fun v _ => State.forward_of_nil (by
        rw [State.vehicle_begun]
        split <;> exact (hrest v).2)
    rw [State.startHall_eq, hheld] at hstart
    exact served hready (hstart.trans (congrArg (State.answered .ok) ((congrArg (fun u => (List.finRange 16).foldl (fun w v => w.forward v) u) htimed).trans hforwarded)))
  case forwards =>
    intro x hworks hcauses hqueue hwindow hpath hclaims he hroom hleg1 hleg2 hdrop o
    have hlegs : s.legsFrom x.endLoc q.pickup q.drop = (.clear leg1, .clear leg2) := by
      rw [State.lookupLegs_of_noParity hpar] at hleg1 hleg2
      exact Prod.ext hleg1 hleg2
    rw [State.forward_of_lone hpar hrun hworks ((State.Causes.none_iff _).2 hcauses) hqueue hwindow hpath hclaims hlegs hdrop]
    have hmoves := State.moves_forwarded v o s
    have hentry : (s.forwarded v o).vehicleEntry? v = some e := by
      rw [State.vehicleEntry?, hmoves.same .nd (by decide)]
      exact he
    have hroom' : (s.forwarded v o).normalRoom = true := by
      rw [State.normalRoom_iff, hmoves.same .ltu (by decide)]
      exact hroom
    have hown : (s.forwarded v o).ownAddr = s.ownAddr := by
      obtain ⟨haddr, -⟩ := Prod.mk.inj (hmoves.same .straps (by decide))
      rw [State.ownAddr, State.ownAddr, haddr]
    unfold State.sendMove
    simp only [show (s.forwarded v (State.routed q leg1 leg2)).vehicleEntry? v = some e from hentry,
      show (s.forwarded v (State.routed q leg1 leg2)).normalRoom = true from hroom', if_true,
      show (s.forwarded v (State.routed q leg1 leg2)).ownAddr = s.ownAddr from hown]
    rfl
  case config =>
    intro w busy
    refine ⟨fun hmode => served hready (if_pos hmode), fun hmode hbusy => ?_, fun hmode hfree hpar hlost => ?_⟩
    · exact served hready ((if_neg hmode).trans (if_pos (State.floorBusy_iff.2 hbusy)))
    · obtain ⟨x, hx, hvehicles⟩ := State.unloseVehicles_of_none (s := w.setMode .config) hlost
      have hconfig := State.config_of_free (s := w) hmode (mt State.floorBusy_iff.1 hfree) hpar hx t
      refine ⟨_, served hready hconfig, fun v => ?_, fun k => ?_, rfl⟩
      · exact hvehicles v
      · exact (Table.find?_map (State.storedRoll State.isCallOwner) k s.tmc.rolls).trans
          (congrArg (fun f => (s.slot? k).map f) (funext State.storedRoll_call))

end Sys2Proof.Machine
end

section
/-! PROOFS. Vehicles turned off and on and written off, and a zone cleared of a vehicle inside (R69, R93 to R95). -/

namespace Sys2Proof.Machine

namespace State

variable {s : State} {v : VehicleIx} {z : ZoneIx}

/-! ### VEHICLE-OFF and VEHICLE-ON (R93) -/

theorem turnOff_of_idle (hidle : (s.vehicle v).status = .idle) (hqueue : (s.vehicle v).queue = []) :
    s.turnOff v = (s.setVehicle v { s.vehicle v with status := .off, supCount := 0 }).answered .ok := by
  rw [turnOff, if_neg (by rw [hidle]; decide), if_pos ⟨hidle, hqueue⟩]
  rfl

theorem turnOff_of_working (h : (s.vehicle v).status = .busy ∨ (s.vehicle v).status = .lost ∨
    ((s.vehicle v).status = .idle ∧ (s.vehicle v).queue ≠ [])) : s.turnOff v = s.answered .wrongState := by
  rw [turnOff, if_neg, if_neg]
  · rintro ⟨hidle, hqueue⟩
    rcases h with h | h | ⟨-, h⟩
    · exact nomatch hidle.symm.trans h
    · exact nomatch hidle.symm.trans h
    · exact h hqueue
  · intro hoff
    rcases h with h | h | ⟨h, -⟩ <;> exact nomatch hoff.symm.trans h

/-- A vehicle that is turned on. -/
def turnedOn (x : Vehicle) : Vehicle :=
  { x with status := .idle, supCount := 0, endLoc := if x.currentSeg = 0 then ⟨.home, x.home⟩ else ⟨.segment, x.currentSeg⟩ }

theorem turnOn_of_entered (hoff : (s.vehicle v).status = .off) (he : s.vehicleEntry? v ≠ none) (hmode : s.sfu.mode ≠ .autonomous) :
    s.turnOn v =
      (if (s.vehicle v).causes.none then s.setVehicle v (turnedOn (s.vehicle v))
        else (s.setVehicle v (turnedOn (s.vehicle v))).sendHold v).answered .ok := by
  let u := s.setVehicle v (turnedOn (s.vehicle v))
  have hquiet : (if (s.vehicle v).causes.none then u else u.sendHold v).tryCalls =
      if (s.vehicle v).causes.none then u else u.sendHold v := by
    split
    · exact tryCalls_of_mode hmode
    · exact tryCalls_of_mode (by rw [(Moves.sendHold v u).same .mode (by decide)]; exact hmode)
  rw [turnOn, if_neg (not_not.2 hoff), if_neg (by simpa using he)]
  exact congrArg (answered .ok) hquiet

/-! ### WRITE-OFF of a vehicle with nothing to do (R94) -/

/-- A vehicle that is written off. -/
def writtenOff (x : Vehicle) : Vehicle :=
  { x with load := .empty, causes := ⟨false, false, false, false⟩, intrusionZones := 0, supCount := 0, retryCount := 0, status := .off }

/-- What follows the HOLD of a WRITE-OFF. -/
theorem writeOffVehicle_of_bare {u : State}
    (hsent : (if (s.vehicle v).status = .off then s else s.sendVehicle v clsHold [holdManagement]) = u)
    (hclaims : (u.vehicle v).claims = []) (hwaits : u.waitsFor? v = none) (houtstanding : (u.vehicle v).outstanding = [])
    (hqueue : (u.vehicle v).queue = []) (hlost : ∀ z, (u.zone z).lost.getLsbD v.val = false) (hload : ∀ id, (u.vehicle v).load ≠ .roll id) :
    s.writeOffVehicle v = (u.setVehicle v (writtenOff (u.vehicle v))).answered .ok := by
  have hreleased : u.releaseClaims v (u.vehicle v).claims [] = u := by
    have hsame : ({ u.vehicle v with claims := [] } : Vehicle) = u.vehicle v := by rw [← hclaims]
    rw [hclaims, releaseClaims_nil, updVehicle, hsame, setVehicle_self]
  have hshed : u.shedLoad v none = u := shedLoad_of_free none (by
    cases h : (u.vehicle v).load with
    | empty => exact .inl rfl
    | roll id => exact absurd h (hload id)
    | unknown => exact .inr rfl)
  have hemptied : (u.setLoad v .empty).vehicle v = { u.vehicle v with load := .empty } := by
    rw [setLoad, updVehicle, vehicle_setVehicle_self]
  unfold writeOffVehicle
  simp only [hsent, leaveWaiting_of_none hwaits, hreleased, leaveLostSets_of_none hlost, hshed, hemptied, hqueue, houtstanding,
    List.foldl_nil, List.filter_nil, List.append_nil, List.any_nil, Bool.false_eq_true, if_false, resumeAll_nil]
  refine congrArg (answered .ok) ?_
  rw [updVehicle, hemptied, setLoad, updVehicle, setVehicle_setVehicle]
  rfl

/-! ### Claims given up and taken leave the zones alone -/

theorem zones_grantClaim (n : Nat) (s : State) : (s.grantClaim v n).tcu.zones = s.tcu.zones := by
  rw [grantClaim_of_firstAt rfl, (LinkOp.sendGrant ..).tcu_eq]
  rfl

theorem zones_foldl {α : Type} {f : State → α → State} (h : ∀ s a, (f s a).tcu.zones = s.tcu.zones) (l : List α) (s : State) :
    (l.foldl f s).tcu.zones = s.tcu.zones := by
  induction l generalizing s with
  | nil => rfl
  | cons a l ih => rw [List.foldl_cons, ih, h]

theorem zones_serve (n : Nat) (s : State) : (s.serve n).tcu.zones = s.tcu.zones := by
  unfold serve
  split
  · rfl
  · refine zones_foldl (fun s w => ?_) _ s
    split
    · exact zones_grantClaim n s
    · rfl

theorem zones_dropClaims (gone keep : List TrackClaim) (s : State) : (s.dropClaims v gone keep).tcu.zones = s.tcu.zones := by
  refine (zones_foldl (fun s c => zones_serve c.seg s) gone _).trans ?_
  exact zones_foldl (f := fun s (c : TrackClaim) => s.updSeg c.seg _) (fun _ _ => rfl) gone _

theorem zones_seat (s : State) : (s.seat v).tcu.zones = s.tcu.zones := by
  rcases Nat.lt_or_ge (s.seg (s.vehicle v).currentSeg).holders.length (s.seg (s.vehicle v).currentSeg).capacity with h | h
  · rw [seat_of_room h]
    rfl
  · rw [seat_of_full h]

theorem dropClaims_keeps (gone keep : List TrackClaim) (h : s.waitsNowhere v) :
    Untouched v (s.setVehicle v { s.vehicle v with claims := keep }) (s.dropClaims v gone keep) := by
  have hrelease : Untouched v (s.setVehicle v { s.vehicle v with claims := keep }) _ := Untouched.foldl_release v gone
  exact hrelease.trans (.foldl_serve gone (hrelease.waits h))

theorem waitsNowhere_seat (h : s.waitsNowhere v) : (s.seat v).waitsNowhere v := by
  rcases Nat.lt_or_ge (s.seg (s.vehicle v).currentSeg).holders.length (s.seg (s.vehicle v).currentSeg).capacity with hroom | hfull
  · rw [seat_of_room hroom]
    exact waitsNowhere_setSeg _ h fun hv => notMem_waiters h _ (List.mem_filter.1 hv).1
  · rwa [seat_of_full hfull]

/-! ### CLEAR-ZONE of a zone with one vehicle inside (R95) -/

/-- The vehicle without intrusion zones and halt causes. -/
def outside (v : VehicleIx) (s : State) : State :=
  s.setVehicle v { s.vehicle v with intrusionZones := 0, causes := ⟨false, false, false, false⟩ }

/-- The vehicle re-seated when it has an outstanding order. -/
def reseated (v : VehicleIx) (s : State) : State :=
  if s.running && !(s.vehicle v).outstanding.isEmpty then (s.dropClaims v (s.vehicle v).claims []).seat v else s

theorem zoneHalted_of_clear (hlost : (s.zone z).lost = 0) (hintruders : (s.zone z).intruders = 0) : s.zoneHalted z = false := by
  rw [Bool.eq_false_iff, Ne, zoneHalted_iff, not_or, not_not, not_not]
  exact ⟨hlost, hintruders⟩

theorem updZone_self {f : Zone → Zone} (h : f (s.zone z) = s.zone z) : s.updZone z f = s := by
  rw [updZone, h]
  simp [zone]

theorem clearZone_of_single {u : State} (hinside : ∀ y, (s.vehicle y).intrusionZones.getLsbD z.val = decide (y = v))
    (hzones : (s.vehicle v).intrusionZones = BitVec.twoPow 8 z.val) (hcauses : (s.vehicle v).causes = ⟨false, false, false, true⟩)
    (hu : (s.outside v).reseated v = u) (hfree : u.zoneHalted z = false) (hintruders : (u.zone z).intruders = 0)
    (hrun : u.running = true) (hnone : (u.vehicle v).causes.none = true) (hoff : (u.vehicle v).status ≠ .off) (hlost : (u.vehicle v).status ≠ .lost) :
    s.clearZone z = (u.sendRelease v).resumeVehicle v := by
  obtain ⟨hmem, hnodup⟩ := mem_finRange_nodup v
  have hin : ((List.finRange 16).filter fun w => setHas (s.vehicle w).intrusionZones z.val) = [v] :=
    filter_eq_singleton hmem hnodup fun w => by rw [setHas, hinside w, decide_eq_true_eq]
  have hleft : (s.updVehicle v fun x => { x with intrusionZones := setWithout x.intrusionZones z.val }) =
      s.setVehicle v { s.vehicle v with intrusionZones := 0 } := by
    rw [updVehicle, hzones, setWithout_twoPow]
  have hout : (s.setVehicle v { s.vehicle v with intrusionZones := 0 }).reseat v = u := by
    have hcalm : ((s.setVehicle v { s.vehicle v with intrusionZones := 0 }).updVehicle v fun x =>
        { x with causes := { x.causes with intrusion := false } }) = s.outside v := by
      rw [updVehicle_setVehicle, hcauses]
      rfl
    rw [reseat, hcalm]
    exact hu
  have hkept : (u.updZone z fun x => { x with intruders := 0 }) = u := updZone_self (by rw [← hintruders])
  have hlift : u.liftIfClear z false = (u, []) := if_neg (by rw [Bool.false_and]; exact Bool.false_ne_true)
  have hcleared : [v].filter (fun w => decide (((s.setVehicle v { s.vehicle v with intrusionZones := 0 }).vehicle w).intrusionZones = 0 ∧
      ((s.setVehicle v { s.vehicle v with intrusionZones := 0 }).vehicle w).causes.intrusion = true)) = [v] := by
    rw [List.filter_cons_of_pos, List.filter_nil]
    rw [vehicle_setVehicle_self, hcauses]
    rfl
  unfold clearZone
  simp only [hin, List.foldl_cons, List.foldl_nil, hleft, hcleared, hout, hfree, hkept, hlift, hnone, List.filter_cons, List.filter_nil,
    List.nil_append, resumeAll]
  simp [hrun, hoff, hlost]

end State

/-- Settles O56: the vehicle actions by the vehicle's state, and CLEAR-ZONE by who is inside. -/
theorem vehiclesAndZonesAreManaged : Obligations.VehiclesAndZonesAreManaged := by
  unfold Obligations.VehiclesAndZonesAreManaged
  refine ⟨fun v t rest s hv => ?vehicles, fun t rest s hready => ?zones⟩
  case vehicles =>
    intro w x answer
    have named (f : VehicleIx → State → Answer × State) : State.onVehicle f t w = f v w := by
      unfold State.onVehicle
      rw [toIx_of_eq_num hv]
    refine ⟨fun hready => ?off, fun hready => ?on, fun hready hclaims hwaits houtstanding hqueue hlost hload => ?writeOff⟩
    case off =>
      have done {r : Result} {u : State} (h : w.turnOff v = u.answered r) : answer .vehicleOff r u :=
        served hready ((named State.turnOff).trans h)
      exact ⟨fun hoff => done (if_pos hoff), fun hidle hqueue => done (State.turnOff_of_idle (s := w) hidle hqueue),
        fun h => done (State.turnOff_of_working (s := w) h)⟩
    case on =>
      have done {r : Result} {u : State} (h : w.turnOn v = u.answered r) : answer .vehicleOn r u :=
        served hready ((named State.turnOn).trans h)
      refine ⟨fun hon => done (if_pos hon), fun hoff he => done ?_, fun hoff he hmode => ?_⟩
      · exact (if_neg (not_not.2 hoff)).trans (if_pos (by rw [show w.vehicleEntry? v = none from he]; rfl))
      · have hon := State.turnOn_of_entered (s := w) hoff he hmode
        refine ⟨fun hcauses => done (hon.trans ?_), fun hcauses => done (hon.trans ?_)⟩
        · exact congrArg (State.answered .ok) (if_pos ((State.Causes.none_iff _).2 hcauses))
        · exact congrArg (State.answered .ok) (if_neg (mt (State.Causes.none_iff _).1 hcauses))
    case writeOff =>
      intro off
      have done {u : State} (h : w.writeOffVehicle v = u.answered .ok) : answer .writeOff .ok u :=
        served hready ((named State.writeOffVehicle).trans h)
      refine ⟨fun hoff => done ?_, fun hon e he => done ?_⟩
      · exact State.writeOffVehicle_of_bare (u := w) (if_pos hoff) hclaims hwaits houtstanding hqueue hlost hload
      · have hlink := LinkOp.sendVehicle v clsHold [holdManagement]
        have hsent : w.sendVehicle v clsHold [holdManagement] = w.placeUrgent ⟨e.addr, s.ownAddr, 0x52, [4]⟩ :=
          State.sendVehicle_of_some _ _ he
        rw [← hsent]
        have hx : (w.sendVehicle v clsHold [holdManagement]).vehicle v = x := hlink.vehicle_eq w v
        refine (State.writeOffVehicle_of_bare (u := w.sendVehicle v clsHold [holdManagement]) (if_neg hon) (by rw [hx]; exact hclaims)
          ((hlink.waitsFor?_eq w v).trans hwaits) (by rw [hx]; exact houtstanding) (by rw [hx]; exact hqueue)
          (fun z => by rw [hlink.zone_eq]; exact hlost z) (fun id => by rw [hx]; exact hload id)).trans ?_
        rw [hx]
        rfl
  case zones =>
    intro w answer
    refine ⟨fun hout => ?_, fun z hz => ⟨fun hintruders houtside => ?_, fun v hinside hrun hintruders hlost => ?_⟩⟩
    · have hnone : toIx 8 (u8 t.body 1).toNat = none := dif_neg (by omega)
      refine served hready ?_
      simp only [hnone]
      rfl
    · have done {u : State} (h : w.clearZone z = u) : answer .ok u := by
        refine served hready ?_
        simp only [toIx_of_eq_num hz]
        exact congrArg (State.answered .ok) h
      refine done (if_pos ⟨hintruders, List.filter_eq_nil_iff.2 fun y _ hy => ?_⟩)
      exact Bool.false_ne_true ((houtside y).symm.trans hy)
    · intro x hzones hcauses hqueue hwaits clear
      have done {u : State} (h : w.clearZone z = u) : answer .ok u := by
        refine served hready ?_
        simp only [toIx_of_eq_num hz]
        exact congrArg (State.answered .ok) h
      have hclear : clear.vehicle v = { x with intrusionZones := 0, causes := ⟨false, false, false, false⟩ } := State.vehicle_setVehicle_self ..
      have hrelease := LinkOp.sendRelease v
      refine ⟨fun hidle houtstanding hmode => done ?_, fun hbusy houtstanding => done ?_⟩
      · have hstays : clear.reseated v = clear := by
          rw [State.reseated, hclear, houtstanding]
          exact if_neg (by simp)
        have hreleased : (clear.sendRelease v).vehicle v = _ := (hrelease.vehicle_eq clear v).trans hclear
        rw [State.clearZone_of_single (s := w) (u := clear) hinside hzones hcauses hstays (State.zoneHalted_of_clear hlost hintruders) hintruders
            hrun (by rw [hclear]; rfl) (by rw [hclear]; exact fun h => nomatch hidle.symm.trans h)
            (by rw [hclear]; exact fun h => nomatch hidle.symm.trans h),
          State.resumeVehicle_of_works ((State.running_eq_of_mode (State.mode_sendRelease v clear)).trans hrun)
            (by rw [hreleased]; exact fun h => nomatch hidle.symm.trans h) (by rw [hreleased]; exact fun h => nomatch hidle.symm.trans h)]
        exact State.takeUp_of_nil ((State.mode_sendRelease v clear).trans hmode) ((hrelease.waitsFor?_eq clear v).trans hwaits)
          (by rw [hreleased]; exact hqueue)
      · let u := (clear.dropClaims v x.claims []).seat v
        have hseats : clear.reseated v = u := by
          rw [State.reseated, hclear, show clear.running = true from hrun]
          exact if_pos (by simpa using houtstanding)
        have hnowhere : clear.waitsNowhere v := State.waitsFor?_eq_none.1 hwaits
        have hdrops := State.dropClaims_keeps x.claims [] hnowhere
        have hu : ∃ l, u.vehicle v = { x with intrusionZones := 0, causes := ⟨false, false, false, false⟩, claims := l } := by
          obtain ⟨l, hl⟩ := State.vehicle_seat v (clear.dropClaims v x.claims [])
          refine ⟨l, hl.trans ?_⟩
          rw [hdrops.record, State.vehicle_setVehicle_self, hclear]
        obtain ⟨l, hu⟩ := hu
        have huzone : u.zone z = s.zone z := by
          rw [State.zone, State.zones_seat, State.zones_dropClaims]
          rfl
        have hmoves := (Moves.dropClaims v x.claims [] clear).same .mode (by decide)
        have humode : u.sfu.mode = s.sfu.mode := ((Moves.seat v _).same .mode (by decide)).trans hmoves
        have hurun : u.running = true := (State.running_eq_of_mode humode).trans hrun
        have hreleased := (hrelease.vehicle_eq u v).trans hu
        rw [State.clearZone_of_single (s := w) (u := u) hinside hzones hcauses hseats
            (State.zoneHalted_of_clear (by rw [huzone]; exact hlost) (by rw [huzone]; exact hintruders)) (by rw [huzone]; exact hintruders)
            hurun (by rw [hu]; rfl) (by rw [hu]; exact fun h => nomatch hbusy.symm.trans h)
            (by rw [hu]; exact fun h => nomatch hbusy.symm.trans h),
          State.resumeVehicle_of_works ((State.running_eq_of_mode (State.mode_sendRelease v u)).trans hurun)
            (by rw [hreleased]; exact fun h => nomatch hbusy.symm.trans h) (by rw [hreleased]; exact fun h => nomatch hbusy.symm.trans h)]
        exact State.takeUp_of_busy (by rw [hreleased]; exact hbusy) (by rw [hreleased]; exact hqueue)
          ((hrelease.waitsFor?_eq u v).trans (State.waitsFor?_eq_none.2 (State.waitsNowhere_seat (hdrops.waits hnowhere))))

end Sys2Proof.Machine
end

section
/-! PROOFS. Plans written, made ready and swapped (R165 to R174). -/

namespace Sys2Proof.Machine

namespace State

variable {s : State} {p : PressIx} {st : StandIx}

/-! ### Writing NEXT (R167) -/

theorem planWrites_of_one {t : Telegram} {x : PlanIndex} (hcount : reqCount t = 1) (hindex : planIndex? (reqIndex t) = some x) :
    planWrites t = [(x, 4)] := by
  have hfirst : planIndex? (reqIndex t + 0) = some x := by rw [Nat.add_zero, hindex]
  rw [planWrites, hcount, List.range_one, List.filterMap_cons_some, List.filterMap_nil]
  rw [hfirst]
  rfl

theorem writePlanNext_of_outside {t : Telegram} (h : reqIndex t = 0 ∨ 29 < reqIndex t + reqCount t) :
    s.writePlanNext t = s.answered .badIndex := by
  have hrange : rangeOk (reqIndex t) (reqCount t) 28 = false := decide_eq_false (by omega)
  simp only [writePlanNext, hrange, Bool.not_false, Bool.true_or, if_true]

theorem writePlanNext_of_one {t : Telegram} {x : PlanIndex} (hcount : reqCount t = 1) (hindex : planIndex? (reqIndex t) = some x)
    (hlow : 1 ≤ reqIndex t) (hhigh : reqIndex t ≤ 28) :
    s.writePlanNext t =
      if s.unowned x then s.answered .badIndex
      else if planRefused t.body (x, 4) then s.answered .badValue
      else (s.applyPlanWrite t.body (x, 4)).answered (if planClamped t.body (x, 4) then .clamped else .ok) := by
  have hrange : rangeOk (reqIndex t) (reqCount t) 28 = true := by rw [hcount]; exact rangeOk_one hlow hhigh
  simp only [writePlanNext, planWrites_of_one hcount hindex, hrange, Bool.not_true, Bool.false_or, List.any_cons, List.any_nil,
    Bool.or_false, List.foldl_cons, List.foldl_nil]

/-! ### PLAN-READY (R169) -/

theorem mem_standsOf : st ∈ s.standsOf p ↔ (s.stand st).press = some p := by
  simp only [standsOf, List.mem_filter, List.mem_finRange, true_and, decide_eq_true_eq]

theorem nextInRange_iff : s.nextInRange p = true ↔ s.pls.nextPress[p].clamp = s.pls.nextPress[p] ∧
    ∀ st, (s.stand st).press = some p →
      s.pls.nextStand[st].clamp = s.pls.nextStand[st] ∧ s.pls.nextStand[st].paperOk = true := by
  simp only [nextInRange, Bool.and_eq_true, decide_eq_true_eq, List.all_eq_true, mem_standsOf]

theorem nextLeads_iff : ((s.standsOf p).any fun st => s.pls.nextStand[st].lead) = true ↔
    ∃ st, (s.stand st).press = some p ∧ s.pls.nextStand[st].lead = true := by
  simp only [List.any_eq_true, mem_standsOf]

theorem nextValid_iff : s.nextValid p = true ↔ s.nextInRange p = true ∧
    (s.pls.nextPress[p].inUse = true ↔ ∃ st, (s.stand st).press = some p ∧ s.pls.nextStand[st].lead = true) := by
  rw [nextValid, Bool.and_eq_true, decide_eq_true_eq]
  exact and_congr_right' (Bool.eq_iff_iff.trans (iff_congr .rfl nextLeads_iff))

/-! ### The presses of the stands are kept -/

/-- The stands keep their presses. -/
def samePresses (a b : State) : Prop := ∀ y, (b.stand y).press = (a.stand y).press

theorem samePresses.trans {a b c : State} (h : samePresses a b) (k : samePresses b c) : samePresses a c :=
  fun y => (k y).trans (h y)

theorem samePresses_of_moves {m : List Part} {a b : State} (h : Moves m a b) (hm : .stands ∉ m) : samePresses a b :=
  fun y => congrArg Stand.press (stand_of_moves h hm y)

theorem samePresses_updStand {f : Stand → Stand} (hf : ∀ x, (f x).press = x.press) (st : StandIx) (s : State) :
    samePresses s (s.updStand st f) := fun y => by
  rw [stand_updStand]
  split
  next h => rw [hf, h]
  next => rfl

theorem samePresses.ite {a b c : State} {q : Prop} [Decidable q] (h : samePresses a b) (k : samePresses a c) :
    samePresses a (if q then b else c) := by
  split
  · exact h
  · exact k

theorem samePresses_refl (s : State) : samePresses s s := fun _ => rfl

theorem samePresses_stateChanged (st : StandIx) (s : State) : samePresses s (s.stateChanged st) := by
  have hcleared := samePresses_updStand (f := fun x => { x with ts := Config.unbounded }) (fun _ => rfl) st s
  have htested := hcleared.trans ((samePresses_of_moves (Moves.makeEarly st _) (by decide)).trans
    (samePresses_of_moves (Moves.callTest st _) (by decide)))
  unfold stateChanged
  dsimp only
  split
  case h_1 => exact .ite htested hcleared
  case h_2 => exact .ite htested hcleared
  case h_3 => exact hcleared
  case h_4 => exact .ite (samePresses_of_moves (Moves.callTest st s) (by decide)) (samePresses_refl s)
  case h_5 => exact .ite (samePresses_of_moves (Moves.callTest st s) (by decide)) (samePresses_refl s)

theorem samePresses_starveTest (st : StandIx) (s : State) : samePresses s (s.starveTest st) := by
  have hstarved := samePresses_updStand (f := fun x => { x with state := .starved }) (fun _ => rfl) st s
  have hrecorded := (hstarved.trans (samePresses_of_moves (Moves.raise .standStarved (num st) _) (by decide))).trans
    (samePresses_of_moves (Moves.recordStarved st _) (by decide))
  exact .ite (hrecorded.trans (samePresses_stateChanged st _)) (samePresses_refl s)

theorem samePresses_lateTest (st : StandIx) (s : State) : samePresses s (s.lateTest st) :=
  .ite ((samePresses_updStand (f := fun x => { x with late := true }) (fun _ => rfl) st s).trans
    (samePresses_of_moves (Moves.raise .spliceLate (num st) _) (by decide))) (samePresses_refl s)

theorem samePresses_leaveLead (st : StandIx) (s : State) : samePresses s (s.leaveLead st) :=
  ((samePresses_updStand (f := fun x => { x with state := .out }) (fun _ => rfl) st s).trans
    (samePresses_of_moves (Moves.removeCall st _) (by decide))).trans
      (samePresses_updStand (f := fun x => { x with lres := 0, ts := Config.unbounded }) (fun _ => rfl) st _)

/-- A stand that was OUT takes its state from its arms and its starvation test (R173 step 1). -/
def standState (st : StandIx) (s : State) : State :=
  if (s.stand st).state = .out then (s.updStand st fun x => { x with state := s.armsState st }).starveTest st else s

/-- Lres by the new plan, with the late test when it has changed (R173 step 2). -/
def standReserve (st : StandIx) (s : State) : State :=
  let u := s.readActive st
  let w := u.updStand st fun x => { x with lres := u.lresValue st }
  if u.lresValue st = (s.stand st).lres then w else w.lateTest st

theorem alignStand_eq (st : StandIx) (s : State) : s.alignStand st = ((s.standState st).standReserve st).planCheck st := rfl

theorem samePresses_alignStand (st : StandIx) (s : State) : samePresses s (s.alignStand st) := by
  have hstate : samePresses s (s.standState st) :=
    .ite ((samePresses_updStand (f := fun x => { x with state := s.armsState st }) (fun _ => rfl) st s).trans
      (samePresses_starveTest st _)) (samePresses_refl s)
  have hreserve (u : State) : samePresses u (u.standReserve st) := by
    have hset := (samePresses_of_moves (Moves.readActive st u) (by decide)).trans
      (samePresses_updStand (f := fun x => { x with lres := (u.readActive st).lresValue st }) (fun _ => rfl) st _)
    exact .ite hset (hset.trans (samePresses_lateTest st _))
  rw [alignStand_eq]
  exact (hstate.trans (hreserve _)).trans (samePresses_of_moves (Moves.planCheck st _) (by decide))

theorem inLead_of_samePresses {a b : State} (h : samePresses a b) (hpls : b.pls = a.pls) : b.inLead = a.inLead :=
  funext fun y => inLead_of_stand (h y) hpls

/-- A fold over stands each of whose steps leaves presses and plans leaves the lead. -/
theorem inLead_foldl {f : State → StandIx → State} (hpress : ∀ s st, samePresses s (f s st)) (hpls : ∀ s st, (f s st).pls = s.pls)
    (l : List StandIx) (s : State) : (l.foldl f s).inLead = s.inLead := by
  induction l generalizing s with
  | nil => rfl
  | cons st l ih => exact (ih (f s st)).trans (inLead_of_samePresses (hpress s st) (hpls s st))

/-! ### The swap (R171) -/

/-- The ACTIVE stand part after the copy: NEXT for the stands of the press. -/
theorem getElem_foldl_set (next : Vector StandPart 24) : ∀ (l : List StandIx) (a : Vector StandPart 24) (y : StandIx),
    (l.foldl (fun a (st : StandIx) => a.set st next[st]) a)[y] = if y ∈ l then next[y] else a[y]
  | [], a, y => by simp
  | x :: l, a, y => by
    rw [List.foldl_cons, getElem_foldl_set next l]
    by_cases hl : y ∈ l
    · rw [if_pos hl, if_pos (List.mem_cons_of_mem x hl)]
    · rw [if_neg hl]
      by_cases hx : y = x
      · subst hx
        rw [if_pos List.mem_cons_self]
        simp
      · rw [if_neg (by simp [hl, hx])]
        simp [Vector.getElem_set, Fin.ext_iff] at hx ⊢
        omega

theorem inLead_copyBank (h : (s.stand st).press = some p) :
    (s.copyBank p).inLead st = (s.pls.nextPress[p].inUse && s.pls.nextStand[st].lead) := by
  have huse : (s.copyBank p).inUse p = s.pls.nextPress[p].inUse := by
    simp only [inUse, activePress, copyBank, Fin.getElem_fin, Vector.getElem_set_self]
  have hlead : (s.copyBank p).activeStand st = s.pls.nextStand[st] :=
    (getElem_foldl_set ..).trans (if_pos (mem_standsOf.2 h))
  have hpress : ((s.copyBank p).stand st).press = some p := h
  simp only [inLead, hpress, huse, hlead]

end State

end Sys2Proof.Machine
end

section
/-! PROOFS. The swap of a plan: the stands that leave the lead, those in it, and their calls (R170 to R174). -/

namespace Sys2Proof.Machine

namespace State

variable {s : State} {p : PressIx} {st : StandIx}

/-- A stand of the press is in the lead of the NEXT bank. -/
def nextLead (s : State) (p : PressIx) (st : StandIx) : Bool := s.pls.nextPress[p].inUse && s.pls.nextStand[st].lead

theorem filter_inLead_of_copied {u : State} (h : u.inLead = (s.copyBank p).inLead) :
    (s.standsOf p).filter u.inLead = (s.standsOf p).filter (s.nextLead p) :=
  List.filter_congr fun y hy => (congrFun h y).trans (inLead_copyBank (mem_standsOf.1 hy))

theorem filter_leaving : ((s.standsOf p).filter s.inLead).filter (fun st => !(s.copyBank p).inLead st) =
    (s.standsOf p).filter fun st => s.inLead st && !s.nextLead p st := by
  rw [List.filter_filter]
  refine List.filter_congr fun y hy => ?_
  rw [inLead_copyBank (mem_standsOf.1 hy), Bool.and_comm]
  rfl

theorem swapBank_eq (s : State) (p : PressIx) :
    s.swapBank p =
      let stands := s.standsOf p
      let out := (stands.filter fun st => s.inLead st && !s.nextLead p st).foldl (fun u st => u.leaveLead st) (s.copyBank p)
      let inLine := (stands.filter (s.nextLead p)).foldl (fun u st => u.alignStand st) out
      let judged := (stands.filter (s.nextLead p)).foldl (fun u st => u.judgeCall st) inLine
      stands.foldl (fun u st => u.computeTs st) judged.clearNoRoll.startSearch := by
  have hout (l : List StandIx) (u : State) : (l.foldl (fun u st => u.leaveLead st) u).inLead = u.inLead :=
    inLead_foldl (fun s st => samePresses_leaveLead st s) (fun s st => (Moves.leaveLead st s).same .pls (by decide)) l u
  have hline (l : List StandIx) (u : State) : (l.foldl (fun u st => u.alignStand st) u).inLead = u.inLead :=
    inLead_foldl (fun s st => samePresses_alignStand st s) (fun s st => (Moves.alignStand st s).same .pls (by decide)) l u
  unfold swapBank
  dsimp only
  rw [filter_leaving, filter_inLead_of_copied (hout _ _), filter_inLead_of_copied ((hline _ _).trans (hout _ _))]

theorem planSwap_of_unready (h : s.pls.ready[p] = false) : s.planSwap p = (s.raise .planNotReady (num p)).answered .wrongState := by
  simp only [planSwap, askSwap, h, Bool.false_eq_true, if_false]

theorem planSwap_of_ready (h : s.pls.ready[p] = true) : s.planSwap p = (s.swapBank p).answered .ok := by
  simp only [planSwap, askSwap, h, if_true]

theorem swapBank_of_bare (h : ∀ st, (s.stand st).press ≠ some p) :
    s.swapBank p = State.startSearch (State.clearNoRoll { s with pls := { s.pls with
      activePress := s.pls.activePress.set p s.pls.nextPress[p], ready := s.pls.ready.set p false } }) := by
  have hnone : s.standsOf p = [] := List.filter_eq_nil_iff.2 fun y _ => by simpa using h y
  simp only [swapBank_eq, hnone, List.filter_nil, List.foldl_nil, copyBank]

theorem standsOf_of_only (h : ∀ r, (s.stand r).press = some p ↔ r = st) : s.standsOf p = [st] := by
  obtain ⟨hmem, hnodup⟩ := mem_finRange_nodup st
  exact filter_eq_singleton hmem hnodup fun y => decide_eq_true_iff.trans (h y)

/-- The swap of a press whose only stand leaves the lead. -/
theorem swapBank_of_leaving (hpress : ∀ r, (s.stand r).press = some p ↔ r = st) (hin : s.inLead st = true)
    (hout : s.pls.nextStand[st].lead = false) (hcall : s.call? st = none) (hcalls : s.fdu.calls = []) :
    s.swapBank p = (s.copyBank p).setStand st { s.stand st with state := .out, lres := 0, ts := 65535 } := by
  have hstands : s.standsOf p = [st] := standsOf_of_only hpress
  have hnext : s.nextLead p st = false := by rw [nextLead, hout, Bool.and_false]
  let x : Stand := { s.stand st with state := .out, lres := 0, ts := 65535 }
  let u := (s.copyBank p).setStand st x
  have hleft : (s.copyBank p).leaveLead st = u := by
    show (((s.copyBank p).updStand st fun x => { x with state := .out }).removeCall st).updStand st
      (fun x => { x with lres := 0, ts := Config.unbounded }) = u
    rw [removeCall_of_none (by exact hcall)]
    exact updStand_setStand ..
  have hmarks : u.clearNoRoll = u := by
    have hnil : u.fdu.calls = [] := hcalls
    rw [clearNoRoll, hnil, List.map_nil, setCalls, ← hnil]
  have hlead : u.inLead st = false :=
    (inLead_setStand (s := s.copyBank p) (x := x) rfl).trans ((inLead_copyBank ((hpress st).2 rfl)).trans hnext)
  have hts : u.computeTs st = u := by
    rw [computeTs_of_outOfLead hlead hcall, stand_setStand_self, setStand_setStand]
  rw [swapBank_eq]
  simp only [hstands, List.filter_cons, List.filter_nil, hin, hnext, Bool.not_false, Bool.and_self, if_true, Bool.false_eq_true, if_false,
    List.foldl_cons, List.foldl_nil, hleft, hmarks]
  rw [startSearch_of_nil (s := u) hcalls, hts]

/-! ### A stand brought into line (R173) -/

/-- The active or the standby roll of a stand is of another grade or width than its plan. -/
def otherPaper (s : State) (st : StandIx) : Prop :=
  let other (id : RollId) : Prop := ∃ k r, s.findRoll id = some (k, r) ∧
    (r.grade ≠ (s.activeStand st).grade ∨ r.width ≠ (s.activeStand st).width)
  (∃ id, (s.stand st).active = some id ∧ other id) ∨ ∃ id, (s.stand st).other = .standby id ∧ other id

theorem armDiffers_some_iff (id : RollId) : s.armDiffers st (some id) = true ↔
    ∃ k r, s.findRoll id = some (k, r) ∧ (r.grade ≠ (s.activeStand st).grade ∨ r.width ≠ (s.activeStand st).width) := by
  cases h : s.findRoll id with
  | none => simp [armDiffers, roll?, h]
  | some e =>
    obtain ⟨k, r⟩ := e
    simp [armDiffers, roll?, h, Roll.differs]

/-- The roll that stands by on the other arm. -/
def standby? (s : State) (st : StandIx) : Option RollId :=
  match (s.stand st).other with
  | .standby id => some id
  | _ => none

theorem otherPaper_iff : s.otherPaper st ↔
    (s.armDiffers st (s.stand st).active || s.armDiffers st (s.standby? st)) = true := by
  have hnone : ¬ s.armDiffers st none = true := by simp [armDiffers]
  have harm (x : Option RollId) : s.armDiffers st x = true ↔ ∃ id, x = some id ∧ s.armDiffers st (some id) = true := by
    cases x with
    | none => simp [hnone]
    | some id => simp
  have hstandby (id : RollId) : s.standby? st = some id ↔ (s.stand st).other = .standby id := by
    unfold standby?
    cases (s.stand st).other <;> simp
  rw [Bool.or_eq_true, harm (s.stand st).active, harm (s.standby? st)]
  simp only [hstandby, armDiffers_some_iff, otherPaper]

theorem planCheck_of_noParity (h : s.noParity) : (s.otherPaper st → s.planCheck st = s.raise .planMismatch (num st)) ∧
    (¬ s.otherPaper st → s.planCheck st = s) := by
  have hcheck : s.planCheck st = if (s.armDiffers st (s.stand st).active || s.armDiffers st (s.standby? st)) = true then
      s.raise .planMismatch (num st) else s := by
    unfold planCheck
    rw [readActive_of_noParity h]
    dsimp only
    rw [readNamed_of_noParity h]
    rfl
  rw [hcheck]
  exact ⟨fun hd => if_pos (otherPaper_iff.1 hd), fun hd => if_neg fun hc => hd (otherPaper_iff.2 hc)⟩

/-- The stand's arms, the rolls and the plans are the same. -/
def SameArms (st : StandIx) (a b : State) : Prop :=
  (b.stand st).active = (a.stand st).active ∧ (b.stand st).other = (a.stand st).other ∧ b.findRoll = a.findRoll ∧ b.pls = a.pls

theorem SameArms.trans {a b c : State} (h : SameArms st a b) (k : SameArms st b c) : SameArms st a c := by
  obtain ⟨h1, h2, h3, h4⟩ := h
  obtain ⟨k1, k2, k3, k4⟩ := k
  exact ⟨k1.trans h1, k2.trans h2, k3.trans h3, k4.trans h4⟩

theorem otherPaper_of_sameArms {a b : State} (h : SameArms st a b) : b.otherPaper st ↔ a.otherPaper st := by
  obtain ⟨hactive, hother, hrolls, hpls⟩ := h
  simp only [otherPaper, hactive, hother, hrolls, activeStand, hpls]

theorem findRoll_of_moves {m : List Part} {a b : State} (h : Moves m a b) (hm : .rolls ∉ m) : b.findRoll = a.findRoll := by
  have hrolls := (Prod.mk.inj (h.same .rolls hm)).1
  funext id
  rw [findRoll, findRoll, hrolls]

/-- An update of the stand's record that leaves its arms. -/
theorem sameArms_updStand {f : Stand → Stand} (hf : ∀ x, (f x).active = x.active ∧ (f x).other = x.other) :
    SameArms st s (s.updStand st f) := by
  have hstand : (s.updStand st f).stand st = f (s.stand st) := stand_setStand_self ..
  rw [SameArms, hstand]
  exact ⟨(hf _).1, (hf _).2, rfl, rfl⟩

theorem sameArms_of_moves {m : List Part} {a b : State} (h : Moves m a b)
    (hm : (!m.contains .rolls && !m.contains .stands && !m.contains .pls) = true) : SameArms st a b := by
  simp only [Bool.and_eq_true, Bool.not_eq_true', List.contains_eq_mem, decide_eq_false_iff_not] at hm
  obtain ⟨⟨hrolls, hstands⟩, hpls⟩ := hm
  have hstand := stand_of_moves h hstands st
  exact ⟨congrArg Stand.active hstand, congrArg Stand.other hstand, findRoll_of_moves h hrolls, h.same .pls hpls⟩

theorem sameArms_refl (s : State) : SameArms st s s := ⟨rfl, rfl, rfl, rfl⟩

theorem sameArms_stateChanged (h : s.noParity) : SameArms st s (s.stateChanged st) := by
  have hcleared : SameArms st s (s.updStand st fun x => { x with ts := Config.unbounded }) := sameArms_updStand fun _ => ⟨rfl, rfl⟩
  have hearly := Moves.makeEarly st (s.updStand st fun x => { x with ts := Config.unbounded })
  have htested := (hcleared.trans (sameArms_of_moves hearly (by decide))).trans
    (sameArms_of_moves (moves_callTest_of_noParity st (noParity_of_moves hearly (by decide) h)) (by decide))
  have hplain : SameArms st s (s.callTest st) := sameArms_of_moves (moves_callTest_of_noParity st h) (by decide)
  have ite {b c : State} {q : Prop} [Decidable q] (hb : SameArms st s b) (hc : SameArms st s c) :
      SameArms st s (if q then b else c) := by
    split
    · exact hb
    · exact hc
  unfold stateChanged
  dsimp only
  split
  case h_1 => exact ite htested hcleared
  case h_2 => exact ite htested hcleared
  case h_3 => exact hcleared
  case h_4 => exact ite hplain (sameArms_refl s)
  case h_5 => exact ite hplain (sameArms_refl s)

theorem sameArms_starveTest (h : s.noParity) : SameArms st s (s.starveTest st) := by
  let u := s.updStand st fun x => { x with state := .starved }
  have hraise := Moves.raise .standStarved (num st) u
  have hrecord := Moves.recordStarved st (u.raise .standStarved (num st))
  have hgood : ((u.raise .standStarved (num st)).recordStarved st).noParity :=
    noParity_of_moves hrecord (by decide) (noParity_of_moves hraise (by decide) h)
  unfold starveTest
  split
  · exact (((sameArms_updStand (s := s) (f := fun x => { x with state := .starved }) fun _ => ⟨rfl, rfl⟩).trans
      (sameArms_of_moves hraise (by decide))).trans (sameArms_of_moves hrecord (by decide))).trans (sameArms_stateChanged hgood)
  · exact sameArms_refl s

theorem sameArms_lateTest : SameArms st s (s.lateTest st) := by
  unfold lateTest
  dsimp only
  split
  · exact (sameArms_updStand (s := s) (f := fun x => { x with late := true }) fun _ => ⟨rfl, rfl⟩).trans
      (sameArms_of_moves (Moves.raise .spliceLate (num st) _) (by decide))
  · exact sameArms_refl s

/-- The state of a stand that was OUT, by its arms. -/
def armedState (x : Stand) : StandState :=
  match x.active, x.other with
  | none, _ => .idle
  | some _, .standby _ => .armed
  | some _, _ => .feeding

theorem armsState_of_out (hlead : s.inLead st = true) (hout : (s.stand st).state = .out) :
    s.armsState st = armedState (s.stand st) := by
  simp only [armsState, hlead, if_true, armedState, hout]
  rfl

theorem standState_of_lead (hlead : s.inLead st = true) :
    s.standState st = if (s.stand st).state = .out then
      (s.setStand st { s.stand st with state := armedState (s.stand st) }).starveTest st else s := by
  unfold standState
  split
  next hout => rw [armsState_of_out hlead hout]; rfl
  next => rfl

/-- The plan check at the end finds what it would find at the start. -/
theorem alignStand_of_reserve {w : State} (hw : (s.standState st).standReserve st = w) (hgood : w.noParity) (harms : SameArms st s w) :
    (s.otherPaper st → s.alignStand st = w.raise .planMismatch (num st)) ∧ (¬ s.otherPaper st → s.alignStand st = w) := by
  rw [alignStand_eq, hw, ← otherPaper_of_sameArms harms]
  exact planCheck_of_noParity hgood

section Aligned

variable (hpar : s.noParity) (hlead : s.inLead st = true)

include hpar hlead

theorem standState_keeps : (s.standState st).noParity ∧ SameArms st s (s.standState st) ∧
    ((s.standState st).stand st).lres = (s.stand st).lres ∧ (s.standState st).inLead st = true := by
  let u := s.updStand st fun x => { x with state := s.armsState st }
  have hu : u.noParity := hpar
  by_cases hout : (s.stand st).state = .out
  · have hstate : s.standState st = u.starveTest st := if_pos hout
    rw [hstate]
    have harms : SameArms st s u := sameArms_updStand fun _ => ⟨rfl, rfl⟩
    have hmoves := moves_starveTest_of_noParity st hu
    refine ⟨noParity_of_moves hmoves (by decide) hu, harms.trans (sameArms_starveTest hu), ?_, ?_⟩
    · exact (lres_starveTest hu).trans (lres_updStand _ fun _ => rfl)
    · have hkept := (samePresses_updStand (f := fun x => { x with state := s.armsState st }) (fun _ => rfl) st s).trans
        (samePresses_starveTest st u)
      exact (inLead_of_stand (hkept st) (hmoves.same .pls (by decide))).trans hlead
  · have hstate : s.standState st = s := if_neg hout
    rw [hstate]
    exact ⟨hpar, sameArms_refl s, rfl, hlead⟩

theorem standReserve_of_idle (hactive : (s.stand st).active = none) (hlres : (s.stand st).lres = 0) :
    (s.standState st).standReserve st = s.standState st := by
  obtain ⟨hgood, ⟨hsame, -⟩, hkept, -⟩ := standState_keeps hpar hlead
  have hvalue : (s.standState st).lresValue st = 0 := by simp only [lresValue, hsame, hactive, ite_self]
  have hzero : ((s.standState st).stand st).lres = 0 := hkept.trans hlres
  have hself : ((s.standState st).updStand st fun x => { x with lres := 0 }) = s.standState st := by
    rw [updStand, ← hzero]
    exact setStand_self ..
  unfold standReserve
  rw [readActive_of_noParity hgood]
  dsimp only
  rw [hvalue, hself, if_pos hzero.symm]

theorem standReserve_of_active {id : RollId} {k : Nat} {r : Roll} (hactive : (s.stand st).active = some id)
    (hr : s.findRoll id = some (k, r)) :
    (s.standState st).standReserve st =
      let L := r.length (s.activeStand st).splice
      let w := (s.standState st).setStand st { (s.standState st).stand st with lres := L }
      if L = (s.stand st).lres then w else w.lateTest st := by
  obtain ⟨hgood, ⟨hsame, -, hrolls, hpls⟩, hkept, hin⟩ := standState_keeps hpar hlead
  have hplan : (s.standState st).activeStand st = s.activeStand st := by rw [activeStand, activeStand, hpls]
  have hvalue : (s.standState st).lresValue st = r.length (s.activeStand st).splice := by
    rw [lresValue_of_active (hsame.trans hactive) ((congrFun hrolls id).trans hr), if_pos hin, hplan]
  unfold standReserve
  rw [readActive_of_noParity hgood]
  dsimp only
  rw [hvalue, hkept]
  rfl

end Aligned

/-! ### The calls judged (R174) -/

theorem judgeCall_of_unselected (h : ∀ c id, s.call? st = some c → c.phase ≠ .selected id) : s.judgeCall st = s := by
  unfold judgeCall selectedRoll?
  split
  next id hid =>
    split at hid
    next b hphase =>
      obtain ⟨c, hc, hcp⟩ := Option.map_eq_some_iff.1 hphase
      exact absurd hcp (h c b hc)
    next => exact nomatch hid
  next => rfl

variable {c : Call} {id : RollId} {k : Nat} {r : Roll}

theorem judgeCall_of_selected (hpar : s.noParity) (hc : s.call? st = some c) (hphase : c.phase = .selected id)
    (hr : s.findRoll id = some (k, r)) : s.judgeCall st = if s.fits st r = true then s else s.reopenCall c := by
  have hselected : s.selectedRoll? st = some id := by rw [selectedRoll?_of_call hc, hphase]
  unfold judgeCall
  simp only [hselected, readRoll_of_noParity hpar, hc, hphase, roll?_of_findRoll hr, Option.any_some, true_and,
    Bool.not_eq_true', ← Bool.not_eq_true, ite_not]

/-- A roll RESERVED for the call of a stand is STORED again, and told when that makes it available. -/
theorem freeReservedRead_of_reserved {p : Nat} (hpar : s.noParity) (hr : s.findRoll id = some (k, r))
    (hstatus : r.status = .reserved p (.call st)) :
    s.freeReservedRead st id =
      let freed := s.setSlot k { r with status := .stored p }
      if r.holds = ⟨false, false, false, false, false⟩ ∧ (s.place p).blocked = false then freed.availability else freed := by
  let freed := s.setSlot k { r with status := .stored p }
  have hfree : s.freeReservedRead st id = freed.announceAvailable id := by
    simp only [freeReservedRead, hr, hstatus, if_true]
    rfl
  have hfound : freed.roll? id = some { r with status := .stored p } := roll?_of_findRoll (findRoll_setSlot hr rfl)
  have hgood : freed.noParity := noParity_setSlot _ _ hpar
  have hstored : freed.isAvailable { r with status := .stored p } = (r.holds.none && !(s.place p).blocked) :=
    isAvailable_of_stored rfl
  rw [hfree]
  dsimp only
  split
  next h =>
    refine announceAvailable_of_available hgood hfound (hstored.trans ?_)
    rw [(Holds.none_iff _).2 h.1, h.2]
    rfl
  next h =>
    refine announceAvailable_of_unavailable hgood hfound (hstored.trans ?_)
    rw [← Bool.not_eq_true, Bool.and_eq_true, Holds.none_iff, Bool.not_eq_true']
    exact h

theorem freeReservedRead_of_kept (hr : s.findRoll id = some (k, r)) (h : ∀ p, r.status ≠ .reserved p (.call st)) :
    s.freeReservedRead st id = s := by
  simp only [freeReservedRead, hr]
  split
  next p o hstatus => exact if_neg (c := o = st) fun ho => h p (ho ▸ hstatus)
  next => rfl

theorem leavePhase_of_selected (hpar : s.noParity) (hphase : c.phase = .selected id) :
    s.leavePhase c = s.freeReservedRead c.stand id := by
  rw [leavePhase_of_noParity hpar]
  simp only [leavePhaseRead, hphase, CallPhase.link?, CallPhase.roll?]

theorem noParity_putCall (d : Call) (h : s.noParity) : (s.putCall d).noParity := h

theorem reopenCall_of_selected (hpar : s.noParity) (hc : s.call? st = some c) (hphase : c.phase = .selected id) :
    s.reopenCall c = ((s.putCall { c with phase := .opened }).freeReservedRead st id).startSearch := by
  rw [reopenCall, leavePhase_of_selected (noParity_putCall _ hpar) hphase, stand_of_call? hc]

end State

/-- CLAMPED is the answer exactly when the record differs from its clamped one. -/
theorem clampedResult_eq {b : Bool} {q : Prop} [Decidable q] (h : b = true ↔ ¬ q) :
    (if b then Result.clamped else .ok) = if q then .ok else .clamped := by
  by_cases hq : q
  · rw [if_neg fun hb => h.1 hb hq, if_pos hq]
  · rw [if_pos (h.2 hq), if_neg hq]

/-- Settles O50: NEXT written and made ready, and the swap by the stands that leave the lead and those that stand in it. -/
theorem plansAreWrittenReadiedAndSwapped : Obligations.PlansAreWrittenReadiedAndSwapped := by
  unfold Obligations.PlansAreWrittenReadiedAndSwapped
  refine ⟨⟨fun t rest s hready => ?write, fun t rest s hready => ?ready⟩, fun p t rest s hready hp => ?swap, fun p s hswap => ?steps,
    fun p t rest s hready hp hswap => ?command, fun st s hpar hlead => ?align, fun st s hpar => ?judge⟩
  case write =>
    intro w answer
    have done {r : Result} {u : State} (h : w.writePlanNext t = u.answered r) : answer r u := served hready h
    refine ⟨fun h => done (State.writePlanNext_of_outside h), fun p hcount hindex => ?press, fun st hcount hindex => ?stand⟩
    case press =>
      intro x
      have hone := State.writePlanNext_of_one (s := w) hcount (x := .press p) (by rw [hindex]; exact planIndex?_press p)
        (by simp only [hindex, num]; omega) (by have := p.isLt; simp only [hindex, num]; omega)
      have howned : w.unowned (.press p) = false := rfl
      have hrefused : State.planRefused t.body (.press p, 4) = decide (1 < (u8 t.body 4).toNat) := Bool.or_false _
      rw [howned, hrefused] at hone
      refine ⟨fun h => done (hone.trans ?_), fun h => done (hone.trans ?_)⟩
      · rw [if_neg Bool.false_ne_true, if_pos (decide_eq_true h)]
      · rw [if_neg Bool.false_ne_true, if_neg (by rw [decide_eq_true_eq]; omega)]
        refine congrArg (fun r => State.answered r _) ?_
        have hclamped : State.planClamped t.body (.press p, 4) = true ↔ ¬ x.clamp = x := by
          simp only [State.planClamped, decide_eq_true_eq, ne_eq]
          rfl
        exact clampedResult_eq hclamped
    case stand =>
      intro x bad
      have hone := State.writePlanNext_of_one (s := w) hcount (x := .stand st)
        (by rw [hindex, Nat.add_comm]; exact planIndex?_stand st)
        (by simp only [hindex]; omega) (by have := st.isLt; simp only [hindex, num]; omega)
      refine ⟨fun hnone => done (hone.trans (if_pos ?_)), fun p hp => ?_⟩
      · exact Option.isNone_iff_eq_none.2 hnone
      · have howned : w.unowned (.stand st) = false := by
          show (s.stand st).press.isNone = false
          rw [hp]
          rfl
        have hrefused : State.planRefused t.body (.stand st, 4) = true ↔ bad := by
          show (decide (1 < (u8 t.body 4).toNat) || !x.paperOk) = true ↔ bad
          simp only [StandPart.paperOk, Bool.or_eq_true, decide_eq_true_eq, Bool.not_eq_true', decide_eq_false_iff_not, bad]
          omega
        rw [howned] at hone
        refine ⟨fun h => done (hone.trans ?_), fun h => done (hone.trans ?_)⟩
        · rw [if_neg Bool.false_ne_true, if_pos (hrefused.2 h)]
        · rw [if_neg Bool.false_ne_true, if_neg fun hr => h (hrefused.1 hr)]
          have hclamped : State.planClamped t.body (.stand st, 4) = true ↔ ¬ x.clamp = x := by
            simp only [State.planClamped, decide_eq_true_eq, ne_eq]
            rfl
          have hwritten : w.applyPlanWrite t.body (.stand st, 4) = (w.setNextStand st x.clamp).clearReady (some p) := by
            rw [← hp]
            rfl
          rw [hwritten]
          refine congrArg (fun r => State.answered r _) ?_
          exact clampedResult_eq hclamped
  case ready =>
    intro w answer
    have done {r : Result} {u : State} (h : State.onPress State.planReady t w = u.answered r) : answer r u := served hready h
    refine ⟨fun h => done ?_, fun p hp => ?_⟩
    · have hnone : toIx 4 (u8 t.body 1).toNat = none := dif_neg (by omega)
      simp only [State.onPress, hnone]
    · intro marked inRange leads
      have hvalid : w.nextValid p = true ↔ inRange ∧ (s.pls.nextPress[p].inUse = true ↔ leads) :=
        State.nextValid_iff.trans (and_congr_left' State.nextInRange_iff)
      have hset : State.onPress State.planReady t w = (marked (w.nextValid p)).answered (if w.nextValid p then .ok else .badValue) :=
        State.onPress_of_num hp
      refine ⟨fun h => done (hset.trans ?_), fun h => done (hset.trans ?_)⟩
      · rw [hvalid.2 h]
        rfl
      · rw [Bool.eq_false_iff.2 (mt hvalid.1 h)]
        rfl
  case swap =>
    intro w answer pls
    have done {u : State} {r : Result} (h : State.planSwap p w = u.answered r) : answer r u :=
      served hready ((State.onPress_of_num hp).trans h)
    have swapped (hswap : s.pls.ready[p] = true) {u : State} (h : w.swapBank p = u) : answer .ok u :=
      done ((State.planSwap_of_ready (s := w) hswap).trans (congrArg (State.answered .ok) h))
    refine ⟨fun h => done (State.planSwap_of_unready (s := w) h), fun hswap hbare => ?_,
      fun hswap st hpress hin hout hpar hcall hsearch hcalls => ?_⟩
    · exact swapped hswap (State.swapBank_of_bare (s := w) hbare)
    · have hstands : w.standsOf p = [st] := State.standsOf_of_only hpress
      refine swapped hswap ((State.swapBank_of_leaving (s := w) hpress hin hout hcall hcalls).trans ?_)
      rw [State.copyBank, hstands]
      rfl
  case steps =>
    exact (if_pos hswap).trans (State.swapBank_eq s p)
  case command =>
    have hanswer : State.planSwap p (s.popped rest) = ((s.popped rest).askSwap p).answered .ok :=
      congrArg (State.answered · _) (if_pos hswap)
    exact served hready ((State.onPress_of_num hp).trans hanswer)
  case align =>
    intro x plan state u other differs checked
    have hu : s.standState st = u := State.standState_of_lead hlead
    obtain ⟨hgood, harms, -, -⟩ := State.standState_keeps hpar hlead
    refine ⟨fun hactive hlres => ?_, fun id k r hactive hr => ?_⟩
    · exact State.alignStand_of_reserve ((State.standReserve_of_idle hpar hlead hactive hlres).trans hu) (hu ▸ hgood) (hu ▸ harms)
    · intro L w'
      have hreserve := State.standReserve_of_active hpar hlead hactive hr
      rw [hu] at hreserve hgood harms
      have hw : State.SameArms st s w' := harms.trans (State.sameArms_updStand (f := fun y => { y with lres := L }) fun _ => ⟨rfl, rfl⟩)
      have hgoodw : w'.noParity := hgood
      have hkeeps : (if L = x.lres then w' else w'.lateTest st).noParity ∧ State.SameArms st s (if L = x.lres then w' else w'.lateTest st) := by
        split
        · exact ⟨hgoodw, hw⟩
        · exact ⟨State.noParity_of_moves (Moves.lateTest st w') (by decide) hgoodw, hw.trans State.sameArms_lateTest⟩
      exact State.alignStand_of_reserve ((congrArg (State.standReserve st) hu).trans hreserve) hkeeps.1 hkeeps.2
  case judge =>
    intro plan
    refine ⟨State.judgeCall_of_unselected, fun c id k r hc hphase hr _ => ?_⟩
    intro fits
    have hjudge := State.judgeCall_of_selected hpar hc hphase hr
    have hfits : s.fits st r = true ↔ fits := State.fits_iff
    let u := s.putCall { c with phase := .opened }
    have hfound : u.findRoll id = some (k, r) := hr
    refine ⟨fun h => hjudge.trans (if_pos (hfits.2 h)), fun h p hstatus => ?_, fun h hstatus => ?_⟩
    · intro freed
      rw [hjudge, if_neg (mt hfits.1 h), State.reopenCall_of_selected hpar hc hphase,
        State.freeReservedRead_of_reserved (s := u) (State.noParity_putCall _ hpar) hfound hstatus]
      rfl
    · rw [hjudge, if_neg (mt hfits.1 h), State.reopenCall_of_selected hpar hc hphase,
        State.freeReservedRead_of_kept (s := u) hfound hstatus]

end Sys2Proof.Machine
end

section
/-! PROOFS. The choice of a vehicle, and a call in SELECTED tried with it (R141, R178). -/

namespace Sys2Proof.Machine

/-! ### The least of the numbers that the members of a list have -/

section Least

variable (n : VehicleIx → Option Nat)

/-- One more vehicle compared with the best so far. -/
def lesser (a : Option (Nat × VehicleIx)) (v : VehicleIx) : Option (Nat × VehicleIx) :=
  match n v, a with
  | some k, some (m, w) => some (if k < m then (k, v) else (m, w))
  | some k, none => some (k, v)
  | none, b => b

/-- The first of the members of P that has the least number. -/
def Least (P : VehicleIx → Prop) : Option (Nat × VehicleIx) → Prop
  | none => ∀ v, P v → n v = none
  | some (m, w) => P w ∧ n w = some m ∧ ∀ v k, P v → n v = some k → m < k ∨ m = k ∧ w ≤ v

variable {n} {P : VehicleIx → Prop} {a : Option (Nat × VehicleIx)}

theorem least_lesser {v : VehicleIx} (h : Least n P a) (hv : ∀ w, P w → w < v) : Least n (fun w => P w ∨ w = v) (lesser n a v) := by
  cases hn : n v with
  | none =>
    have hsame : lesser n a v = a := by simp only [lesser, hn]
    rw [hsame]
    cases a with
    | none => exact fun w hw => hw.elim (h w) fun he => he ▸ hn
    | some b =>
      obtain ⟨hP, hm, hleast⟩ := h
      refine ⟨.inl hP, hm, fun w k hw hk => hw.elim (fun hw => hleast w k hw hk) fun he => ?_⟩
      subst he
      exact nomatch hn.symm.trans hk
  | some k =>
    cases a with
    | none =>
      have hfirst : lesser n none v = some (k, v) := by simp only [lesser, hn]
      rw [hfirst]
      refine ⟨.inr rfl, hn, fun w j hw hj => hw.elim (fun hw => nomatch (h w hw).symm.trans hj) fun he => ?_⟩
      subst he
      exact .inr ⟨Option.some.inj (hn.symm.trans hj), le_refl _⟩
    | some b =>
      obtain ⟨m, w⟩ := b
      obtain ⟨hP, hm, hleast⟩ := h
      have hnext : lesser n (some (m, w)) v = some (if k < m then (k, v) else (m, w)) := by simp only [lesser, hn]
      rw [hnext]
      by_cases hkm : k < m
      · rw [if_pos hkm]
        refine ⟨.inr rfl, hn, fun y j hy hj => hy.elim (fun hy => ?_) fun he => ?_⟩
        · have hle := hleast y j hy hj
          omega
        · subst he
          exact .inr ⟨Option.some.inj (hn.symm.trans hj), le_refl _⟩
      · rw [if_neg hkm]
        refine ⟨.inl hP, hm, fun y j hy hj => hy.elim (fun hy => hleast y j hy hj) fun he => ?_⟩
        subst he
        have hjk : k = j := Option.some.inj (hn.symm.trans hj)
        rcases Nat.lt_or_eq_of_le (Nat.not_lt.1 hkm) with hmk | hmk
        · exact .inl (hjk ▸ hmk)
        · exact .inr ⟨hmk.trans hjk, le_of_lt (hv w hP)⟩

theorem least_foldl : ∀ {l : List VehicleIx} {P : VehicleIx → Prop} {a : Option (Nat × VehicleIx)}, l.Pairwise (· < ·) →
    (∀ w, P w → ∀ v ∈ l, w < v) → Least n P a → Least n (fun w => P w ∨ w ∈ l) (l.foldl (lesser n) a)
  | [], _, _, _, _, h => by simpa using h
  | v :: l, P, a, hl, hP, h => by
    obtain ⟨hv, hl⟩ := List.pairwise_cons.1 hl
    have hnext := least_foldl (P := fun w => P w ∨ w = v) hl
      (fun w hw y hy => hw.elim (fun hw => hP w hw y (List.mem_cons_of_mem v hy)) fun he => he ▸ hv y hy)
      (least_lesser h fun w hw => hP w hw v List.mem_cons_self)
    have hmem : (fun w => (P w ∨ w = v) ∨ w ∈ l) = fun w => P w ∨ w ∈ v :: l := by
      funext w
      rw [List.mem_cons, or_assoc]
    exact hmem ▸ hnext

theorem least_finRange : Least n (fun _ => True) ((List.finRange 16).foldl (lesser n) none) := by
  have h := least_foldl (n := n) (P := fun _ => False) (a := none) (l := List.finRange 16) (List.pairwise_lt_finRange 16)
    (fun _ hw => hw.elim) fun _ hw => hw.elim
  have hall : (fun w : VehicleIx => False ∨ w ∈ List.finRange 16) = fun _ => True := by
    funext w
    simp
  exact hall ▸ h

end Least

namespace State

variable {s : State} {pickup drop : Loc} {v : VehicleIx}

/-! ### The choice of a vehicle (R141) -/

/-- The vehicle qualifies for a call's roll. -/
def qualifies (s : State) (pickup drop : Loc) (v : VehicleIx) : Prop :=
  s.vehicleEntry? v ≠ none ∧ (s.vehicle v).status = .idle ∧ (s.vehicle v).causes = ⟨false, false, false, false⟩ ∧
    (s.lookupLegs (s.vehicle v).endLoc pickup drop).1.clear? ≠ none ∧
    (s.lookupLegs (s.vehicle v).endLoc pickup drop).2.1.clear? ≠ none

/-- The segments of the vehicle's two legs. -/
def legSegments (s : State) (pickup drop : Loc) (v : VehicleIx) : Nat :=
  ((s.lookupLegs (s.vehicle v).endLoc pickup drop).1.clear?.getD []).length +
    ((s.lookupLegs (s.vehicle v).endLoc pickup drop).2.1.clear?.getD []).length

theorem servingLegs_of_qualifies (hpar : s.noParity) (h : s.qualifies pickup drop v) :
    s.servingLegs v pickup drop = (some (s.legSegments pickup drop v), s) := by
  obtain ⟨hentry, hidle, hcauses, hleg1, hleg2⟩ := h
  rw [lookupLegs_of_noParity hpar] at hleg1 hleg2
  obtain ⟨l1, h1⟩ := Option.ne_none_iff_exists'.1 hleg1
  obtain ⟨l2, h2⟩ := Option.ne_none_iff_exists'.1 hleg2
  have hnone : (⟨false, false, false, false⟩ : Causes).none = true := rfl
  simp only [servingLegs, legSegments, Option.isSome_iff_ne_none.2 hentry, hidle, hcauses, hnone, lookupLegs_of_noParity hpar, h1,
    h2, decide_true, Bool.and_self,
    if_true, Option.getD_some]

theorem servingLegs_of_unqualified (hpar : s.noParity) (h : ¬ s.qualifies pickup drop v) :
    s.servingLegs v pickup drop = (none, s) := by
  unfold servingLegs
  dsimp only
  split
  next hfree =>
    simp only [Bool.and_eq_true, decide_eq_true_eq, Option.isSome_iff_ne_none] at hfree
    obtain ⟨⟨hentry, hidle⟩, hcauses⟩ := hfree
    rw [qualifies, lookupLegs_of_noParity hpar] at h
    rw [lookupLegs_of_noParity hpar]
    dsimp only
    split
    next l1 l2 h1 h2 =>
      exact absurd ⟨hentry, hidle, (Causes.none_iff _).1 hcauses, by rw [h1]; exact Option.some_ne_none _,
        by rw [h2]; exact Option.some_ne_none _⟩ h
    next => rfl
  next => rfl

/-- The segments by which a vehicle could serve; none when it does not qualify. -/
def servingSegments (s : State) (pickup drop : Loc) (v : VehicleIx) : Option Nat := (s.servingLegs v pickup drop).1

theorem servingSegments_eq_none_iff (hpar : s.noParity) : s.servingSegments pickup drop v = none ↔ ¬ s.qualifies pickup drop v := by
  unfold servingSegments
  by_cases h : s.qualifies pickup drop v
  · rw [servingLegs_of_qualifies hpar h]
    exact iff_of_false (Option.some_ne_none _) fun hn => hn h
  · rw [servingLegs_of_unqualified hpar h]
    exact iff_of_true rfl h

theorem servingSegments_eq_some_iff (hpar : s.noParity) {k : Nat} :
    s.servingSegments pickup drop v = some k ↔ s.qualifies pickup drop v ∧ s.legSegments pickup drop v = k := by
  unfold servingSegments
  by_cases h : s.qualifies pickup drop v
  · rw [servingLegs_of_qualifies hpar h]
    simp only [Option.some.injEq, h, true_and]
  · rw [servingLegs_of_unqualified hpar h]
    exact iff_of_false (fun hn => nomatch hn) fun hn => h hn.1

theorem servingLegs_of_noParity (hpar : s.noParity) (v : VehicleIx) :
    s.servingLegs v pickup drop = (s.servingSegments pickup drop v, s) := by
  unfold servingSegments
  by_cases h : s.qualifies pickup drop v
  · rw [servingLegs_of_qualifies hpar h]
  · rw [servingLegs_of_unqualified hpar h]

theorem chooseVehicle_of_noParity (hpar : s.noParity) (vs : List VehicleIx) :
    s.chooseVehicle vs pickup drop = ((vs.foldl (lesser (s.servingSegments pickup drop)) none).map Prod.snd, s) := by
  have hfold : ∀ (l : List VehicleIx) (a : Option (Nat × VehicleIx)),
      l.foldl (fun (a : Option (Nat × VehicleIx) × State) v =>
        let (n, s) := a.2.servingLegs v pickup drop
        match n, a.1 with
        | some n, some (m, w) => (some (if n < m then (n, v) else (m, w)), s)
        | some n, none => (some (n, v), s)
        | none, b => (b, s)) (a, s) = (l.foldl (lesser (s.servingSegments pickup drop)) a, s) := by
    intro l
    induction l with
    | nil => exact fun _ => rfl
    | cons v l ih =>
      intro a
      rw [List.foldl_cons, List.foldl_cons, ← ih]
      refine congrArg (fun a => l.foldl _ a) ?_
      dsimp only
      rw [servingLegs_of_noParity hpar]
      unfold lesser
      dsimp only
      cases s.servingSegments pickup drop v <;> cases a <;> rfl
  exact congrArg (fun r => (r.1.map Prod.snd, r.2)) (hfold vs none)

theorem chooseVehicle_single (hpar : s.noParity) : (s.qualifies pickup drop v → s.chooseVehicle [v] pickup drop = (some v, s)) ∧
    (¬ s.qualifies pickup drop v → s.chooseVehicle [v] pickup drop = (none, s)) := by
  refine ⟨fun h => ?_, fun h => ?_⟩
  · have hsegs := (servingSegments_eq_some_iff hpar).2 ⟨h, rfl⟩
    simp only [chooseVehicle_of_noParity hpar, List.foldl_cons, List.foldl_nil, lesser, hsegs, Option.map_some]
  · have hsegs := (servingSegments_eq_none_iff hpar).2 h
    simp only [chooseVehicle_of_noParity hpar, List.foldl_cons, List.foldl_nil, lesser, hsegs, Option.map_none]

theorem chooseVehicle_all (hpar : s.noParity) (pickup drop : Loc) :
    ∃ best, s.chooseVehicle (List.finRange 16) pickup drop = (best, s) ∧
      (best = none ↔ ∀ v, ¬ s.qualifies pickup drop v) ∧
      ∀ v, best = some v → s.qualifies pickup drop v ∧ ∀ w, s.qualifies pickup drop w →
        s.legSegments pickup drop v < s.legSegments pickup drop w ∨
          (s.legSegments pickup drop v = s.legSegments pickup drop w ∧ v.val ≤ w.val) := by
  have hleast := least_finRange (n := s.servingSegments pickup drop)
  refine ⟨_, chooseVehicle_of_noParity hpar _, ?_⟩
  cases hbest : (List.finRange 16).foldl (lesser (s.servingSegments pickup drop)) none with
  | none =>
    rw [hbest] at hleast
    refine ⟨iff_of_true rfl fun v => (servingSegments_eq_none_iff hpar).1 (hleast v trivial), fun v hv => nomatch hv⟩
  | some b =>
    obtain ⟨m, w⟩ := b
    rw [hbest] at hleast
    obtain ⟨-, hm, hmin⟩ := hleast
    obtain ⟨hqual, hsegs⟩ := (servingSegments_eq_some_iff hpar).1 hm
    refine ⟨iff_of_false (fun h => nomatch h) fun h => h w hqual, fun v hv => ?_⟩
    obtain rfl : w = v := Option.some.inj hv
    refine ⟨hqual, fun y hy => ?_⟩
    rw [hsegs]
    exact hmin y _ trivial ((servingSegments_eq_some_iff hpar).2 ⟨hy, rfl⟩)

/-! ### A call in SELECTED is tried (R141) -/

/-- The order made for the vehicle chosen, if one is. -/
def sendChosen (best : Option VehicleIx) (pickup drop : Loc) (id : RollId) (s : State) : State :=
  match best with
  | some v => s.originate v pickup drop id
  | none => s

theorem tryRoll_of_noParity {st : StandIx} {id : RollId} {r : Roll} (hpar : s.noParity) (hr : s.roll? id = some r) :
    (∀ p o, r.status = .reserved p o → s.tryRoll st id =
      s.sendChosen (s.chooseVehicle (List.finRange 16) ⟨.place, p⟩ (standLoc st)).1 ⟨.place, p⟩ (standLoc st) id) ∧
    (∀ v, r.status = .carried (some v) → s.tryRoll st id =
      s.sendChosen (s.chooseVehicle [v] ⟨.none, 0⟩ (standLoc st)).1 ⟨.none, 0⟩ (standLoc st) id) ∧
    ((∀ p o, r.status ≠ .reserved p o) → (∀ v, r.status ≠ .carried (some v)) → s.tryRoll st id = s) := by
  have chooses (vs : List VehicleIx) (pickup : Loc) : ∃ best, s.chooseVehicle vs pickup (standLoc st) = (best, s) :=
    ⟨_, chooseVehicle_of_noParity hpar vs⟩
  refine ⟨fun p o h => ?_, fun v h => ?_, fun hreserved hcarried => ?_⟩
  · obtain ⟨best, hbest⟩ := chooses (List.finRange 16) ⟨.place, p⟩
    simp only [tryRoll, hr, h, Option.map_some, hbest]
    cases best <;> rfl
  · obtain ⟨best, hbest⟩ := chooses [v] ⟨.none, 0⟩
    simp only [tryRoll, hr, h, Option.map_some, hbest]
    cases best <;> rfl
  · unfold tryRoll
    rw [hr, Option.map_some]
    split
    next p o h => exact absurd (Option.some.inj h) (hreserved p o)
    next v h => exact absurd (Option.some.inj h) (hcarried v)
    next => rfl

theorem tryCalls_of_single {c : Call} {id : RollId} (hmode : s.sfu.mode = .autonomous) (hpar : s.noParity) (hcalls : s.fdu.calls = [c])
    (hphase : c.phase = .selected id) : s.tryCalls = s.tryRoll c.stand id := by
  have hselected : s.selectedRoll? c.stand = some id := by rw [selectedRoll?_of_call (call?_of_single hcalls), hphase]
  rw [tryCalls, if_pos hmode, hcalls]
  show s.tryCall c.stand = _
  simp only [tryCall, hselected, readRoll_of_noParity hpar, if_true]

end State

end Sys2Proof.Machine
end

section
/-! PROOFS. The link of a call to an admitted order (R78), and the order the part makes in AUTONOMOUS (R141, R180). -/

namespace Sys2Proof.Machine

/-- The order that joins the call of its stand. -/
def Order.linked (src : Source) (reply tag : Byte) (pickup : Loc) (st : StandIx) (roll : RollId) : Order :=
  { Order.admitted src reply tag pickup (standLoc st) roll .held with link := some st }

namespace State

variable {s : State} {v : VehicleIx} {st : StandIx} {c : Call} {o : Order} {roll : RollId}

/-! ### The calls while none waits for a search -/

theorem clearNoRoll_of_unmarked (h : ∀ c ∈ s.fdu.calls, c.noRoll = false) : s.clearNoRoll = s := by
  have hsame : (s.fdu.calls.map fun c => { c with noRoll := false }) = s.fdu.calls :=
    (List.map_congr_left (g := id) fun c hc => congrArg (fun b => { c with noRoll := b }) (h c hc).symm).trans (List.map_id _)
  rw [clearNoRoll, hsame]
  rfl

/-- No search is in flight, no call is OPEN and none is marked, so that the availability notice finds nothing to do. -/
def quietCalls (s : State) : Prop := s.fdu.search = none ∧ ∀ c ∈ s.fdu.calls, c.phase ≠ .opened ∧ c.noRoll = false

theorem availability_of_quiet (h : s.quietCalls) : s.availability = s := by
  obtain ⟨hsearch, hcalls⟩ := h
  have hmarks := clearNoRoll_of_unmarked fun c hc => (hcalls c hc).2
  have hnoted : s.setSearch none = s := by rw [setSearch, ← hsearch]
  rw [availability, hmarks, hsearch, Option.map_none, hnoted]
  exact startSearch_of_unopened fun c hc => .inl (hcalls c hc).1

/-! ### What a call leaves behind (R11, R143) -/

/-- The call names a roll that stands RESERVED for the stand's call. -/
def reservedRoll (s : State) (st : StandIx) (c : Call) (j : Nat) (q : Roll) (p : Nat) : Prop :=
  ∃ old, c.phase.roll? = some old ∧ s.findRoll old = some (j, q) ∧ q.status = .reserved p (.call st)

/-- The roll of the call is let go. -/
def letRollGo (st : StandIx) (c : Call) (s : State) : State :=
  match c.phase.roll? with
  | some old => s.freeReservedRead st old
  | none => s

theorem letRollGo_of_reserved {j p : Nat} {q : Roll} (hpar : s.noParity) (hquiet : s.quietCalls) (h : s.reservedRoll st c j q p) :
    s.letRollGo st c = s.setSlot j { q with status := .stored p } := by
  obtain ⟨old, hold, hfound, hstatus⟩ := h
  have hfree := freeReservedRead_of_reserved hpar hfound hstatus
  rw [letRollGo, hold]
  refine hfree.trans ?_
  dsimp only
  rw [availability_of_quiet (s := s.setSlot j { q with status := .stored p }) hquiet, ite_self]

theorem letRollGo_of_kept (h : ∀ j q p, ¬ s.reservedRoll st c j q p) : s.letRollGo st c = s := by
  unfold letRollGo
  split
  next old hold =>
    cases hfound : s.findRoll old with
    | none => simp only [freeReservedRead, hfound]
    | some e => exact freeReservedRead_of_kept hfound fun p hp => h _ _ p ⟨old, hold, hfound, hp⟩
  next => rfl

/-- The order of the call loses its link. -/
def letOrderGo (c : Call) (s : State) : State :=
  match c.phase.link? with
  | some l => s.updOrder l fun o => { o with link := none }
  | none => s

theorem leavePhase_eq (hpar : s.noParity) : s.leavePhase c = (s.letOrderGo c).letRollGo c.stand c := leavePhase_of_noParity hpar c

/-! ### An order in the hold queue -/

theorem setVehicle_comm {w : VehicleIx} (h : v ≠ w) (x y : Vehicle) (s : State) :
    (s.setVehicle v x).setVehicle w y = (s.setVehicle w y).setVehicle v x := by
  have hval : v.val ≠ w.val := fun he => h (Fin.ext he)
  simp only [setVehicle, Vector.set_comm _ _ hval]

theorem withQueued_updVehicle_of_ne {w : VehicleIx} (h : w ≠ v) (f : Vehicle → Vehicle) :
    (s.withQueued v o).updVehicle w f = (s.updVehicle w f).withQueued v o := by
  unfold withQueued updVehicle
  rw [vehicle_setVehicle, if_neg h.symm, vehicle_setVehicle, if_neg h]
  exact setVehicle_comm h.symm ..

theorem updOrder_withQueued (f : Order → Order)
    (h : ∀ q ∈ (s.vehicle v).outstanding ++ (s.vehicle v).queue, q.tag ≠ o.tag) :
    (s.withQueued v o).updOrder ⟨v, o.tag⟩ f = s.withQueued v (f o) := by
  have hout : (s.vehicle v).outstanding.map (fun q => if q.tag = o.tag then f q else q) = (s.vehicle v).outstanding :=
    (List.map_congr_left (g := id) fun q hq => if_neg (h q (List.mem_append_left _ hq))).trans (List.map_id _)
  have hqueue : (s.vehicle v).queue.map (fun q => if q.tag = o.tag then f q else q) = (s.vehicle v).queue :=
    (List.map_congr_left (g := id) fun q hq => if_neg (h q (List.mem_append_right _ hq))).trans (List.map_id _)
  rw [updOrder, withQueued, updVehicle_setVehicle]
  simp only [hout, List.map_append, hqueue, List.map_cons, List.map_nil, if_true]
  rfl

theorem letOrderGo_withQueued (h : o.link = none) : (s.withQueued v o).letOrderGo c = (s.letOrderGo c).withQueued v o := by
  unfold letOrderGo
  split
  next l _ =>
    have hsame : (if o.tag = l.tag then { o with link := none } else o) = o := by
      rw [← h]
      exact ite_self o
    by_cases hv : l.vehicle = v
    · subst hv
      rw [updOrder, withQueued, updVehicle_setVehicle, updOrder, updVehicle, withQueued, setVehicle_setVehicle, vehicle_setVehicle_self]
      simp only [List.map_append, List.map_cons, List.map_nil, hsame]
    · unfold updOrder
      exact withQueued_updVehicle_of_ne hv _
  next => rfl

/-- No order of the vehicle has the tag. -/
def freshTag (s : State) (v : VehicleIx) (tag : Byte) : Prop := ∀ q ∈ (s.vehicle v).outstanding ++ (s.vehicle v).queue, q.tag ≠ tag

theorem freshTag_letOrderGo {tag : Byte} (h : s.freshTag v tag) : (s.letOrderGo c).freshTag v tag := by
  unfold letOrderGo
  split
  next l _ =>
    by_cases hv : l.vehicle = v
    · have hx : (s.updOrder l fun o => { o with link := none }).vehicle v = _ :=
        (vehicle_updVehicle ..).trans (if_pos hv)
      intro q hq
      rw [hx, hv, ← List.map_append] at hq
      obtain ⟨y, hy, rfl⟩ := List.mem_map.1 hq
      have htag : (if y.tag = l.tag then { y with link := none } else y).tag = y.tag := by
        split <;> rfl
      rw [htag]
      exact h y hy
    · have hx : (s.updOrder l fun o => { o with link := none }).vehicle v = s.vehicle v :=
        (vehicle_updVehicle ..).trans (if_neg hv)
      rw [freshTag, hx]
      exact h
  next => exact h

/-- A queued order's link set, after the one it takes the place of has lost its own. -/
theorem linkQueued_eq (h : o.link = none) (hfresh : s.freshTag v o.tag) :
    ((s.withQueued v o).letOrderGo c).updOrder ⟨v, o.tag⟩ (fun o => { o with link := some st }) =
      (s.letOrderGo c).withQueued v { o with link := some st } := by
  rw [letOrderGo_withQueued h]
  exact updOrder_withQueued _ (freshTag_letOrderGo hfresh)

/-! ### The link of a call (R78) -/

/-- The only call ORDERED by an order, and the stand's arm claimed for it. -/
def withOrdered (c : Call) (st : StandIx) (r : OrderRef) (roll : RollId) (s : State) : State :=
  (s.setStand st { s.stand st with claim := some r }).setCalls [{ c with phase := .ordered roll r }]

/-- The roll the call named is let go, unless the new order carries it. -/
def letOtherGo (st : StandIx) (c : Call) (roll : RollId) (s : State) : State :=
  match c.phase.roll? with
  | some old => if old = roll then s else s.freeReserved st old
  | none => s

theorem noParity_of_tmc {u : State} (h : u.tmc = s.tmc) (hs : s.noParity) : u.noParity := by
  rw [noParity, h]
  exact hs

theorem tmc_letOrderGo (s : State) : (s.letOrderGo c).tmc = s.tmc := by
  unfold letOrderGo
  split <;> rfl

theorem fdu_letOrderGo (s : State) : (s.letOrderGo c).fdu = s.fdu := by
  unfold letOrderGo
  split <;> rfl

theorem letOtherGo_of_same (h : c.phase.roll? = some roll) : s.letOtherGo st c roll = s := by
  simp only [letOtherGo, h, if_true]

theorem letOtherGo_of_other (hpar : s.noParity) (h : c.phase.roll? ≠ some roll) : s.letOtherGo st c roll = s.letRollGo st c := by
  unfold letOtherGo letRollGo
  split
  next old hold =>
    have hne : ¬ old = roll := fun he => h (he ▸ hold)
    rw [if_neg hne, freeReserved_of_noParity hpar]
  next => rfl

theorem reservedRoll_of_tmc {u : State} {j p : Nat} {q : Roll} (h : u.tmc = s.tmc) :
    u.reservedRoll st c j q p ↔ s.reservedRoll st c j q p := by
  simp only [reservedRoll, findRoll, h]

/-- The only call is ORDERED and no search is in flight, so that a roll let go brings nothing. -/
theorem letOtherGo_of_reserved {d : Call} {id : RollId} {r : OrderRef} {j p : Nat} {q : Roll} (hpar : s.noParity) (hsearch : s.fdu.search = none)
    (hcalls : s.fdu.calls = [d]) (hphase : d.phase = .ordered id r) (hmark : d.noRoll = false) (h : s.reservedRoll st c j q p)
    (hne : c.phase.roll? ≠ some roll) : s.letOtherGo st c roll = s.setSlot j { q with status := .stored p } := by
  rw [letOtherGo_of_other hpar hne]
  refine letRollGo_of_reserved hpar ⟨hsearch, fun b hb => ?_⟩ h
  rw [hcalls] at hb
  rw [List.mem_singleton.1 hb, hphase]
  exact ⟨(fun h => nomatch h), hmark⟩

theorem letOtherGo_of_kept (hpar : s.noParity) (h : ∀ j q p, s.reservedRoll st c j q p → c.phase.roll? = some roll) :
    s.letOtherGo st c roll = s := by
  by_cases hsame : c.phase.roll? = some roll
  · exact letOtherGo_of_same hsame
  · rw [letOtherGo_of_other hpar hsame]
    exact letRollGo_of_kept fun j q p hres => hsame (h j q p hres)

theorem linkCall_of_single {r : OrderRef} (hcalls : s.fdu.calls = [c]) (hstand : c.stand = st) (hsearch : s.fdu.search = none) :
    s.linkCall st r roll =
      ((((s.setCalls [{ c with phase := .ordered roll r }]).letOrderGo c).letOtherGo st c roll).updOrder r
        fun o => { o with link := some st }).startSearch := by
  have hcall : s.call? st = some c := hstand ▸ call?_of_single hcalls
  have hput : s.putCall { c with phase := .ordered roll r } = s.setCalls [{ c with phase := .ordered roll r }] :=
    putCall_of_single hcalls rfl
  have hnone : (s.setCalls [{ c with phase := .ordered roll r }]).fdu.search = none := hsearch
  simp only [linkCall, hcall, hput, discardSearch, hnone]
  rfl

theorem accept_of_call {src : Source} {reply tag : Byte} {pickup : Loc} (hroll : roll ≠ 0) (hother : (s.stand st).other = .none)
    (hcalls : s.fdu.calls = [c]) (hstand : c.stand = st) (hsearch : s.fdu.search = none) :
    s.accept v src reply tag pickup (standLoc st) roll =
      forward v (((((s.withQueued v (.admitted src reply tag pickup (standLoc st) roll .held)).withOrdered c st ⟨v, tag⟩ roll).letOrderGo
        c).letOtherGo st c roll).updOrder ⟨v, tag⟩ fun o => { o with link := some st }).startSearch := by
  have hhold : s.newDropHold roll (standLoc st) = .held := newDropHold_emptyArm hroll hother
  let u := s.withQueued v (.admitted src reply tag pickup (standLoc st) roll .held)
  have hlinked := linkCall_of_single (s := u.setStand st { u.stand st with claim := some ⟨v, tag⟩ }) (roll := roll) (r := ⟨v, tag⟩)
    hcalls hstand hsearch
  unfold accept
  simp only [hhold, if_true, if_neg hroll, stand?_standLoc]
  refine congrArg (forward v) (Eq.trans ?_ hlinked)
  rw [← setDropClaim_standLoc]
  rfl

theorem letOrderGo_withOrdered {d : Call} {r : OrderRef} :
    (s.withOrdered d st r roll).letOrderGo c = (s.letOrderGo c).withOrdered d st r roll := by
  unfold letOrderGo
  split <;> rfl

theorem setSlot_letOrderGo (j : Nat) (q : Roll) : (s.letOrderGo c).setSlot j q = (s.setSlot j q).letOrderGo c := by
  unfold letOrderGo
  split <;> rfl

theorem startSearch_of_ordered {d : Call} {id : RollId} {r : OrderRef} (hcalls : s.fdu.calls = [d]) (hphase : d.phase = .ordered id r) :
    s.startSearch = s := startSearch_of_unopened fun b hb => .inl (by
  rw [hcalls] at hb
  rw [List.mem_singleton.1 hb, hphase]
  exact fun h => nomatch h)

section Linked

variable {src : Source} {reply tag : Byte} {pickup : Loc} (hroll : roll ≠ 0) (hother : (s.stand st).other = .none)
  (hcalls : s.fdu.calls = [c]) (hstand : c.stand = st) (hsearch : s.fdu.search = none)

include hroll hother hcalls hstand hsearch

/-- The order joins its queue, and the call its order, over the state b in which the roll the call named is let go. -/
theorem accept_of_freed {b : State} (hfresh : b.freshTag v tag)
    (hfreed : (((s.withQueued v (.admitted src reply tag pickup (standLoc st) roll .held)).withOrdered c st ⟨v, tag⟩ roll).letOrderGo
        c).letOtherGo st c roll =
      ((b.withQueued v (.admitted src reply tag pickup (standLoc st) roll .held)).withOrdered c st ⟨v, tag⟩ roll).letOrderGo c) :
    s.accept v src reply tag pickup (standLoc st) roll =
      forward v (((b.letOrderGo c).withQueued v (.linked src reply tag pickup st roll)).withOrdered c st ⟨v, tag⟩ roll) := by
  have hqueued := linkQueued_eq (v := v) (c := c) (st := st) (o := .admitted src reply tag pickup (standLoc st) roll .held) rfl hfresh
  have hlink : (((b.withQueued v (.admitted src reply tag pickup (standLoc st) roll .held)).withOrdered c st ⟨v, tag⟩ roll).letOrderGo
      c).updOrder ⟨v, tag⟩ (fun o => { o with link := some st }) =
      ((b.letOrderGo c).withQueued v (.linked src reply tag pickup st roll)).withOrdered c st ⟨v, tag⟩ roll := by
    rw [letOrderGo_withOrdered]
    exact congrArg (withOrdered c st ⟨v, tag⟩ roll) hqueued
  rw [accept_of_call hroll hother hcalls hstand hsearch, hfreed, hlink]
  exact congrArg (forward v) (startSearch_of_ordered (d := { c with phase := .ordered roll ⟨v, tag⟩ }) rfl rfl)

theorem accept_of_kept (hpar : s.noParity) (hfresh : s.freshTag v tag)
    (hkept : ∀ j q p, s.reservedRoll st c j q p → c.phase.roll? = some roll) :
    s.accept v src reply tag pickup (standLoc st) roll =
      forward v (((s.letOrderGo c).withQueued v (.linked src reply tag pickup st roll)).withOrdered c st ⟨v, tag⟩ roll) := by
  refine accept_of_freed hroll hother hcalls hstand hsearch hfresh ?_
  let u := (s.withQueued v (.admitted src reply tag pickup (standLoc st) roll .held)).withOrdered c st ⟨v, tag⟩ roll
  have htmc : (u.letOrderGo c).tmc = s.tmc := tmc_letOrderGo u
  exact letOtherGo_of_kept (noParity_of_tmc htmc hpar) fun j q p h => hkept j q p ((reservedRoll_of_tmc htmc).1 h)

theorem accept_of_reserved {j p : Nat} {q : Roll} (hpar : s.noParity) (hfresh : s.freshTag v tag) (hmark : c.noRoll = false)
    (hres : s.reservedRoll st c j q p) (hne : c.phase.roll? ≠ some roll) :
    s.accept v src reply tag pickup (standLoc st) roll =
      forward v ((((s.setSlot j { q with status := .stored p }).letOrderGo c).withQueued v
        (.linked src reply tag pickup st roll)).withOrdered c st ⟨v, tag⟩ roll) := by
  refine accept_of_freed (b := s.setSlot j { q with status := .stored p }) hroll hother hcalls hstand hsearch hfresh ?_
  let u := (s.withQueued v (.admitted src reply tag pickup (standLoc st) roll .held)).withOrdered c st ⟨v, tag⟩ roll
  have htmc : (u.letOrderGo c).tmc = s.tmc := tmc_letOrderGo u
  have hfdu : (u.letOrderGo c).fdu = u.fdu := fdu_letOrderGo u
  refine (letOtherGo_of_reserved (d := { c with phase := .ordered roll ⟨v, tag⟩ }) (noParity_of_tmc htmc hpar) ?_ ?_ rfl hmark
    ((reservedRoll_of_tmc htmc).2 hres) hne).trans ?_
  · rw [hfdu]
    exact hsearch
  · rw [hfdu]
    rfl
  · exact setSlot_letOrderGo j _

end Linked

end State

end Sys2Proof.Machine
end

section
/-! PROOFS. The order that the part makes in AUTONOMOUS (R75, R141, R180). -/

namespace Sys2Proof.Machine

namespace State

variable {s : State} {v : VehicleIx} {st : StandIx} {c : Call} {id : RollId} {pickup : Loc} {e : NodeEntry} {n : Nat}

/-- The part tag moved on. -/
def tagTaken (n : Nat) (s : State) : State := { s with vou := { s.vou with nextTag := if n = 255 then 200 else n + 1 } }

theorem tagAfter_of_partTag (h : n ≤ 255) : tagAfter n = if n = 255 then 200 else n + 1 := by
  unfold tagAfter
  exact ite_congr (propext (by omega)) (fun _ => rfl) fun _ => rfl

theorem partTag_ne_zero (hlow : 200 ≤ n) (hhigh : n ≤ 255) : BitVec.ofNat 8 n ≠ 0 := by
  intro h
  have hn : n % 256 = 0 := congrArg BitVec.toNat h
  omega

theorem originate_of_free {drop : Loc} (hentry : s.vehicleEntry? v = some e) (hout : (s.vehicle v).outstanding = [])
    (hqueue : (s.vehicle v).queue = []) (hnext : s.vou.nextTag = n) (hhigh : n ≤ 255) :
    s.originate v pickup drop id =
      (s.tagTaken n).admitMove .part s.sfu.collector ⟨e.addr, BitVec.ofNat 8 n, some pickup, some drop, id⟩ := by
  have htag : nextFreeTag (((s.vehicle v).outstanding ++ (s.vehicle v).queue).map Order.tag) 56 s.vou.nextTag = n := by
    rw [hout, hqueue, hnext]
    rfl
  unfold originate
  simp only [htag, vehicleAddr_of_entry hentry, setNextTag, tagAfter_of_partTag hhigh]
  rfl

/-- A vehicle of the node table that is IDLE and has no order passes the checks 1 to 8 with a part tag. -/
theorem refusedEarly_part {m : MoveFields} (hmode : s.sfu.mode = .autonomous) (hv : s.vehicleAt? m.vehicleAddr = some v)
    (hidle : (s.vehicle v).status = .idle) (hout : (s.vehicle v).outstanding = []) (hqueue : (s.vehicle v).queue = [])
    (htag : m.tag ≠ 0) : s.refusedEarly .part m = .ok v := by
  have hslots : ¬ Config.holdSlots ≤ 0 := by decide
  have hzero : ¬ m.tag = 0#8 := htag
  simp [refusedEarly, running_of_autonomous hmode, hv, hidle, hout, hqueue, hzero, hslots]

theorem sendMove_of_part {tell : State → State} {o : Order} (he : s.vehicleEntry? v = some e) (hroom : s.ltu.normal.length < 24)
    (hsrc : o.source = .part) :
    s.sendMove tell v o = { s with ltu := { s.ltu with
      normal := s.ltu.normal ++ [⟨e.addr, s.ownAddr, clsMove, forwardedMoveBody o e.addr⟩] } } := by
  have hroom' : s.normalRoom = true := normalRoom_iff.2 hroom
  simp only [sendMove, he, hroom', if_true, hsrc, placeNormal, reduceCtorEq, if_false]

/-- A free vehicle off every segment takes its order at once. -/
theorem withForwarded_of_unseated {o : Order} (h : (s.seg (s.vehicle v).currentSeg).capacity = 0) :
    s.withForwarded v o = s.setVehicle v { s.vehicle v with
      outstanding := [o], path := (o.leg1 ++ o.leg2).map fun n => ⟨n, o.tag⟩, pointer := 0, endLoc := o.drop, status := .busy } := by
  rw [withForwarded, seat_of_full (by rw [vehicle_setVehicle_self]; exact h.trans_le (Nat.zero_le _)), updVehicle_setVehicle]

/-- The order the part makes for a call in SELECTED, before it is forwarded. -/
def partOrder (reply tag : Byte) (pickup : Loc) (st : StandIx) (id : RollId) (leg1 leg2 : List Nat) : Order :=
  routed (.linked .part reply tag pickup st id) leg1 leg2

theorem accept_of_selected {reply tag : Byte} {leg1 leg2 : List Nat} (h : Free v s) (hid : id ≠ 0) (hother : (s.stand st).other = .none)
    (hcalls : s.fdu.calls = [c]) (hstand : c.stand = st) (hsearch : s.fdu.search = none) (hphase : c.phase = .selected id)
    (hseg : (s.seg (s.vehicle v).currentSeg).capacity = 0)
    (hlegs : s.legsFrom (s.vehicle v).endLoc pickup (standLoc st) = (.clear leg1, .clear leg2)) (he : s.vehicleEntry? v = some e)
    (hroom : s.ltu.normal.length < 24) :
    s.accept v .part reply tag pickup (standLoc st) id =
      let o := partOrder reply tag pickup st id leg1 leg2
      let b := (s.withOrdered c st ⟨v, tag⟩ id).setVehicle v { s.vehicle v with
        outstanding := [o], path := (leg1 ++ leg2).map fun n => ⟨n, tag⟩, pointer := 0, endLoc := standLoc st, status := .busy }
      { b with ltu := { s.ltu with normal := s.ltu.normal ++ [⟨e.addr, s.ownAddr, clsMove, forwardedMoveBody o e.addr⟩] } } := by
  let u := s.withOrdered c st ⟨v, tag⟩ id
  let o : Order := .linked .part reply tag pickup st id
  have hfree : Free v u := ⟨h.running, h.parity, h.idle, h.causes, h.queue, h.none, h.path, h.claims, h.window⟩
  have hfresh : s.freshTag v tag := by
    intro q hq
    rw [h.none, h.queue] at hq
    exact absurd hq List.not_mem_nil
  have hlink : s.letOrderGo c = s := by simp only [letOrderGo, hphase, CallPhase.link?]
  have haccept := accept_of_kept (v := v) (src := .part) (reply := reply) (pickup := pickup) hid hother hcalls hstand hsearch h.parity hfresh
    fun _ _ _ _ => by rw [hphase]; rfl
  have hdrop : u.dropBlocked o.drop = false := dropBlocked_of_kind (show LocKind.stand ≠ .place by decide) u
  have hforward := forward_of_free (o := o) hfree hlegs hdrop
  have hblank : (u.seg (u.vehicle v).currentSeg).capacity = 0 := hseg
  rw [haccept, hlink]
  refine hforward.trans ?_
  rw [withForwarded_of_unseated hblank]
  exact sendMove_of_part (s := u.setVehicle v _) he hroom rfl

end State

/-- Settles O41: the choice by the fewest segments, the try at the take-over, and the part's own order. -/
theorem vehiclesAreChosenInAutonomous : Obligations.VehiclesAreChosenInAutonomous := by
  unfold Obligations.VehiclesAreChosenInAutonomous
  refine ⟨⟨fun pickup drop s hpar => ?choice, fun c id k r s hrst hdue hmode hperiod hcount hpar hcalls hphase hr => ?tried⟩,
    fun v e c st pickup n id leg1 leg2 s hpar hmode hentry hat => ?made⟩
  case choice => exact ⟨State.chooseVehicle_all hpar pickup drop, fun v => State.chooseVehicle_single hpar⟩
  case tried =>
    intro u tried
    have hlink := LinkOp.raise .autonomous 0
    let w : State := { s with sfu := { s.sfu with mode := .autonomous }, due := s.due.filter (· ≠ .linkSilent) }
    have hgood : u.noParity := hlink.noParity_eq w hpar
    have hroll : u.roll? id = some r := by
      rw [State.roll?, State.findRoll, show u.tmc = s.tmc from hlink.tmc_eq w]
      exact State.roll?_of_findRoll hr
    have hmodeu : u.sfu.mode = .autonomous := (Moves.raise .autonomous 0 w).same .mode (by decide)
    have hcallsu : u.fdu.calls = [c] := by rw [show u.fdu = s.fdu from hlink.fdu_eq w, hcalls]
    have hexec : exec .linkFallenSilent s = .next (u.tryRoll c.stand id) := by
      show awake _ s = _
      rw [awake_of_rstHigh _ hrst, State.onDue_of_due _ _ hdue, ← State.tryCalls_of_single hmodeu hgood hcallsu hphase]
      exact congrArg Host.Outcome.next (if_pos (State.linkSilent_iff.2 ⟨hmode, hperiod, hcount⟩))
    obtain ⟨hreserved, hcarried, hother⟩ := State.tryRoll_of_noParity (st := c.stand) hgood hroll
    have tries (vs : List VehicleIx) (pickup : Loc) (h : u.tryRoll c.stand id =
        u.sendChosen (u.chooseVehicle vs pickup (standLoc c.stand)).1 pickup (standLoc c.stand) id) : tried vs pickup :=
      ⟨fun hnone => by rw [hexec, h, hnone]; rfl, fun v hsome => by rw [hexec, h, hsome]; rfl⟩
    exact ⟨fun p h => tries (List.finRange 16) ⟨.place, p⟩ (hreserved p _ h),
      fun v h => tries [v] ⟨.none, 0⟩ (hcarried v h), fun h1 h2 => by rw [hexec, hother h1 h2]⟩
  case made =>
    intro x hidle hcauses hout hqueue hpath hclaims hwindow hnext hlow hhigh hid hstand hcalls hsearch hphase tag drop counted hloc
    have hmade := State.originate_of_free (pickup := pickup) (drop := drop) (id := id) hentry hout hqueue hnext hhigh
    have hok := State.refusedEarly_part (s := counted) (m := ⟨e.addr, tag, some pickup, some drop, id⟩) hmode hat hidle hout hqueue
      (State.partTag_ne_zero hlow hhigh)
    refine ⟨fun reason hrefused => ?_, fun hrefused hother hroom hseg hleg1 hleg2 => ?_⟩
    · exact hmade.trans (State.admitMove_of_refusedRoll (s := counted) hok rfl rfl hloc hpar hrefused)
    · intro o
      have hdrop : s.dropBlocked drop = false := State.dropBlocked_of_kind (show LocKind.stand ≠ .place by decide) s
      have hlegs : s.legsFrom x.endLoc pickup drop = (.clear leg1, .clear leg2) := by
        rw [State.lookupLegs_of_noParity hpar] at hleg1 hleg2
        exact Prod.ext hleg1 hleg2
      have hreason : legsReason (.clear leg1) (.clear leg2) false = none :=
        legsReason_none (Option.some_ne_none _) (Option.some_ne_none _)
      have haccepted := State.admitMove_of_accepted (s := counted) (src := .part) (reply := s.sfu.collector) hok rfl rfl hloc hpar hrefused (by
        rw [State.plannedStart_of_nil (s := counted) hqueue, State.lookupLegs_of_noParity (s := counted) hpar]
        show legsReason (s.legsFrom x.endLoc pickup drop).1 (s.legsFrom x.endLoc pickup drop).2 (s.dropBlocked drop) = none
        rw [hlegs, hdrop, hreason])
      have hfree : State.Free v counted :=
        ⟨running_of_autonomous hmode, hpar, hidle, (State.Causes.none_iff _).2 hcauses, hqueue, hout, hpath, hclaims, hwindow⟩
      have hselected := State.accept_of_selected (reply := s.sfu.collector) (tag := tag) hfree hid hother hcalls hstand hsearch hphase hseg
        hlegs hentry hroom
      exact (hmade.trans (haccepted.trans hselected)).trans rfl

end Sys2Proof.Machine
end

section
/-! PROOFS. Calls linked to admitted orders, and calls removed (R78, R143, R144). -/

namespace Sys2Proof.Machine

namespace State

variable {s : State} {v : VehicleIx} {st : StandIx} {c : Call} {id : RollId} {k : Nat} {r : Roll} {p : PressIx}

theorem causes_letOrderGo (s : State) : ((s.letOrderGo c).vehicle v).causes = (s.vehicle v).causes := by
  unfold letOrderGo
  split
  next l _ =>
    rw [updOrder, vehicle_updVehicle]
    split
    next h => rw [h]
    next => rfl
  next => rfl

theorem withOrdered_of_stand {a : State} {l : OrderRef} {roll : RollId} (h : a.stand st = s.stand st) :
    a.withOrdered c st l roll =
      (a.setStand st { s.stand st with claim := some l }).setCalls [{ c with phase := .ordered roll l }] := by
  rw [withOrdered, h]

/-! ### The removal of the only call (R144) -/

theorem dropCall_of_single (hcalls : s.fdu.calls = [c]) (hstand : c.stand = st) : s.dropCall st = s.setCalls [] := by
  rw [dropCall, hcalls, List.filter_cons_of_neg (by simp [hstand]), List.filter_nil]

theorem letRollGo_calls (h : s.callsIdle) (hpar : s.noParity) : (s.letRollGo st c).fdu.calls = [] := by
  have hquiet : s.quietCalls := ⟨h.2, by rw [h.1]; exact fun c hc => absurd hc List.not_mem_nil⟩
  by_cases hres : ∃ j q p, s.reservedRoll st c j q p
  · obtain ⟨j, q, p, hres⟩ := hres
    rw [letRollGo_of_reserved hpar hquiet hres]
    exact h.1
  · rw [letRollGo_of_kept fun j q p hr => hres ⟨j, q, p, hr⟩]
    exact h.1

theorem removeCall_of_single (hpar : s.noParity) (hcalls : s.fdu.calls = [c]) (hstand : c.stand = st) (hsearch : s.fdu.search = none) :
    s.removeCall st = ((s.setCalls []).letOrderGo c).letRollGo st c := by
  have hcall : s.call? st = some c := hstand ▸ call?_of_single hcalls
  have hnone : (s.setCalls []).fdu.search = none := hsearch
  have hdiscard : (s.setCalls []).discardSearch st = s.setCalls [] := by simp only [discardSearch, hnone]
  have hgood : (s.setCalls []).noParity := hpar
  have hidle : ((s.setCalls []).letOrderGo c).callsIdle := by
    rw [callsIdle, fdu_letOrderGo]
    exact ⟨rfl, hsearch⟩
  simp only [removeCall, hcall, dropCall_of_single hcalls hstand, hdiscard, leavePhase_eq hgood, hstand]
  exact startSearch_of_nil (letRollGo_calls hidle (noParity_of_tmc (tmc_letOrderGo _) hgood))

/-- What the removal leaves, by whether the call's roll stands RESERVED for it. -/
theorem removeCall_single_cases (hpar : s.noParity) (hcalls : s.fdu.calls = [c]) (hstand : c.stand = st) (hsearch : s.fdu.search = none) :
    ((∀ j q n, ¬ s.reservedRoll st c j q n) → s.removeCall st = (s.letOrderGo c).setCalls []) ∧
    ∀ j q n, s.reservedRoll st c j q n →
      s.removeCall st = ((s.setSlot j { q with status := .stored n }).letOrderGo c).setCalls [] := by
  have hgo : (s.setCalls []).letOrderGo c = (s.letOrderGo c).setCalls [] := by
    unfold letOrderGo
    split <;> rfl
  have htmc : ((s.letOrderGo c).setCalls []).tmc = s.tmc := tmc_letOrderGo s
  have hquiet : ((s.letOrderGo c).setCalls []).quietCalls := by
    have hfdu := fdu_letOrderGo (c := c) s
    refine ⟨?_, fun b hb => absurd hb List.not_mem_nil⟩
    show (s.letOrderGo c).fdu.search = none
    rw [hfdu, hsearch]
  rw [removeCall_of_single hpar hcalls hstand hsearch, hgo]
  refine ⟨fun h => letRollGo_of_kept fun j q n hres => h j q n ((reservedRoll_of_tmc htmc).1 hres), fun j q n hres => ?_⟩
  rw [letRollGo_of_reserved (noParity_of_tmc htmc hpar) hquiet ((reservedRoll_of_tmc htmc).2 hres), ← setSlot_letOrderGo]
  rfl

/-! ### A roll set down on the arm of its call's stand (R20, R144) -/

theorem onArm_eq (hclaim : (s.stand st).claim = none) :
    s.onArm v st id k r = ((s.setSlot k { r with status := .standby st }).setVehicle v { s.vehicle v with load := .empty }).setStand st
      { s.stand st with
        other := .standby id
        state := if (s.stand st).state = .feeding ∨ (s.stand st).state = .starved then .armed else (s.stand st).state } := by
  rw [onArm, Stand.withStandby, ← hclaim]

theorem keptLoc?_standLoc {number : Half} (h : number.toNat = num st) : s.keptLoc? 2 number = some (standLoc st) := by
  have hkept := keptLoc?_of_kept (s := s) (kind := 2) (number := number) (k := .stand) rfl (.inr (.inl rfl))
    (by rw [h]; exact Nat.succ_pos _) (by rw [h]; exact st.isLt)
  rwa [h] at hkept

theorem dropCarried_standLoc (v : VehicleIx) (st : StandIx) (id : RollId) : s.dropCarried v (standLoc st) id = s.dropAtStand v st id := by
  have hkind : (standLoc st).kind = .stand := rfl
  simp only [dropCarried, hkind, stand?_standLoc]

theorem dropAtStand_of_called (hpar : s.noParity) (hr : s.findRoll id = some (k, r)) (hother : (s.stand st).other = .none)
    (hclaim : (s.stand st).claim = none) (hplan : s.inLead st = true → r.differs (s.activeStand st) = false) :
    s.dropAtStand v st id = ((s.onArm v st id k r).removeCall st).callDropped id := by
  have hdown := (endDropClaim_armStandby (v := v) st hr hpar).1 hclaim
  have hroll : (s.onArm v st id k r).roll? id = some { r with status := .standby st } :=
    roll?_of_findRoll (findRoll_setSlot (s := s) (r' := { r with status := .standby st }) hr rfl)
  have hlead : (s.onArm v st id k r).inLead st = s.inLead st :=
    inLead_of_stand (by rw [onArm, stand_setStand_self]; rfl) rfl
  have hcheck : (s.onArm v st id k r).standbyPlanCheck st id = s.onArm v st id k r := by
    simp only [standbyPlanCheck, hroll, hlead]
    refine if_neg fun h => ?_
    obtain ⟨hin, hdiffers⟩ := (Bool.and_eq_true ..).mp h
    exact nomatch (hplan hin).symm.trans hdiffers
  unfold dropAtStand
  rw [if_neg (not_not.2 hother)]
  simp only [hdown, hcheck]

theorem reservedRoll_onArm {j n : Nat} {q : Roll} (hwf : Table.rising s.tmc.rolls = true) (hr : s.findRoll id = some (k, r)) :
    (s.onArm v st id k r).reservedRoll st c j q n ↔ s.reservedRoll st c j q n ∧ c.phase.roll? ≠ some id := by
  have hown : (s.onArm v st id k r).findRoll id = some (k, { r with status := .standby st }) :=
    findRoll_setSlot (s := s) (r' := { r with status := .standby st }) hr rfl
  have hrest {old : RollId} (h : old ≠ id) : (s.onArm v st id k r).findRoll old = s.findRoll old :=
    findRoll_setSlot_of_ne (r' := { r with status := .standby st }) hwf hr rfl h
  constructor
  · rintro ⟨old, hold, hfound, hstatus⟩
    by_cases h : old = id
    · subst h
      obtain ⟨-, rfl⟩ := Prod.mk.inj (Option.some.inj (hown.symm.trans hfound))
      exact nomatch hstatus
    · exact ⟨⟨old, hold, (hrest h).symm.trans hfound, hstatus⟩, fun he => h (Option.some.inj (hold.symm.trans he))⟩
  · rintro ⟨⟨old, hold, hfound, hstatus⟩, hne⟩
    have h : old ≠ id := fun he => hne (he ▸ hold)
    exact ⟨old, hold, (hrest h).trans hfound, hstatus⟩

/-! ### A stand that leaves the lead with its call (R144, R172) -/

/-- The plans and the supply unit written. -/
def withPlans (l : Pls) (f : Fdu) (s : State) : State := { s with pls := l, fdu := f }

theorem letOrderGo_withPlans (l : Pls) (f : Fdu) : (s.withPlans l f).letOrderGo c = (s.letOrderGo c).withPlans l f := by
  unfold letOrderGo
  split <;> rfl

/-- The swap of a press whose only stand leaves the lead, to the end of the stand's own part. -/
theorem swapBank_of_left (hpress : ∀ r, (s.stand r).press = some p ↔ r = st) (hin : s.inLead st = true)
    (hout : s.pls.nextStand[st].lead = false) {u : State} (hu : (s.copyBank p).leaveLead st = u) (hcalls : u.fdu.calls = [])
    (hts : (u.stand st).ts = 65535) : s.swapBank p = u := by
  have hstands : s.standsOf p = [st] := standsOf_of_only hpress
  have hnext : s.nextLead p st = false := by rw [nextLead, hout, Bool.and_false]
  have hmarks : u.clearNoRoll = u := clearNoRoll_of_unmarked fun c hc => by
    rw [hcalls] at hc
    exact absurd hc List.not_mem_nil
  have hmoves : Moves _ (s.copyBank p) u := hu ▸ Moves.leaveLead st (s.copyBank p)
  have hlead : u.inLead st = false := by
    have hkept : u.inLead = (s.copyBank p).inLead :=
      inLead_of_samePresses (hu ▸ samePresses_leaveLead st (s.copyBank p)) (hmoves.same .pls (by decide))
    rw [hkept, inLead_copyBank ((hpress st).2 rfl)]
    exact hnext
  have hcall : u.call? st = none := by
    rw [call?, hcalls]
    rfl
  have hself : u.computeTs st = u := computeTs_of_unbounded hlead hts hcall
  rw [swapBank_eq]
  simp only [hstands, List.filter_cons, List.filter_nil, hin, hnext, Bool.not_false, Bool.and_self, if_true, Bool.false_eq_true, if_false,
    List.foldl_cons, List.foldl_nil, hu, hmarks]
  rw [startSearch_of_nil hcalls, hself]

/-- The stand out of the lead, without reserve and Ts, and no call. -/
def leftFdu (st : StandIx) (s : State) : Fdu :=
  { s.fdu with stands := s.fdu.stands.set st { s.stand st with state := .out, lres := 0, ts := 65535 }, calls := [] }

theorem leaveLead_of_removed {u : State} (hu : (s.updStand st fun x => { x with state := .out }).removeCall st = u) :
    s.leaveLead st = u.updStand st fun x => { x with lres := 0, ts := 65535 } := by
  rw [← hu]
  rfl

theorem leaveLead_of_single (hpar : s.noParity) (hcalls : s.fdu.calls = [c]) (hstand : c.stand = st) (hsearch : s.fdu.search = none) :
    ((∀ j q n, ¬ s.reservedRoll st c j q n) → s.leaveLead st = (s.letOrderGo c).withPlans s.pls (s.leftFdu st)) ∧
    ∀ j q n, s.reservedRoll st c j q n →
      s.leaveLead st = ((s.setSlot j { q with status := .stored n }).letOrderGo c).withPlans s.pls (s.leftFdu st) := by
  let w := s.updStand st fun x => { x with state := .out }
  obtain ⟨hkept, hreserved⟩ := removeCall_single_cases (s := w) hpar hcalls hstand hsearch
  have hleft (b : State) (hb : b.fdu = s.fdu) (hpls : b.pls = s.pls) :
      State.updStand st (fun x => { x with lres := 0, ts := 65535 }) (((b.updStand st fun x => { x with state := .out }).letOrderGo c).setCalls []) =
        (b.letOrderGo c).withPlans s.pls (s.leftFdu st) := by
    let x : Stand := { s.stand st with state := .out }
    have hw : (b.updStand st fun x => { x with state := .out }) =
        b.withPlans s.pls { s.fdu with stands := s.fdu.stands.set st x } := by
      rw [withPlans, ← hpls, ← hb]
      have hbst : b.stand st = s.stand st := by rw [stand, hb]; rfl
      rw [updStand, hbst]
      rfl
    rw [hw, letOrderGo_withPlans]
    have hout : State.stand (((b.letOrderGo c).withPlans s.pls { s.fdu with stands := s.fdu.stands.set st x }).setCalls []) st = x :=
      Vector.getElem_set_self ..
    rw [updStand, hout, leftFdu]
    simp only [withPlans, setCalls, setStand, Vector.set_set]
    rfl
  refine ⟨fun h => ?_, fun j q n h => ?_⟩
  · exact (leaveLead_of_removed (hkept h)).trans (hleft s rfl rfl)
  · exact (leaveLead_of_removed (hreserved j q n h)).trans (hleft (s.setSlot j { q with status := .stored n }) rfl rfl)

end State

/-- Settles O40: the link of an admitted order, and the call removed by a drop on its arm and by a swap. -/
theorem callsAreLinkedAndRemoved : Obligations.CallsAreLinkedAndRemoved := by
  unfold Obligations.CallsAreLinkedAndRemoved
  intro v st c s hpar hwf hcalls hstand hmark hsearch calls unlinked reserved stored
  have reserved_iff (keep : Option RollId) (j : Nat) (q : Roll) (p : Nat) :
      reserved keep j q p ↔ s.reservedRoll st c j q p ∧ c.phase.roll? ≠ keep := by
    constructor
    · rintro ⟨old, hold, hne, hfound, hstatus⟩
      exact ⟨⟨old, hold, hfound, hstatus⟩, hold ▸ hne⟩
    · rintro ⟨⟨old, hold, hfound, hstatus⟩, hne⟩
      exact ⟨old, hold, hold ▸ hne, hfound, hstatus⟩
  refine ⟨fun src reply tag pickup roll hhalted hother hroll => ?link,
    fun dst src number id k r hheard hr hstatus hnumber hother hclaim hplan => ?drop,
    fun p t rest hready hp hswap hpress hin hout => ?swap⟩
  case link =>
    intro o linked hfresh admitted
    have waits (u : State) (hfdu : u.fdu = s.fdu) (hcauses : ((u.letOrderGo c).vehicle v).causes = (s.vehicle v).causes) :
        State.forward v (((u.letOrderGo c).withQueued v (.linked src reply tag pickup st roll)).withOrdered c st ⟨v, tag⟩ roll) =
          linked (unlinked u) := by
      have hfdu' : (u.letOrderGo c).fdu = s.fdu := (State.fdu_letOrderGo u).trans hfdu
      have hstand' : (u.letOrderGo c).stand st = s.stand st := by rw [State.stand, State.stand, hfdu']
      rw [State.forward_of_halted]
      · exact State.withOrdered_of_stand (a := (u.letOrderGo c).withQueued v (.linked src reply tag pickup st roll)) hstand'
      · exact (congrArg Causes.none ((State.causes_withQueued v _ (u.letOrderGo c)).trans hcauses)).trans hhalted
    refine ⟨fun h => ?_, fun j q p h => ?_⟩
    · have haccept := State.accept_of_kept (v := v) (src := src) (reply := reply) (pickup := pickup) hroll hother hcalls hstand hsearch hpar hfresh
        fun j q p hres => by_contra fun hne => h j q p ((reserved_iff ..).2 ⟨hres, hne⟩)
      exact haccept.trans (waits s rfl (State.causes_letOrderGo s))
    · obtain ⟨hres, hne⟩ := (reserved_iff ..).1 h
      have haccept := State.accept_of_reserved (v := v) (src := src) (reply := reply) (pickup := pickup) hroll hother hcalls hstand hsearch hpar
        hfresh hmark hres hne
      exact haccept.trans (waits (stored j q p s) rfl (State.causes_letOrderGo _))
  case drop =>
    intro answer armed
    have hl : s.keptLoc? 2 number = some (standLoc st) := State.keptLoc?_standLoc hnumber
    have harmed : s.onArm v st id k r = armed := State.onArm_eq hclaim
    have hrising : Table.rising s.tmc.rolls = true := State.rolls_rising hwf
    obtain ⟨hkept, hfreed⟩ := State.removeCall_single_cases (s := s.onArm v st id k r) (State.noParity_setSlot _ _ hpar) hcalls hstand hsearch
    have answers {u : State} (h : (s.onArm v st id k r).removeCall st = calls [] u) : answer u := by
      have hdrop : s.dropCarried v (standLoc st) id = calls [] u := by
        rw [State.dropCarried_standLoc, State.dropAtStand_of_called hpar hr hother hclaim hplan, h]
        exact State.callDropped_of_unnamed (State.callNaming?_of_nil rfl id)
      show exec _ _ = _
      rw [exec_vloadDrop 2 number id hheard, State.dropTaken_of_carried hpar hl hr hstatus, hdrop]
      rfl
    have reserved_onArm (j : Nat) (q : Roll) (p : Nat) : (s.onArm v st id k r).reservedRoll st c j q p ↔ reserved (some id) j q p :=
      (State.reservedRoll_onArm hrising hr).trans (reserved_iff ..).symm
    rw [harmed] at hkept hfreed answers reserved_onArm
    exact ⟨fun h => answers (hkept fun j q p hres => h j q p ((reserved_onArm j q p).1 hres)),
      fun j q p h => answers (hfreed j q p ((reserved_onArm j q p).2 h))⟩
  case swap =>
    intro answer
    let w := s.popped rest
    have hstands : w.standsOf p = [st] := State.standsOf_of_only hpress
    obtain ⟨hkept, hfreed⟩ := State.leaveLead_of_single (s := w.copyBank p) hpar hcalls hstand hsearch
    have answers {b : State} (hb : b.fdu = s.fdu)
        (h : (w.copyBank p).leaveLead st = ((b.withPlans (w.copyBank p).pls s.fdu).letOrderGo c).withPlans (w.copyBank p).pls (s.leftFdu st)) :
        answer (unlinked b) := by
      rw [State.letOrderGo_withPlans] at h
      have hts : ((((b.letOrderGo c).withPlans (w.copyBank p).pls s.fdu).withPlans (w.copyBank p).pls (s.leftFdu st)).stand st).ts = 65535 :=
        congrArg Stand.ts (Vector.getElem_set_self ..)
      have hswapped := State.swapBank_of_left (s := w) hpress hin hout h rfl hts
      refine served hready ((State.onPress_of_num hp).trans ((State.planSwap_of_ready (s := w) hswap).trans ?_))
      refine congrArg (State.answered .ok) (hswapped.trans ?_)
      rw [State.copyBank, hstands]
      rfl
    refine ⟨fun h => answers (b := w) rfl (hkept fun j q n hres => h j q n ((reserved_iff ..).2 ⟨hres, ?_⟩)),
      fun j q n h => answers (b := stored j q n w) rfl (hfreed j q n ((reserved_iff ..).1 h).1)⟩
    obtain ⟨old, hold, -⟩ := hres
    rw [hold]
    exact Option.some_ne_none _

end Sys2Proof.Machine
end

section
/-! PROOFS. The call that reopens: what it leaves and the search that starts (R13, R137, R143). -/

namespace Sys2Proof.Machine

namespace State

variable {s : State} {c : Call} {id : RollId} {k : Nat} {r : Roll}

/-! ### The search for the only call -/

/-- The only call SEARCHING, with the scan at its begin. -/
def searching (c : Call) (noticed : Bool) (s : State) : State := { s with fdu := { s.fdu with
  calls := [{ c with phase := .searching }]
  search := some { stand := c.stand, next := 1, best := none, noticed := noticed } } }

theorem startSearch_of_open (hrun : s.running = true) (hsearch : s.fdu.search = none) (hcalls : s.fdu.calls = [c])
    (hphase : c.phase = .opened) (hmark : c.noRoll = false) : s.startSearch = s.searching c false :=
  startSearch_of_first (before := []) (after := []) hrun hsearch hcalls hphase hmark (fun b hb => absurd hb List.not_mem_nil)
    (by rw [callsOrdered, hcalls]; exact List.pairwise_singleton ..)

theorem startSearch_searching (b : Bool) : (s.searching c b).startSearch = s.searching c b :=
  startSearch_of_barred (.inr (.inl (Option.some_ne_none _)))

theorem availability_of_open (hrun : s.running = true) (hsearch : s.fdu.search = none) (hcalls : s.fdu.calls = [c])
    (hphase : c.phase = .opened) (hmark : c.noRoll = false) : s.availability = s.searching c false := by
  have hmarks : ({ s with fdu := { s.fdu with calls := s.unmarkedCalls } } : State) = s :=
    clearNoRoll_of_unmarked fun d hd => by
      rw [hcalls] at hd
      rw [List.mem_singleton.1 hd, hmark]
  rw [availability_of_unsearched hsearch, hmarks]
  exact startSearch_of_open hrun hsearch hcalls hphase hmark

theorem availability_of_noticing (hmark : c.noRoll = false) (b : Bool) : (s.searching c b).availability = s.searching c true := by
  have hmarks : (s.searching c b).unmarkedCalls = [{ c with phase := .searching }] := by
    show [({ c with phase := .searching, noRoll := false } : Call)] = _
    rw [← hmark]
  rw [availability_of_searching (s := s.searching c b) rfl, hmarks]
  rfl

/-! ### The call reopens (R143) -/

theorem letOrderGo_setCalls (l : List Call) : (s.setCalls l).letOrderGo c = (s.letOrderGo c).setCalls l := by
  unfold letOrderGo
  split <;> rfl

theorem letOrderGo_of_unlinked (h : c.phase.link? = none) : s.letOrderGo c = s := by
  simp only [letOrderGo, h]

theorem running_letOrderGo (s : State) : (s.letOrderGo c).running = s.running := by
  unfold letOrderGo
  split <;> rfl

theorem callNaming?_of_single (hcalls : s.fdu.calls = [c]) (hroll : c.phase.roll? = some id) : s.callNaming? id = some c := by
  rw [callNaming?, hcalls]
  exact List.find?_cons_of_pos (decide_eq_true hroll)

theorem reopenCallRead_of_noParity (h : s.noParity) : s.reopenCallRead c = s.reopenCall c := by
  rw [reopenCall, leavePhase_of_noParity (noParity_putCall _ h)]
  rfl

/-- The part runs, its only call is unmarked, and no search is in flight. -/
structure Alone (c : Call) (s : State) : Prop where
  running : s.running = true
  parity  : s.noParity
  calls   : s.fdu.calls = [c]
  search  : s.fdu.search = none
  mark    : c.noRoll = false

theorem Alone.setSlot (h : Alone c s) (j : Nat) (q : Roll) : Alone c (s.setSlot j q) :=
  ⟨h.running, noParity_setSlot j q h.parity, h.calls, h.search, h.mark⟩

theorem reopenCall_of_alone (h : Alone c s) :
    ((∀ j q n, ¬ s.reservedRoll c.stand c j q n) → s.reopenCall c = (s.letOrderGo c).searching c false) ∧
    ∀ j q n, s.reservedRoll c.stand c j q n →
      s.reopenCall c = ((s.setSlot j { q with status := .stored n }).letOrderGo c).searching c false := by
  let d : Call := { c with phase := .opened }
  have hput : s.putCall d = s.setCalls [d] := putCall_of_single h.calls rfl
  have hgood : (s.setCalls [d]).noParity := h.parity
  have hreopen : s.reopenCall c = (((s.letOrderGo c).setCalls [d]).letRollGo c.stand c).startSearch := by
    rw [reopenCall, hput, leavePhase_eq hgood, letOrderGo_setCalls]
  have htmc : ((s.letOrderGo c).setCalls [d]).tmc = s.tmc := tmc_letOrderGo s
  have hsearch : (s.letOrderGo c).fdu.search = none := by rw [fdu_letOrderGo, h.search]
  have hrun : (s.letOrderGo c).running = true := (running_letOrderGo s).trans h.running
  rw [hreopen]
  refine ⟨fun hkept => ?_, fun j q n hres => ?_⟩
  · rw [letRollGo_of_kept fun j q n hr => hkept j q n ((reservedRoll_of_tmc htmc).1 hr)]
    exact startSearch_of_open (s := (s.letOrderGo c).setCalls [d]) (c := d) hrun hsearch rfl rfl h.mark
  · let b := ((s.setSlot j { q with status := .stored n }).letOrderGo c).setCalls [d]
    have hstored : ((s.letOrderGo c).setCalls [d]).setSlot j { q with status := .stored n } = b := by
      show ((s.letOrderGo c).setSlot j { q with status := .stored n }).setCalls [d] = b
      rw [setSlot_letOrderGo]
    have hbfdu : ((s.setSlot j { q with status := .stored n }).letOrderGo c).fdu = s.fdu := fdu_letOrderGo _
    have hbsearch : b.fdu.search = none := (congrArg Fdu.search hbfdu).trans h.search
    have hbrun : b.running = true := (running_letOrderGo (s.setSlot j { q with status := .stored n })).trans h.running
    obtain ⟨old, hold, hfound, hstatus⟩ := (reservedRoll_of_tmc htmc).2 hres
    have hfree := freeReservedRead_of_reserved (noParity_of_tmc htmc h.parity) hfound hstatus
    have hlet : ((s.letOrderGo c).setCalls [d]).letRollGo c.stand c =
        if q.holds = ⟨false, false, false, false, false⟩ ∧ (((s.letOrderGo c).setCalls [d]).place n).blocked = false then
          b.availability else b := by
      rw [letRollGo, hold]
      exact hfree.trans (by rw [hstored])
    rw [hlet]
    have hopen : b.startSearch = b.searching c false := startSearch_of_open (c := d) hbrun hbsearch rfl rfl h.mark
    have hnotice : b.availability = b.searching c false := availability_of_open (c := d) hbrun hbsearch rfl rfl h.mark
    split
    · rw [hnotice, startSearch_searching]
      rfl
    · exact hopen

/-! ### Holds (R13) -/

/-- A roll's record with its first hold. -/
def firstHeld (r : Roll) (kind : HoldKind) : Roll := { r with holds := r.holds.add kind }

theorem addHold_of_first (kind : HoldKind) (hpar : s.noParity) (hr : s.findRoll id = some (k, r))
    (hholds : r.holds = ⟨false, false, false, false, false⟩) :
    s.addHold id kind =
      let u := s.setSlot k (firstHeld r kind)
      match r.status with
      | .running st => u.heldRunning st
      | .reserved _ (.call _) | .carried _ =>
        match u.callNaming? id with
        | some c => if c.phase = .selected id then u.reopenCallRead c else u
        | none => u
      | _ => u := by
  have hhas : r.holds.has kind = false := by
    rw [hholds]
    cases kind <;> rfl
  have hnone : r.holds.none = true := (Holds.none_iff _).2 hholds
  rw [addHold_of_noParity hpar, addHoldRead, hr]
  simp only [hhas, Bool.false_eq_true, if_false, hnone, if_true]
  rfl

/-- A first hold on a roll RESERVED for a call or CARRIED, which the only call names. -/
theorem addHold_of_named (kind : HoldKind) (h : Alone c s) (hr : s.findRoll id = some (k, r))
    (hholds : r.holds = ⟨false, false, false, false, false⟩) (hroll : c.phase.roll? = some id)
    (hstatus : (∃ p, r.status = .reserved p (.call c.stand)) ∨ ∃ w, r.status = .carried w) :
    s.addHold id kind =
      let u := s.setSlot k (firstHeld r kind)
      if c.phase = .selected id then u.reopenCall c else u := by
  let u := s.setSlot k (firstHeld r kind)
  have hu := h.setSlot k (firstHeld r kind)
  have hnaming : u.callNaming? id = some c := callNaming?_of_single hu.calls hroll
  have hnamed : (match u.callNaming? id with
      | some c => if c.phase = .selected id then u.reopenCallRead c else u
      | none => u) = if c.phase = .selected id then u.reopenCall c else u := by
    have hread : u.reopenCallRead c = u.reopenCall c := reopenCallRead_of_noParity hu.parity
    simp only [hnaming, hread]
  rw [addHold_of_first kind h.parity hr hholds]
  rcases hstatus with ⟨p, hp⟩ | ⟨w, hw⟩
  · rw [hp]
    exact hnamed
  · rw [hw]
    exact hnamed

end State

end Sys2Proof.Machine
end

section
/-! PROOFS. Calls that reopen by a hold, a removal or a drop of their roll (R13, R19 to R21, R25, R143). -/

namespace Sys2Proof.Machine

theorem ne_of_mem_erase {α : Type} {k : Nat} {e : Nat × α} : ∀ {l : List (Nat × α)}, Table.rising l = true →
    e ∈ Table.erase k l → e.1 ≠ k
  | (j, b) :: l, hrising, hmem => by
    obtain ⟨hkeys, hrest⟩ := Table.rising_cons.1 hrising
    unfold Table.erase at hmem
    split at hmem
    next h =>
      subst h
      exact Nat.ne_of_gt (hkeys e hmem)
    next h =>
      rcases List.mem_cons.1 hmem with rfl | hmem
      · exact h
      · exact ne_of_mem_erase hrest hmem

theorem Holds.add_of_none {h : Holds} (hnone : h = ⟨false, false, false, false, false⟩) (kind : HoldKind) :
    h.add kind = ⟨decide (kind = .parity), decide (kind = .breaks), decide (kind = .diameter), decide (kind = .lostTrack),
      decide (kind = .management)⟩ := by
  subst hnone
  cases kind <;> rfl

theorem phase_of_roll {c : Call} {id : RollId} (h : c.phase.roll? = some id) :
    c.phase = .selected id ∨ ∃ l, c.phase = .ordered id l := by
  cases hp : c.phase with
  | opened => rw [hp] at h; exact nomatch h
  | searching => rw [hp] at h; exact nomatch h
  | selected z =>
    rw [hp] at h
    exact .inl (congrArg CallPhase.selected (Option.some.inj h))
  | ordered z l =>
    rw [hp] at h
    exact .inr ⟨l, by rw [← Option.some.inj h]⟩

namespace State

variable {s : State} {v : VehicleIx} {c : Call} {id : RollId} {k : Nat} {r : Roll}

/-! ### The roll of the call -/

theorem not_reservedRoll_of_found {st : StandIx} (hroll : c.phase.roll? = some id) (hr : s.findRoll id = some (k, r))
    (hstatus : ∀ p, r.status ≠ .reserved p (.call st)) (j : Nat) (q : Roll) (n : Nat) : ¬ s.reservedRoll st c j q n := by
  rintro ⟨old, hold, hfound, hres⟩
  obtain rfl : old = id := Option.some.inj (hold.symm.trans hroll)
  obtain ⟨-, rfl⟩ := Prod.mk.inj (Option.some.inj (hr.symm.trans hfound))
  exact hstatus n hres

theorem not_reservedRoll_of_absent {st : StandIx} (hroll : c.phase.roll? = some id) (hr : s.findRoll id = none)
    (j : Nat) (q : Roll) (n : Nat) : ¬ s.reservedRoll st c j q n := by
  rintro ⟨old, hold, hfound, -⟩
  obtain rfl : old = id := Option.some.inj (hold.symm.trans hroll)
  exact nomatch hr.symm.trans hfound

theorem reopenCall_of_away (h : Alone c s) (hroll : c.phase.roll? = some id) (hr : s.findRoll id = some (k, r))
    (hstatus : ∀ p, r.status ≠ .reserved p (.call c.stand)) : s.reopenCall c = (s.letOrderGo c).searching c false :=
  (reopenCall_of_alone h).1 (not_reservedRoll_of_found hroll hr hstatus)

theorem callRollRemoved_of_absent (h : Alone c s) (hroll : c.phase.roll? = some id) (hr : s.findRoll id = none) :
    s.callRollRemoved id = (s.letOrderGo c).searching c false := by
  simp only [callRollRemoved, callNaming?_of_single h.calls hroll]
  exact (reopenCall_of_alone h).1 (not_reservedRoll_of_absent hroll hr)

theorem letOrderGo_of_selected (h : c.phase = .selected id) : s.letOrderGo c = s := letOrderGo_of_unlinked (by rw [h]; rfl)

/-- The roll of a call in SELECTED set down elsewhere reopens the call. -/
theorem callDropped_of_away (h : Alone c s) (hroll : c.phase.roll? = some id) (hr : s.findRoll id = some (k, r))
    (hstatus : ∀ p, r.status ≠ .reserved p (.call c.stand)) :
    s.callDropped id = if c.phase = .selected id then s.searching c false else s := by
  simp only [callDropped, callNaming?_of_single h.calls hroll]
  split
  next hsel => rw [reopenCall_of_away h hroll hr hstatus, letOrderGo_of_selected hsel]
  next => rfl

/-! ### Holds (R13) -/

theorem addHold_of_selected (kind : HoldKind) (h : Alone c s) (hr : s.findRoll id = some (k, r))
    (hholds : r.holds = ⟨false, false, false, false, false⟩) (hsel : c.phase = .selected id) :
    (∀ p, r.status = .reserved p (.call c.stand) →
      s.addHold id kind = (s.setSlot k { firstHeld r kind with status := .stored p }).searching c false) ∧
    ∀ w, r.status = .carried w → s.addHold id kind = (s.setSlot k (firstHeld r kind)).searching c false := by
  have hroll : c.phase.roll? = some id := by rw [hsel]; rfl
  have hu := h.setSlot k (firstHeld r kind)
  have hfound : (s.setSlot k (firstHeld r kind)).findRoll id = some (k, firstHeld r kind) := findRoll_setSlot hr rfl
  refine ⟨fun p hp => ?_, fun w hw => ?_⟩
  · rw [addHold_of_named kind h hr hholds hroll (.inl ⟨p, hp⟩)]
    refine (if_pos hsel).trans (((reopenCall_of_alone hu).2 k _ p ⟨id, hroll, hfound, hp⟩).trans ?_)
    rw [letOrderGo_of_selected hsel, setSlot_setSlot]
  · rw [addHold_of_named kind h hr hholds hroll (.inr ⟨w, hw⟩)]
    refine (if_pos hsel).trans ((reopenCall_of_away hu hroll hfound fun p hp => ?_).trans (by rw [letOrderGo_of_selected hsel]))
    exact nomatch hw.symm.trans hp

/-! ### Rolls removed (R21, R25) -/

/-- One record alone has the id. -/
def onlyRecord (s : State) (id : RollId) (k : Nat) : Prop := ∀ e ∈ s.tmc.rolls, e.2.id = id → e.1 = k

theorem findRoll_freeSlot (hrising : Table.rising s.tmc.rolls = true) (honly : s.onlyRecord id k) : (s.freeSlot k).findRoll id = none :=
  List.find?_eq_none.2 fun e he hid =>
    ne_of_mem_erase hrising he (honly e ((Table.erase_sublist k _).subset he) (of_decide_eq_true hid))

theorem noParity_freeSlot (k : Nat) (h : s.noParity) : (s.freeSlot k).noParity := by
  obtain ⟨hrolls, hplaces, hroutes⟩ := h
  exact ⟨by simp [freeSlot, hrolls], hplaces, hroutes⟩

theorem Alone.freeSlot (h : Alone c s) (k : Nat) : Alone c (s.freeSlot k) :=
  ⟨h.running, noParity_freeSlot k h.parity, h.calls, h.search, h.mark⟩

theorem Alone.setPlace (h : Alone c s) (n : Nat) (x : Place) : Alone c (s.setPlace n x) :=
  ⟨h.running, noParity_setPlace n x h.parity, h.calls, h.search, h.mark⟩

theorem Alone.setVehicle (h : Alone c s) (w : VehicleIx) (x : Vehicle) : Alone c (s.setVehicle w x) :=
  ⟨h.running, h.parity, h.calls, h.search, h.mark⟩

theorem Alone.setStand (h : Alone c s) (st : StandIx) (x : Stand) : Alone c (s.setStand st x) :=
  ⟨h.running, h.parity, h.calls, h.search, h.mark⟩

theorem removeRoll_of_named (h : Alone c s) (hrising : Table.rising s.tmc.rolls = true) (hroll : c.phase.roll? = some id)
    (hr : s.findRoll id = some (k, r)) (honly : s.onlyRecord id k) :
    (∀ d, r.status = .announced d → removeRoll k r s = (.ok, ((s.freeSlot k).letOrderGo c).searching c false)) ∧
    ∀ p, r.status = .stored p → removeRoll k r s =
      (.ok, (((s.setPlace p { s.place p with occupant := none }).freeSlot k).letOrderGo c).searching c false) := by
  have hid := id_of_findRoll hr
  refine ⟨fun d hd => ?_, fun p hp => ?_⟩
  · simp only [removeRoll, hd, hid]
    exact congrArg (Prod.mk Result.ok) (callRollRemoved_of_absent (h.freeSlot k) hroll (findRoll_freeSlot hrising honly))
  · simp only [removeRoll, hp, hid, clearLocation, updPlace_of_noParity h.parity]
    exact congrArg (Prod.mk Result.ok) (callRollRemoved_of_absent ((h.setPlace p _).freeSlot k) hroll
      (findRoll_freeSlot (s := s.setPlace p { s.place p with occupant := none }) hrising honly))

/-- The paper counted touches the press figures alone. -/
theorem countWriteOff_keeps (r : Roll) (s : State) : ∃ x, s.countWriteOff r = { s with scu := x } := by
  unfold countWriteOff
  split
  · split
    · split
      · exact ⟨_, rfl⟩
      · exact ⟨_, rfl⟩
    · exact ⟨_, rfl⟩
  · exact ⟨_, rfl⟩

theorem dropAtWaste_of_named (h : Alone c s) (hrising : Table.rising s.tmc.rolls = true) (hroll : c.phase.roll? = some id)
    (hr : s.findRoll id = some (k, r)) (honly : s.onlyRecord id k) :
    s.dropAtWaste v id =
      ((((s.countWriteOff r).freeSlot k).setVehicle v { s.vehicle v with load := .empty }).letOrderGo c).searching c false := by
  obtain ⟨x, hx⟩ := countWriteOff_keeps r s
  have halone : Alone c (s.countWriteOff r) := by
    rw [hx]
    exact ⟨h.running, h.parity, h.calls, h.search, h.mark⟩
  have hrolls : (s.countWriteOff r).tmc = s.tmc := by rw [hx]
  have hvehicle : ((s.countWriteOff r).freeSlot k).setLoad v .empty =
      ((s.countWriteOff r).freeSlot k).setVehicle v { s.vehicle v with load := .empty } := by
    rw [hx]
    rfl
  have habsent : ((s.countWriteOff r).freeSlot k).findRoll id = none :=
    findRoll_freeSlot (by rw [hrolls]; exact hrising) (by rw [onlyRecord, hrolls]; exact honly)
  simp only [dropAtWaste, hr]
  rw [hvehicle]
  exact callRollRemoved_of_absent ((halone.freeSlot k).setVehicle v _) hroll habsent

/-! ### Drops (R19 to R21) -/

/-- The roll set down, and the vehicle empty. -/
def downAs (v : VehicleIx) (k : Nat) (r : Roll) (status : RollStatus) (s : State) : State :=
  (s.setSlot k { r with status := status }).setVehicle v { s.vehicle v with load := .empty }

theorem Alone.downAs (h : Alone c s) (v : VehicleIx) (k : Nat) (r : Roll) (status : RollStatus) : Alone c (s.downAs v k r status) :=
  (h.setSlot k _).setVehicle v _

theorem findRoll_downAs (hr : s.findRoll id = some (k, r)) (status : RollStatus) :
    (s.downAs v k r status).findRoll id = some (k, { r with status := status }) :=
  findRoll_setSlot (s := s) (r' := { r with status := status }) hr rfl

theorem dropAtDock_of_named (h : Alone c s) (hroll : c.phase.roll? = some id) (hr : s.findRoll id = some (k, r)) (d : Nat) :
    (s.setDown v id (.announced d)).callDropped id =
      if c.phase = .selected id then (s.downAs v k r (.announced d)).searching c false else s.downAs v k r (.announced d) := by
  rw [setDown_of_found h.parity hr]
  exact callDropped_of_away (h.downAs v k r _) hroll (findRoll_downAs hr _) fun p hp => nomatch hp

theorem dropAtStand_of_named {st : StandIx} (h : Alone c s) (hroll : c.phase.roll? = some id) (hr : s.findRoll id = some (k, r))
    (hst : st ≠ c.stand) (hother : (s.stand st).other = .none) (hclaim : (s.stand st).claim = none)
    (hplan : s.inLead st = true → r.differs (s.activeStand st) = false) :
    s.dropAtStand v st id = if c.phase = .selected id then (s.onArm v st id k r).searching c false else s.onArm v st id k r := by
  have hcall : (s.onArm v st id k r).call? st = none := by
    have hcalls : (s.onArm v st id k r).fdu.calls = [c] := h.calls
    rw [call?, hcalls, List.find?_cons_of_neg (by simpa using hst.symm), List.find?_nil]
  rw [dropAtStand_of_called h.parity hr hother hclaim hplan, removeCall_of_none hcall]
  exact callDropped_of_away ((h.downAs v k r (.standby st)).setStand st _) hroll
    (findRoll_setSlot (s := s) (r' := { r with status := .standby st }) hr rfl) fun p hp => nomatch hp

theorem dropAtPlace_of_named {n : Nat} (h : Alone c s) (hroll : c.phase.roll? = some id) (hr : s.findRoll id = some (k, r))
    (hoccupant : (s.place n).occupant = none) (hblocked : (s.place n).blocked = false) (hclaim : (s.place n).claim = none) :
    s.dropAtPlace v n id =
      if c.phase = .selected id then
        (s.placed v n id k r).searching c (decide (r.holds = ⟨false, false, false, false, false⟩))
      else s.placed v n id k r := by
  let u := s.placed v n id k r
  have hu : Alone c u := (h.downAs v k r (.stored n)).setPlace n _
  have hput : (s.setDown v id (.stored n)).updPlace n (fun x => { x with occupant := some id }) = u := by
    rw [setDown_of_found h.parity hr, updPlace_of_noParity (by exact noParity_setSlot _ _ h.parity)]
    rfl
  have hended : u.endDropClaim v ⟨.place, n⟩ = u := by
    have hnone : u.dropClaim? ⟨.place, n⟩ = none := (congrArg Place.claim (place_placed n)).trans hclaim
    simp only [endDropClaim, hnone]
  have hfound : u.findRoll id = some (k, { r with status := .stored n }) :=
    findRoll_setSlot (s := s) (r' := { r with status := .stored n }) hr rfl
  have hfree : (u.place n).blocked = false := (congrArg Place.blocked (place_placed n)).trans hblocked
  have havailable : u.isAvailable { r with status := .stored n } = r.holds.none := by
    rw [isAvailable_of_stored rfl, hfree]
    exact Bool.and_true _
  have hdropped : s.dropAtPlace v n id = (u.callDropped id).announceAvailable id := by
    unfold dropAtPlace
    rw [if_neg (by rw [hoccupant, hblocked]; decide), hput]
    exact congrArg (fun t => announceAvailable id (callDropped id t)) hended
  rw [hdropped, callDropped_of_away hu hroll hfound fun p hp => nomatch hp]
  rcases phase_of_roll hroll with hsel | ⟨l, hord⟩
  · rw [if_pos hsel, if_pos hsel]
    have hgood : (u.searching c false).noParity := hu.parity
    have hknown : (u.searching c false).roll? id = some { r with status := .stored n } := roll?_of_findRoll (s := u) hfound
    by_cases hholds : r.holds = ⟨false, false, false, false, false⟩
    · rw [announceAvailable_of_available hgood hknown (havailable.trans ((Holds.none_iff _).2 hholds)), availability_of_noticing h.mark,
        decide_eq_true hholds]
    · rw [announceAvailable_of_unavailable hgood hknown (havailable.trans (Holds.none_eq_false hholds)), decide_eq_false hholds]
  · have hnot : ¬ c.phase = .selected id := fun he => nomatch hord.symm.trans he
    rw [if_neg hnot, if_neg hnot]
    have hquiet : u.quietCalls := ⟨h.search, fun d hd => by
      rw [hu.calls] at hd
      rw [List.mem_singleton.1 hd, hord]
      exact ⟨(fun he => nomatch he), h.mark⟩⟩
    by_cases hholds : r.holds.none = true
    · rw [announceAvailable_of_available hu.parity (roll?_of_findRoll hfound) (havailable.trans hholds), availability_of_quiet hquiet]
    · exact announceAvailable_of_unavailable hu.parity (roll?_of_findRoll hfound) (havailable.trans (Bool.eq_false_iff.2 hholds))

end State

end Sys2Proof.Machine
end

section
/-! PROOFS. Calls whose roll is picked, and calls whose order ends (R16, R81, R83, R143). -/

namespace Sys2Proof.Machine

namespace State

variable {s : State} {v : VehicleIx} {c : Call} {id : RollId} {k : Nat} {r : Roll}

/-! ### A pick of the call's roll (R16, R143) -/

theorem updVehicle_comm {w : VehicleIx} {f g : Vehicle → Vehicle} (h : ∀ x, f (g x) = g (f x)) (s : State) :
    (s.updVehicle v f).updVehicle w g = (s.updVehicle w g).updVehicle v f := by
  by_cases hv : v = w
  · subst hv
    have htwice (f g : Vehicle → Vehicle) : (s.updVehicle v f).updVehicle v g = s.setVehicle v (g (f (s.vehicle v))) :=
      updVehicle_setVehicle ..
    rw [htwice, htwice, h]
  · have h1 : (s.updVehicle v f).vehicle w = s.vehicle w := (vehicle_updVehicle ..).trans (if_neg hv)
    have h2 : (s.updVehicle w g).vehicle v = s.vehicle v := (vehicle_updVehicle ..).trans (if_neg (Ne.symm hv))
    show (s.updVehicle v f).setVehicle w (g ((s.updVehicle v f).vehicle w)) =
      (s.updVehicle w g).setVehicle v (f ((s.updVehicle w g).vehicle v))
    rw [h1, h2]
    exact setVehicle_comm hv ..

theorem setLoad_letOrderGo (l : Load) : (s.letOrderGo c).setLoad v l = (s.setLoad v l).letOrderGo c := by
  unfold letOrderGo
  split
  · unfold updOrder setLoad
    exact updVehicle_comm (by exact fun _ => rfl) s
  · rfl

theorem load_letOrderGo (s : State) : ((s.letOrderGo c).vehicle v).load = (s.vehicle v).load := by
  unfold letOrderGo
  split
  next l _ =>
    rw [updOrder, vehicle_updVehicle]
    split
    next h => rw [h]
    next => rfl
  next => rfl

theorem noPickup_letOrderGo {l : Loc} (h : s.noPickup v l) : (s.letOrderGo c).noPickup v l := by
  unfold letOrderGo
  split
  next m _ =>
    intro q hq
    rw [updOrder, vehicle_updVehicle] at hq
    split at hq
    next hw =>
      subst hw
      obtain ⟨q', hq', rfl⟩ := List.mem_map.1 hq
      have hno := h q' hq'
      split <;> exact hno
    next => exact h q hq
  next => exact h

/-- The roll off its place and on the vehicle's record, before the FDU is told. -/
def lifted (v : VehicleIx) (p k : Nat) (r : Roll) (s : State) : State :=
  (s.setPlace p { s.place p with occupant := none }).setSlot k { r with status := .carried (some v) }

theorem findRoll_lifted (hr : s.findRoll id = some (k, r)) (p : Nat) :
    (s.lifted v p k r).findRoll id = some (k, { r with status := .carried (some v) }) :=
  findRoll_setSlot (s := s.setPlace p { s.place p with occupant := none }) (r' := { r with status := .carried (some v) }) hr rfl

theorem Alone.lifted (h : Alone c s) (v : VehicleIx) (p k : Nat) (r : Roll) : Alone c (s.lifted v p k r) := (h.setPlace p _).setSlot k _

/-- The pick of a roll RESERVED at the place, where it was expected, by what the call takes from it. -/
theorem pickTaken_of_reserved {p : Nat} {owner : Owner} {number : Half} {u : State} (hpar : s.noParity)
    (hl : s.keptLoc? 1 number = some ⟨.place, p⟩) (hr : s.findRoll id = some (k, r)) (hstatus : r.status = .reserved p owner)
    (hu : (s.lifted v p k r).callPicked id v = u) (hload : (u.vehicle v).load = .empty ∨ (u.vehicle v).load = .unknown) :
    s.pickTaken 1 number id v = (u.setLoad v (.roll id)).progressPick v ⟨.place, p⟩ := by
  let w := s.setPlace p { s.place p with occupant := none }
  have hgood : w.noParity := noParity_setPlace _ _ hpar
  have hupd : w.updRoll id (fun r => { r with status := .carried (some v) }) = s.lifted v p k r := updRoll_of_noParity hgood hr _
  have hcarried : w.carryOn v id true = u.setLoad v (.roll id) := by
    show (((w.updRoll id fun r => { r with status := .carried (some v) }).callPicked id v).shedLoad v (some id)).setLoad v (.roll id) = _
    rw [hupd, hu, shedLoad_of_free _ hload]
  have hexpected : expectedAt ⟨.place, p⟩ r.status = true := by
    rw [hstatus]
    exact decide_eq_true rfl
  have htell (t : State) : t.tellArm r.status = t := by rw [hstatus]; rfl
  rw [pickTaken_of_known hpar hl hr, if_neg (by rw [hstatus]; exact fun h => nomatch h), pickKnown_eq,
    clearLocation_place (.inr ⟨owner, hstatus⟩) hpar, hcarried, flagMisplaced_of_expected hexpected, htell]

theorem callPicked_of_selected (h : Alone c s) (hsel : c.phase = .selected id) (hr : s.findRoll id = some (k, r))
    (hstatus : r.status = .carried (some v)) : s.callPicked id v = s.searching c false := by
  have hroll : c.phase.roll? = some id := by rw [hsel]; rfl
  have haway (p : Nat) : r.status ≠ .reserved p (.call c.stand) := fun hp => nomatch hstatus.symm.trans hp
  simp only [callPicked, callNaming?_of_single h.calls hroll, hsel]
  rw [reopenCall_of_away h hroll hr haway, letOrderGo_of_selected hsel]

theorem callPicked_of_ordered {l : OrderRef} (hcalls : s.fdu.calls = [c]) (hord : c.phase = .ordered id l) :
    s.callPicked id v =
      if l.vehicle = v ∧ (s.vehicle v).outstanding.any (fun o => o.tag = l.tag) then s else s.reopenCall c := by
  have hroll : c.phase.roll? = some id := by rw [hord]; rfl
  simp only [callPicked, callNaming?_of_single hcalls hroll, hord]

theorem progressPick_of_only {p : Nat} {o : Order} (hout : (s.vehicle v).outstanding = [o]) (hprogress : o.progress = .toPickup)
    (hpickup : o.pickup = ⟨.place, p⟩) (hqueue : ∀ q ∈ (s.vehicle v).queue, q.tag ≠ o.tag) :
    s.progressPick v ⟨.place, p⟩ = s.setVehicle v { s.vehicle v with outstanding := [{ o with progress := .toDrop }] } := by
  have hfind : ((s.vehicle v).outstanding.find? fun q => decide (q.progress = .toPickup ∧ q.pickup = ⟨.place, p⟩)) = some o := by
    rw [hout]
    exact List.find?_cons_of_pos (decide_eq_true ⟨hprogress, hpickup⟩)
  have hsame : (s.vehicle v).queue.map (fun q => if q.tag = o.tag then { q with progress := .toDrop } else q) = (s.vehicle v).queue :=
    (List.map_congr_left (g := id) fun q hq => if_neg (hqueue q hq)).trans (List.map_id _)
  have hstep : s.progressPick v ⟨.place, p⟩ = s.updOrder ⟨v, o.tag⟩ fun q => { q with progress := .toDrop } := by
    simp only [progressPick, hfind]
  rw [hstep, updOrder, updVehicle]
  simp only [hsame, hout, List.map_cons, List.map_nil, if_true]

/-! ### The end of a call's order (R83, R143) -/

/-- The vehicle's record after its only order, claims and path being empty. -/
def orderGone (e : OrderEnd) (x : Vehicle) : Vehicle :=
  { x with outstanding := [], path := [], pointer := 0, endLoc := stopLoc e x }

theorem endOutstanding_of_linked {o : Order} {e : OrderEnd} (ho : (s.vehicle v).outstanding = [o]) (hwaits : s.waitsFor? v = none)
    (hclaims : (s.vehicle v).claims = []) (hclaim : o.claim ≠ .held) :
    s.endOutstanding v o e = (s.setVehicle v (orderGone e (s.vehicle v))).revertCall v o := by
  let y : Vehicle := { s.vehicle v with outstanding := [], path := [], pointer := 0 }
  have hnewest : (((s.vehicle v).outstanding.dropWhile fun x => x.tag ≠ o.tag).drop 1).isEmpty = true := by simp [ho]
  have hleft : (s.vehicle v).outstanding.filter (fun y => y.tag ≠ o.tag) = [] := by simp [ho]
  have hpath : (s.setVehicle v { s.vehicle v with outstanding := [] }).leavePath v o.tag = s.setVehicle v y := by
    rw [leavePath_of_last (by rw [vehicle_setVehicle_self]) (by exact hwaits), vehicle_setVehicle_self, setVehicle_setVehicle]
    simp only [hclaims, releaseClaims_nil, updVehicle_setVehicle]
    rw [← hclaims]
  have hstop : (if e = .failed ∨ e = .cancelled then
      (s.setVehicle v y).updVehicle v fun x => { x with endLoc := restLoc x } else s.setVehicle v y) =
      s.setVehicle v (orderGone e (s.vehicle v)) := by
    unfold orderGone stopLoc
    split
    · exact updVehicle_setVehicle ..
    · rfl
  rw [← hstop]
  unfold endOutstanding
  simp only [hnewest, updVehicle, hleft, hpath, if_neg hclaim, Bool.true_and, decide_eq_true_eq]
  rfl

theorem endOrder_of_settled {o : Order} {e : OrderEnd} {w : State} (hend : s.endOutstanding v o e = w) (hmode : w.sfu.mode = .normal)
    (hnone : (w.vehicle v).outstanding = []) (hbusy : (w.vehicle v).status = .busy) (hdeadlock : (w.vehicle v).causes.deadlock = false)
    (hqueue : (w.vehicle v).queue = []) : s.endOrder v o e = w.setVehicle v { w.vehicle v with status := .idle } := by
  let u := w.setVehicle v { w.vehicle v with status := .idle }
  have hx : u.vehicle v = { w.vehicle v with status := .idle } := vehicle_setVehicle_self ..
  have htried : (if w.linkSelected o then w.tryCalls else w) = w := by rw [tryCalls_of_normal hmode, ite_self]
  have hfalls : w.fallsIdle v = true := by simp [fallsIdle, hnone, hbusy]
  have hsettle : w.settle v = u := settle_of_busy hnone hbusy
  have hcauses : (u.updVehicle v fun x => { x with causes := { x.causes with deadlock := false } }) = u := by
    have hsame : ({ (w.vehicle v).causes with deadlock := false } : Causes) = (w.vehicle v).causes := by rw [← hdeadlock]
    rw [updVehicle_setVehicle]
    simp only [hsame]
    rfl
  have hkept : (u.vehicle v).causes.deadlock = false := by rw [hx]; exact hdeadlock
  have hsettled : w.settleAndTell v = u := by
    unfold settleAndTell
    rw [if_pos hfalls, hsettle]
    dsimp only
    rw [hkept, hcauses, Bool.false_and, if_neg Bool.false_ne_true]
    exact tryCalls_of_normal hmode
  unfold endOrder
  rw [hend]
  dsimp only
  rw [htried, hsettled]
  exact forwardAndTell_of_nil (by rw [hx]; exact hqueue)

theorem revertCall_of_linked {o : Order} (h : Alone c s) (hlink : o.link = some c.stand) (hord : c.phase = .ordered id ⟨v, o.tag⟩)
    (hr : s.findRoll id = some (k, r)) :
    s.revertCall v o = if r.holds.none && servesCall v c.stand r.status then s.selectCall c id else s.reopenCall c := by
  have hcall : s.call? c.stand = some c := call?_of_single h.calls
  simp only [revertCall, hlink, Option.bind_some, hcall, hord, if_true, readRoll_of_noParity h.parity, roll?_of_findRoll hr]

theorem selectCall_of_single (hcalls : s.fdu.calls = [c]) (hcollector : s.sfu.collector = 0) :
    s.selectCall c id = s.setCalls [{ c with phase := .selected id }] := by
  have hput : s.putCall { c with phase := .selected id } = s.setCalls [{ c with phase := .selected id }] := putCall_of_single hcalls rfl
  unfold selectCall
  dsimp only
  rw [hput, sendCall_of_uncollected (by exact hcollector), ite_self]

theorem letOrderGo_of_orderless {l : OrderRef} (hlink : c.phase.link? = some l) (hout : (s.vehicle l.vehicle).outstanding = [])
    (hqueue : (s.vehicle l.vehicle).queue = []) : s.letOrderGo c = s := by
  have hsame : ({ s.vehicle l.vehicle with outstanding := [], queue := [] } : Vehicle) = s.vehicle l.vehicle :=
    congrArg₂ (fun a b => { s.vehicle l.vehicle with outstanding := a, queue := b }) hout.symm hqueue.symm
  simp only [letOrderGo, hlink, updOrder, updVehicle, hout, hqueue, List.map_nil]
  rw [hsame, setVehicle_self]

end State

end Sys2Proof.Machine
end

section
/-! PROOFS. Each row of R143: calls that reopen, and calls that revert to SELECTED. -/

namespace Sys2Proof.Machine

/-- The rows of MROLL are those of its action byte. -/
theorem rollRow_of_row {t : Telegram} {row : Row} (hrow : row = .mrollHold ∨ row = .mrollRemove) (h : rowOf t = row) :
    rollRow (u8 t.body 5) = row := by
  unfold rowOf at h
  split at h
  case isTrue =>
    subst h
    exact hrow.elim (fun h => nomatch h) fun h => nomatch h
  case isFalse =>
    split at h
    case isTrue =>
      unfold writeRow at h
      split at h <;> (subst h; exact hrow.elim (fun h => nomatch h) fun h => nomatch h)
    case isFalse =>
      split at h
      case isTrue =>
        unfold actionRow at h
        split at h <;> (try split at h) <;> (subst h; exact hrow.elim (fun h => nomatch h) fun h => nomatch h)
      case isFalse =>
        split at h
        case isTrue => exact h
        case isFalse =>
          subst h
          exact hrow.elim (fun h => nomatch h) fun h => nomatch h

theorem rollRow_of_undefined {action : Byte} (h : 5 < action.toNat) : rollRow action = .mrollNone := by
  unfold rollRow
  split <;> first | omega | rfl

theorem action_le_of_row {t : Telegram} {row : Row} (hrow : row = .mrollHold ∨ row = .mrollRemove) (h : rowOf t = row) :
    (u8 t.body 5).toNat ≤ 5 := by
  by_contra hgt
  have hnone := (rollRow_of_undefined (Nat.lt_of_not_le hgt)).symm.trans (rollRow_of_row hrow h)
  subst hnone
  exact hrow.elim (fun h => nomatch h) fun h => nomatch h

namespace State

variable {s : State} {v : VehicleIx} {c : Call} {id : RollId} {k : Nat} {r : Roll}

/-- A picked roll of the only call, by the call's phase. -/
theorem pickTaken_of_called {p : Nat} {number : Half} (h : Alone c s) (hl : s.keptLoc? 1 number = some ⟨.place, p⟩)
    (hr : s.findRoll id = some (k, r)) (hstatus : r.status = .reserved p (.call c.stand)) (hload : (s.vehicle v).load = .empty)
    (hpickup : ∀ o ∈ (s.vehicle v).outstanding, o.progress ≠ .toPickup) :
    let picked := (s.lifted v p k r).setVehicle v { s.vehicle v with load := .roll id }
    (c.phase = .selected id → s.pickTaken 1 number id v = picked.searching c false) ∧
    (∀ l, c.phase = .ordered id l → l.vehicle = v → (∃ o ∈ (s.vehicle v).outstanding, o.tag = l.tag) →
      s.pickTaken 1 number id v = picked) ∧
    ∀ l, c.phase = .ordered id l → l.vehicle ≠ v ∨ (∀ o ∈ (s.vehicle v).outstanding, o.tag ≠ l.tag) →
      s.pickTaken 1 number id v = (picked.letOrderGo c).searching c false := by
  intro picked
  let w := s.lifted v p k r
  have hw : Alone c w := h.lifted v p k r
  have hfound := findRoll_lifted (v := v) hr p
  have hwpick : w.noPickup v ⟨.place, p⟩ := fun o ho hp => hpickup o ho hp.1
  have hpicked : picked.noPickup v ⟨.place, p⟩ := by
    refine noPickup_of_vehicles (a := w) ?_ hwpick
    rw [vehicle_setVehicle_self]
    rfl
  have hroll {phase : CallPhase} (hphase : c.phase = phase) (hp : phase.roll? = some id) : c.phase.roll? = some id := hphase ▸ hp
  refine ⟨fun hsel => ?_, fun l hord hv hout => ?_, fun l hord hother => ?_⟩
  · have hu : w.callPicked id v = w.searching c false := callPicked_of_selected hw hsel hfound rfl
    exact (pickTaken_of_reserved h.parity hl hr hstatus hu (.inl hload)).trans (progressPick_of_none (s := picked.searching c false) hpicked)
  · have hany : (w.vehicle v).outstanding.any (fun o => o.tag = l.tag) = true := by
      obtain ⟨o, ho, htag⟩ := hout
      exact List.any_eq_true.2 ⟨o, ho, decide_eq_true htag⟩
    have hu : w.callPicked id v = w := (callPicked_of_ordered hw.calls hord).trans (if_pos ⟨hv, hany⟩)
    exact (pickTaken_of_reserved h.parity hl hr hstatus hu (.inl hload)).trans (progressPick_of_none hpicked)
  · have hnot : ¬ (l.vehicle = v ∧ (w.vehicle v).outstanding.any (fun o => o.tag = l.tag) = true) := by
      rintro ⟨hv, hany⟩
      obtain ⟨o, ho, htag⟩ := List.any_eq_true.1 hany
      exact hother.elim (fun hne => hne hv) fun hne => hne o ho (of_decide_eq_true htag)
    have hu : w.callPicked id v = (w.letOrderGo c).searching c false :=
      ((callPicked_of_ordered hw.calls hord).trans (if_neg hnot)).trans
        (reopenCall_of_away hw (hroll hord rfl) hfound fun q hq => nomatch hq)
    have hempty : (((w.letOrderGo c).searching c false).vehicle v).load = .empty := (load_letOrderGo w).trans hload
    have hmoved : ((w.letOrderGo c).searching c false).setLoad v (.roll id) = (picked.letOrderGo c).searching c false :=
      congrArg (searching c false) (setLoad_letOrderGo (s := w) (.roll id))
    refine (pickTaken_of_reserved h.parity hl hr hstatus hu (.inl hempty)).trans ?_
    rw [hmoved]
    exact progressPick_of_none (s := (picked.letOrderGo c).searching c false) (noPickup_letOrderGo hpicked)

/-- The end of the order of the only call: the call keeps its roll or reopens. -/
theorem endOrder_of_called {o : Order} {e : OrderEnd} (h : Alone c s) (hmode : s.sfu.mode = .normal) (hcollector : s.sfu.collector = 0)
    (hr : s.findRoll id = some (k, r)) (hbusy : (s.vehicle v).status = .busy) (hdeadlock : (s.vehicle v).causes.deadlock = false)
    (hclaims : (s.vehicle v).claims = []) (hqueue : (s.vehicle v).queue = []) (hwaits : s.waitsFor? v = none)
    (ho : (s.vehicle v).outstanding = [o]) (hclaim : o.claim ≠ .held) (hlink : o.link = some c.stand)
    (hord : c.phase = .ordered id ⟨v, o.tag⟩) :
    let ended := s.setVehicle v { orderGone e (s.vehicle v) with status := .idle }
    ((r.holds.none && servesCall v c.stand r.status) = true → s.endOrder v o e = ended.setCalls [{ c with phase := .selected id }]) ∧
    ((r.holds.none && servesCall v c.stand r.status) = false →
      ((∀ p, r.status ≠ .reserved p (.call c.stand)) → s.endOrder v o e = ended.searching c false) ∧
      ∀ p, r.status = .reserved p (.call c.stand) →
        s.endOrder v o e = (ended.setSlot k { r with status := .stored p }).searching c false) := by
  intro ended
  let x := orderGone e (s.vehicle v)
  let b := s.setVehicle v x
  have hb : Alone c b := h.setVehicle v x
  have hbx : b.vehicle v = x := vehicle_setVehicle_self ..
  have hroll : c.phase.roll? = some id := by rw [hord]; rfl
  have hlone (t : State) (ht : t.vehicle v = x) : t.letOrderGo c = t :=
    letOrderGo_of_orderless (l := ⟨v, o.tag⟩) (by rw [hord]; rfl) (by rw [ht]; rfl) (by rw [ht]; exact hqueue)
  have hrevert := revertCall_of_linked (s := b) hb hlink hord hr
  have settles {t : State} (ht : b.revertCall v o = t) (htmode : t.sfu.mode = .normal) (htx : t.vehicle v = x) :
      s.endOrder v o e = t.setVehicle v { x with status := .idle } := by
    have hend := (endOutstanding_of_linked (e := e) ho hwaits hclaims hclaim).trans ht
    have hsettled := endOrder_of_settled hend htmode (by rw [htx]; rfl) (by rw [htx]; exact hbusy) (by rw [htx]; exact hdeadlock)
      (by rw [htx]; exact hqueue)
    rw [hsettled, htx]
  have hended : b.setVehicle v { x with status := .idle } = ended := setVehicle_setVehicle ..
  refine ⟨fun hkeep => ?_, fun hkeep => ⟨fun haway => ?_, fun p hp => ?_⟩⟩
  · rw [if_pos hkeep, selectCall_of_single hb.calls hcollector] at hrevert
    exact (settles hrevert hmode hbx).trans (congrArg (setCalls _) hended)
  · rw [if_neg (ne_true_of_eq_false hkeep), reopenCall_of_away hb hroll hr haway, hlone b hbx] at hrevert
    exact (settles hrevert hmode hbx).trans (congrArg (searching c false) hended)
  · have hres : b.reservedRoll c.stand c k r p := ⟨id, hroll, hr, hp⟩
    rw [if_neg (ne_true_of_eq_false hkeep), (reopenCall_of_alone hb).2 k r p hres,
      hlone (b.setSlot k { r with status := .stored p }) hbx] at hrevert
    exact (settles hrevert hmode hbx).trans (congrArg (fun t : State => (t.setSlot k { r with status := .stored p }).searching c false) hended)

theorem servesCall_iff {st : StandIx} {x : RollStatus} : servesCall v st x = true ↔
    (∃ p, x = .reserved p (.call st)) ∨ x = .carried (some v) := by
  cases x <;> simp [servesCall]

theorem setCalls_of_unsearched (h : s.fdu.search = none) (l : List Call) :
    s.setCalls l = { s with fdu := { s.fdu with calls := l, search := none } } := by
  rw [setCalls, ← h]

end State

/-- Settles O39: what reopens a call and what leaves it, at picks, ends of orders, holds, removals and drops. -/
theorem callsReopenAndRevert : Obligations.CallsReopenAndRevert := by
  unfold Obligations.CallsReopenAndRevert
  refine ⟨fun v c id k r dst src s hheard hpar hmode hcollector hcalls hsearch hmark hr => ?first,
    fun v c id k p r o owner dst src number s hheard hpar hcalls hr hstatus hnumber hlow hhigh => ?usual,
    fun c id k r s hpar hwf hrun hcalls hsearch hmark hroll hr honly => ?rows⟩
  case first =>
    intro x calls reopened
    have halone : State.Alone c s := ⟨hheard.2.1, hpar, hcalls, hsearch, hmark⟩
    refine ⟨fun p number hstatus hnumber hlow hhigh hload hpickup => ?pick,
      fun tag outcome o h1 h4 hbusy hdeadlock hclaims hqueue hwaits ho htag hclaim hlink
        hord => ?ends⟩
    case pick =>
      intro answer picked
      subst hnumber
      have hl : s.keptLoc? 1 number = some ⟨.place, number.toNat⟩ := State.keptLoc?_of_kept rfl (.inl rfl) hlow hhigh
      obtain ⟨hselected, hown, hother⟩ := State.pickTaken_of_called halone hl hr hstatus hload hpickup
      have answers {u : State} (h : s.pickTaken 1 number id v = u) : answer u := by
        show exec _ _ = _
        rw [exec_vloadPick 1 number id hheard, h]
        rfl
      refine ⟨fun hsel => answers (hselected hsel), fun l hord hv hout => answers (hown l hord hv hout), fun l hord h => answers ?_⟩
      rw [hother l hord h, State.letOrderGo, hord]
      rfl
    case ends =>
      intro answer ended
      subst htag
      obtain ⟨e, he, hfailed⟩ := State.orderEnd?_listed h1 h4
      have answers {u : State} (h : s.endOrder v o e = u) : answer u := by
        show exec _ _ = _
        rw [exec_vdone o.tag outcome hheard, State.vdoneTaken_of_listed (before := []) (after := []) ho rfl
          (fun q hq => absurd hq List.not_mem_nil) he, h]
        rfl
      obtain ⟨hkept, hreopened⟩ := State.endOrder_of_called (e := e) halone hmode hcollector hr hbusy hdeadlock hclaims hqueue hwaits ho hclaim
        hlink hord
      have hstop : State.stopLoc e x = if outcome = 1 then x.endLoc else State.restLoc x := by
        by_cases h : outcome = 1
        · rw [State.stopLoc, if_neg (by rw [hfailed]; exact not_not_intro h), if_pos h]
        · rw [State.stopLoc, if_pos (hfailed.2 h), if_neg h]
      have hended : s.setVehicle v { State.orderGone e x with status := .idle } = ended := by
        rw [State.orderGone, hstop]
        rfl
      rw [hended] at hkept hreopened
      have hkeep_iff : (r.holds.none && servesCall v c.stand r.status) = true ↔ r.holds = ⟨false, false, false, false, false⟩ ∧
          ((∃ p, r.status = .reserved p (.call c.stand)) ∨ r.status = .carried (some v)) := by
        rw [Bool.and_eq_true, Holds.none_iff, State.servesCall_iff]
      have unkept (h : ¬ (r.holds = ⟨false, false, false, false, false⟩ ∧
          ((∃ p, r.status = .reserved p (.call c.stand)) ∨ r.status = .carried (some v)))) :
          (r.holds.none && servesCall v c.stand r.status) = false := Bool.eq_false_iff.2 (mt hkeep_iff.1 h)
      refine ⟨fun hholds hserves => answers ((hkept (hkeep_iff.2 ⟨hholds, hserves⟩)).trans
        (State.setCalls_of_unsearched (s := ended) hsearch _)),
        fun haway hlost => answers ((hreopened (unkept ?_)).1 haway), fun p hp hholds => answers ((hreopened (unkept ?_)).2 p hp)⟩
      · rintro ⟨hholds, ⟨p, hp⟩ | hcarried⟩
        · exact haway p hp
        · exact hlost.elim (fun h => h hholds) fun h => h hcarried
      · exact fun h => hholds h.1
  case usual =>
    intro x hload hout hprogress hpickup hord hqueue
    subst hnumber
    have hl : s.keptLoc? 1 number = some ⟨.place, number.toNat⟩ := State.keptLoc?_of_kept rfl (.inl rfl) hlow hhigh
    let w := s.lifted v number.toNat k r
    have hu : w.callPicked id v = w := by
      refine (State.callPicked_of_ordered (s := w) hcalls hord).trans (if_pos ⟨rfl, ?_⟩)
      show (s.vehicle v).outstanding.any _ = true
      rw [show (s.vehicle v).outstanding = [o] from hout]
      simp
    have hx : (w.setLoad v (.roll id)).vehicle v = { x with load := .roll id } := State.vehicle_setVehicle_self ..
    have hprogressed := State.progressPick_of_only (s := w.setLoad v (.roll id)) (p := number.toNat) (by rw [hx]; exact hout) hprogress
      hpickup (by rw [hx]; exact hqueue)
    rw [exec_vloadPick 1 number id hheard, State.pickTaken_of_reserved hpar hl hr hstatus hu hload, hprogressed, hx]
    refine congrArg (fun t : State => Host.Outcome.next (t.placeUpper _)) ?_
    exact State.setVehicle_setVehicle ..
  case rows =>
    intro reopened unlinked
    have halone : State.Alone c s := ⟨hrun, hpar, hcalls, hsearch, hmark⟩
    have hrising : Table.rising s.tmc.rolls = true := State.rolls_rising hwf
    refine ⟨fun kind hholds => ?hold, fun t rest hid hzero hones hsel => ?roll, fun v dst src number hheard hstatus => ?drop⟩
    case hold =>
      intro held
      have hheld (status : RollStatus) : s.setSlot k { State.firstHeld r kind with status := status } = held status := by
        rw [State.firstHeld, Holds.add_of_none hholds]
      refine ⟨fun hsel => ?_, fun l hord hstatus => ?_⟩
      · obtain ⟨hreserved, hcarried⟩ := State.addHold_of_selected kind halone hr hholds hsel
        exact ⟨fun p hp => by rw [hreserved p hp, hheld]; rfl, fun w hw => by rw [hcarried w hw, ← hheld]; rfl⟩
      · rw [State.addHold_of_named kind halone hr hholds hroll hstatus, ← hheld]
        have hnot : ¬ c.phase = .selected id := fun he => nomatch hord.symm.trans he
        exact if_neg hnot
    case roll =>
      intro w answer
      have hbad : ¬ (u32 t.body 0 = 0 ∨ u32 t.body 0 = 0xFFFFFFFF#32) := by
        rw [hid]
        exact fun h => h.elim hzero hones
      have hfoundw : w.findRoll (u32 t.body 0) = some (k, r) := by
        rw [hid]
        exact hr
      have answers {row : Row} {act : Nat → Roll → State → Result × State} {i : Instr} {u : State}
          (hrow : row = .mrollHold ∨ row = .mrollRemove)
          (hready : Ready row t rest s) (hexec : exec i s = awake (State.serveRequest row (State.rollRequest act)) s)
          (hact : act k r w = (.ok, u)) : answer i u := by
        have ⟨_, _, hrowOf, _, _⟩ := hready
        have hcode : ¬ (3 < (u8 t.body 4).toNat ∨ 5 < (u8 t.body 5).toNat) := by
          have haction := action_le_of_row hrow hrowOf
          omega
        have hrequest := State.rollRequest_of_found (act := act) (s := w) hbad hcode hpar hfoundw
        rw [hact] at hrequest
        exact ⟨_, hexec.trans (served hready hrequest)⟩
      have hw : State.Alone c w := ⟨hrun, hpar, hcalls, hsearch, hmark⟩
      refine ⟨fun hready => answers (act := State.holdRoll) (.inl rfl) hready rfl ?_, fun hready => ?_⟩
      · rw [State.holdRoll, State.id_of_findRoll hr]
      · obtain ⟨hannounced, hstored⟩ := State.removeRoll_of_named hw hrising hroll hr honly
        exact ⟨fun d hd => answers (act := State.removeRoll) (.inr rfl) hready rfl (hannounced d hd),
          fun p hp => answers (act := State.removeRoll) (.inr rfl) hready rfl (hstored p hp)⟩
    case drop =>
      intro n drop emptied down told
      have answers {kind : Byte} {l : Loc} {t : State} (hl : s.keptLoc? kind number = some l) (h : s.dropCarried v l id = t) :
          drop kind t := by
        show exec _ _ = _
        rw [exec_vloadDrop kind number id hheard, State.dropTaken_of_carried hpar hl hr hstatus, h]
        rfl
      refine ⟨fun hlow hhigh => ?_, fun hlow hhigh => ?_, fun hlow hhigh hoccupant hblocked hclaim => ?_,
        fun st hst hnumber hother hclaim hplan => ?_⟩
      · have hl : s.keptLoc? 4 number = some ⟨.waste, n⟩ := State.keptLoc?_of_kept rfl (.inr (.inr (.inr rfl))) hlow hhigh
        exact answers hl (State.dropAtWaste_of_named halone hrising hroll hr honly)
      · have hl : s.keptLoc? 3 number = some ⟨.dock, n⟩ := State.keptLoc?_of_kept rfl (.inr (.inr (.inl rfl))) hlow hhigh
        exact answers hl (State.dropAtDock_of_named halone hroll hr n)
      · have hl : s.keptLoc? 1 number = some ⟨.place, n⟩ := State.keptLoc?_of_kept rfl (.inl rfl) hlow hhigh
        exact answers hl (State.dropAtPlace_of_named halone hroll hr hoccupant hblocked hclaim)
      · have hdropped := State.dropAtStand_of_named (v := v) halone hroll hr hst hother hclaim hplan
        rw [State.onArm_eq hclaim] at hdropped
        exact answers (State.keptLoc?_standLoc hnumber) ((State.dropCarried_standLoc v st id).trans hdropped)

end Sys2Proof.Machine
end
